-- ==== Sys2Proof/Word.lean ====
section
/-!
DEFINITION. The word types of the TH96 and their plainest arithmetic: 64-bit Chord words, 32-bit registers, bytes.
-/
namespace Sys2Proof

/-- A byte of Chord SRAM or of a frame. -/
abbrev Byte := BitVec 8
/-- A 32-bit register word or instruction word. -/
abbrev Word32 := BitVec 32
/-- A 64-bit Chord register or memory word. -/
abbrev Dword := BitVec 64

end Sys2Proof
end

