-- ==== Sys2Proof/Syntax.lean ====
section
/-!
DEFINITION. The commands of the TH96, one constructor per row of the operation table, with the types of their operands.
-/
namespace Sys2Proof

/-- The four lane dies (R12). -/
inductive LaneId where
  | A | B | C | D
deriving DecidableEq, Repr

/-- The three companion dies, each at the position of its primary lane. -/
inductive CompId where
  | CA | CB | CC
deriving DecidableEq, Repr

/-- The outcome of decoding a stored word (R332), as a read of Chord SRAM finds it. -/
inductive Ecc where
  | clean
  | corrected (bit : Nat)
  | address
  | uncorrectable
deriving DecidableEq, Repr

/-- The kinds of compare event of R115, in the order of its table. -/
inductive CmpKind where
  | decode | residue | regstore | result | pred | flag | addr | data
deriving DecidableEq, Repr

/-- The issues of one instruction (R106, R116, R118): the primary on the P slice, the transformed copy on the T slice, the third
issue on the spare slice, and the repeats of both issues where no spare is left. -/
inductive IssueId where
  | prim | twin | third | prim2 | twin2
deriving DecidableEq, Repr

/-- A disturbance of one issue of an instruction, as bits flipped at the points of R115: in its decoder's output (D2), in the
register write value that reaches stage C (72 bits, since the T slice of the AN class brings a code), in its predicate, in its
flags SAT, NV, DZ and NX from bit 0 up, in its address or target, and in its store data. -/
structure Strike where
  issue : IssueId
  dec   : BitVec 64
  res   : BitVec 72
  prd   : Bool
  flg   : BitVec 4
  adr   : BitVec 64
  dat   : BitVec 64
deriving DecidableEq, Repr

/-- What an issued instruction meets besides its operands: the lane it issues in, the half-engine it issues on in
split mode (R124), its guard fields (R39), what the fetch and the data access read from the memory array (R332), the
disturbances of its issues (R115), the bits of the register file that have flipped since the run's previous instruction (by
physical register, with value in bits 0 to 71, tag in 72 to 75 and parity in 76, and by index of the predicate file, R107),
whether exception BUDGET falls due while a mismatch is being resolved (R120), and the heads that compete with its data access
at the bank group's arbiter: requester index and age (R341, R342). -/
structure Issue where
  lane    : LaneId
  half1   : Bool
  pg      : BitVec 3
  pn      : Bool
  fetch   : Ecc
  data    : Ecc
  strikes : List Strike
  hits    : List (Nat × BitVec 77)
  phits   : List Nat
  late    : Bool
  contend : List (Nat × Nat)
deriving DecidableEq, Repr

/-- The conditions of CMP and CMPI (R45). -/
inductive Cond where
  | eq | ne | lt | ge | ltu | geu | tst | ntst
deriving DecidableEq, Repr

/-- The functions of PLOG (R46). -/
inductive PFunc where
  | pand | por | pxor | pandn | porn | pset | pclr
deriving DecidableEq, Repr

/-- The conditions of FCMP (R51). -/
inductive FCond where
  | feq | fne | flt | fge | funord
deriving DecidableEq, Repr

/-- A heartbeat of R263. -/
structure Heartbeat where
  lane     : LaneId
  pathY    : Bool
  state    : Nat
  nonCheck : Bool
  witless  : Bool
  unlinked : Bool
  master   : Bool
  service  : Bool
  xferRdy  : Bool
  seq      : Nat
  depth    : Nat
  dl       : Nat
  key      : Nat
  digest   : Nat
  heardX   : Nat
  heardY   : Nat
  accuse   : Nat
  lost     : Nat
  sib      : Nat
  sibValid : Bool
  sibCycle : Nat
  jseq     : Nat
  image    : Nat
  evid     : Bool
  evidCnt  : Nat
  lstate   : Nat
  cause    : Nat
deriving DecidableEq, Repr

/-- A witness beacon of R264. -/
structure Beacon where
  seq         : Nat
  dl          : Nat
  master      : Nat
  masterValid : Bool
  lstate      : Nat
  jseq        : Nat
deriving DecidableEq, Repr

/-- A lane's status word on the companion route (R264): its flags are those of the heartbeat. -/
structure StatusWord where
  state    : Nat
  nonCheck : Bool
  witless  : Bool
  unlinked : Bool
  master   : Bool := false
  service  : Bool
  xferRdy  : Bool := false
  seq      : Nat
  key      : Nat
  digest   : Nat
deriving DecidableEq, Repr

/-- A journal record of R284. -/
structure JRec where
  jseq   : Nat
  step   : Nat
  status : Nat
  by_    : Nat
  byWit  : Bool
  target : Nat
  time   : Nat
  arg    : Nat
  epoch  : Nat
deriving DecidableEq, Repr

/-- A frame at the MDI (R212): the port it came in on, its SOF timestamp in tick/32 of corrected time (R219), its bytes
from destination address to FCS, and whether the PHY reported a receive error. -/
structure RxFrame where
  netY  : Bool
  sof32 : Nat
  bytes : List Byte
  phyErr : Bool
deriving DecidableEq, Repr

/-- An item that FAB_TX brings to the TX packing queue of an entry before its slot (R349, R356): its bytes, whether its end
strobe came, whether the source read ended with a bus error, and whether the pointer copies differ at the update (R354). -/
structure TxItem where
  bytes  : List Byte
  ended  : Bool
  busErr : Bool
  ptrBad : Bool
deriving DecidableEq, Repr

/-- What the converters hold for one bridge at a PWM centre (R153 to R160), before calibration state is applied: the filter
output, in current-channel units, of the modulators that serve the three phases and of the spares S0 and S1; the 12-bit
codes of the bridge supply and, for each phase voltage, of the samples of the period that ends, oldest first; for each
bridge sensor its input in nV and its excitation in µV; the auxiliary inputs and VREF in µV; and the two temperature
sensors in 1/16 °C. -/
structure CentreObs where
  iU    : Int
  iV    : Int
  iW    : Int
  s0    : Int
  s1    : Int
  vBr   : Nat
  vU    : List Nat
  vV    : List Nat
  vW    : List Nat
  brs0  : Int × Nat
  brs1  : Int × Nat
  aux   : List Nat
  vref  : Nat
  t0    : Int
  t1    : Int
deriving DecidableEq, Repr

/-- The pulses of one SENT message in ticks of the companion (R168): the calibration pulse, the status nibble, the data
nibbles and the CRC nibble in order, and the pause pulse if one came. -/
structure SentPulses where
  cal    : Nat
  nibs   : List Nat
  pause  : Option Nat
deriving DecidableEq, Repr

/-- A sample of a sin/cos pair (R174, R178): sine and cosine in µV as the converters that serve the pair read them, the
readings of converter pair S where S is connected to the pair's balls as well, and the errors in offset, ratio and phase
that the extrema of a completed line showed, in 1/4,096 of amplitude (R175). -/
structure PairObs where
  sin   : Int
  cos   : Int
  spare : Option (Int × Int)
  extrema : Option (Int × Int × Int × Int)
deriving DecidableEq, Repr

/-- The reports a companion makes (R266, R17, R138, R370). -/
inductive CompReport where
  | releaseCheck | lockout | timebase | portFail
deriving DecidableEq, Repr

/-- A path whose failure a lane or the witness sees (R265): a lane's heartbeats on path X or Y, or the beacon on a
route. -/
inductive PathId where
  | hbX (peer : LaneId)
  | hbY (peer : LaneId)
  | beaconY
  | beaconC
deriving DecidableEq, Repr

/-- The content of a configuration image that the Gnomon writes (R18, R377, R436): register words of the lane and of its
companion by address, the node IDs of CA, CB and CC and their schedule tables, the initial data of partitions, the
security version, and its SHA-256 as a number whose least byte is byte 0. -/
structure Setup where
  laneRegs : List (Nat × Nat)
  compRegs : List (List (Nat × Nat))
  nodes    : List Nat
  tables   : List (List Nat)
  init     : List (Nat × Byte)
  svn      : Nat
  digest   : Nat
deriving DecidableEq, Repr

/-- What a read of an MRAM sector finds (R396). -/
inductive MramRead where
  | clean
  | single (word : Nat)
  | double
  | uncorrectable (word : Nat)
deriving DecidableEq, Repr

/-- What the checks of BOOT find (R376, R377, R417, R420): the supervisor's memories, trims and wear record, the
signature of the vault certificate, and for each image slot its signature, its hash, and the setup it holds. -/
structure BootObs where
  supOk   : Bool
  mramOk  : Bool
  certSig : Bool
  sigA    : Bool
  hashA   : Bool
  sigB    : Bool
  hashB   : Bool
  imgA    : Setup
  imgB    : Setup
deriving DecidableEq, Repr

/-- A compare event that logic BIST finds (R120): its kind, the loser slice, the outcome as CHX_LAST codes it, the lowest
differing bit, and the functional unit or physical register of its location (R121). -/
structure BistEvent where
  kind    : CmpKind
  loser   : Option Nat
  outcome : Nat
  bit     : Nat
  unit    : Nat
  phys    : Option Nat
deriving DecidableEq, Repr

/-- What logic BIST reports (R120, R381): the slices whose signature failed, as bits, and the compare events that it found. -/
structure BistRes where
  fail   : Nat
  events : List BistEvent
deriving DecidableEq, Repr

/-- A report of a VDS comparator (R136): the driver, 0 to 5, and the VDS after the filter in mV. -/
structure VdsTrip where
  drv : Nat
  vds : Nat
deriving DecidableEq, Repr

/-- The levels of A and B at the receivers (R179), and for how many ticks they have been stable. -/
structure AbzIn where
  a      : Bool
  b      : Bool
  stable : Nat
deriving DecidableEq, Repr

/-- A rise of the index input of a companion (R179, R182): at the differential or the single-ended receiver, and for how many
ticks the level has been stable. -/
structure IndexIn where
  comp   : CompId
  diff   : Bool
  stable : Nat
deriving DecidableEq, Repr

/-- An edge at a probe input (R186): the tick of its crossing, and for how many ticks the level has been stable. -/
structure PrbIn where
  edge   : Nat
  stable : Nat
deriving DecidableEq, Repr

/-- Lane D's supplies have become good: the instant, whether the copies of its fuse words agree (R376), and whether the signature
of the vault certificate verifies (R417). -/
structure DSupply where
  at_     : Nat
  fuseOk  : Bool
  certSig : Bool
deriving DecidableEq, Repr

/-- A fault that memory BIST finds (R380, R383), by logical bank. -/
inductive BistFault where
  | column (bank col : Nat)
  | row (bank row : Nat)
  | bank (bank : Nat)
  | supervisor
deriving DecidableEq, Repr

/-- What a companion measures in CALIB (R151, R161, R178, R181): for each driver of a bridge the times, in any one unit, to the
gate threshold through its three segments;
offsets of modulators 0 to 5, S0, S1 in units and their gain errors in 1/10,000; failing SAR channels; open bridge
sensors; the two temperature readings in 1/16 °C; failing converter pairs, S as 3; the first sample, sine and cosine in µV, of
pairs 0 to 2 when the position front end starts; and whether everything ended in time. -/
structure CalibRes where
  segs   : List (Bool × Nat × List Nat)
  ofs    : List Int
  gain   : List Int
  sar    : List Nat
  brs    : List Nat
  t0     : Int
  t1     : Int
  conv   : List Nat
  pairs  : List (Int × Int)
  done   : Bool
deriving DecidableEq, Repr

/-- Who makes a register access (R429, R439): the lane's Gnomon, its service SPI port, or a READ_REGS command of the host
rings. -/
inductive Accessor where
  | gnomon | spi | ring
deriving DecidableEq, Repr



/-- The commands of the TH96: one constructor per row of the operation table, in its order. -/
inductive Instr where
  /-- ADDI (R41): Adds a sign-extended 10-bit immediate to ra and writes rd. -/
  | addi (q : Issue) (rd ra : BitVec 6) (imm : BitVec 10)
  /-- ANDI (R41): ANDs ra with a zero-extended immediate and writes rd. -/
  | andi (q : Issue) (rd ra : BitVec 6) (imm : BitVec 10)
  /-- ORI (R41): ORs ra with a zero-extended immediate and writes rd. -/
  | ori (q : Issue) (rd ra : BitVec 6) (imm : BitVec 10)
  /-- XORI (R41): XORs ra with a zero-extended immediate and writes rd. -/
  | xori (q : Issue) (rd ra : BitVec 6) (imm : BitVec 10)
  /-- SLLI (R41): Shifts ra left by an immediate amount and writes rd. -/
  | slli (q : Issue) (rd ra : BitVec 6) (sh : BitVec 6)
  /-- SRLI (R41): Shifts ra right by an immediate amount with zero fill and writes rd. -/
  | srli (q : Issue) (rd ra : BitVec 6) (sh : BitVec 6)
  /-- SRAI (R41): Shifts ra right by an immediate amount with sign fill and writes rd. -/
  | srai (q : Issue) (rd ra : BitVec 6) (sh : BitVec 6)
  /-- MULI (R41): Writes the low 64 bits of ra times a sign-extended immediate to rd. -/
  | muli (q : Issue) (rd ra : BitVec 6) (imm : BitVec 10)
  /-- MOVZ (R41): Writes imm16 shifted by 16 times hw to rd, zeroing the other bits. -/
  | movz (q : Issue) (rd : BitVec 6) (hw : BitVec 2) (imm : BitVec 16)
  /-- MOVK (R41): Inserts imm16 into one 16-bit field of rd and keeps the other bits. -/
  | movk (q : Issue) (rd : BitVec 6) (hw : BitVec 2) (imm : BitVec 16)
  /-- ADD (R42): Writes ra plus rb to rd, wrapping. -/
  | add (q : Issue) (rd ra rb : BitVec 6)
  /-- SUB (R42): Writes ra minus rb to rd, wrapping. -/
  | sub (q : Issue) (rd ra rb : BitVec 6)
  /-- AND (R42): Writes ra AND rb to rd. -/
  | and (q : Issue) (rd ra rb : BitVec 6)
  /-- OR (R42): Writes ra OR rb to rd. -/
  | or (q : Issue) (rd ra rb : BitVec 6)
  /-- XOR (R42): Writes ra XOR rb to rd. -/
  | xor (q : Issue) (rd ra rb : BitVec 6)
  /-- ANDN (R42): Writes ra AND NOT rb to rd. -/
  | andn (q : Issue) (rd ra rb : BitVec 6)
  /-- SLL (R42): Shifts ra left by rb[5:0] and writes rd. -/
  | sll (q : Issue) (rd ra rb : BitVec 6)
  /-- SRL (R42): Shifts ra right by rb[5:0] with zero fill and writes rd. -/
  | srl (q : Issue) (rd ra rb : BitVec 6)
  /-- SRA (R42): Shifts ra right by rb[5:0] with sign fill and writes rd. -/
  | sra (q : Issue) (rd ra rb : BitVec 6)
  /-- MUL (R42): Writes the low 64 bits of ra times rb to rd. -/
  | mul (q : Issue) (rd ra rb : BitVec 6)
  /-- MULHS (R42): Writes the high 64 bits of the signed 128-bit product to rd. -/
  | mulhs (q : Issue) (rd ra rb : BitVec 6)
  /-- MULHU (R42): Writes the high 64 bits of the unsigned 128-bit product to rd. -/
  | mulhu (q : Issue) (rd ra rb : BitVec 6)
  /-- MIN (R42): Writes the signed minimum of ra and rb to rd. -/
  | min (q : Issue) (rd ra rb : BitVec 6)
  /-- MAX (R42): Writes the signed maximum of ra and rb to rd. -/
  | max (q : Issue) (rd ra rb : BitVec 6)
  /-- MINU (R42): Writes the unsigned minimum of ra and rb to rd. -/
  | minu (q : Issue) (rd ra rb : BitVec 6)
  /-- MAXU (R42): Writes the unsigned maximum of ra and rb to rd. -/
  | maxu (q : Issue) (rd ra rb : BitVec 6)
  /-- DIV (R43): Writes the signed quotient truncated toward zero, raising DIVZERO for rb = 0. -/
  | div (q : Issue) (rd ra rb : BitVec 6)
  /-- DIVU (R43): Writes the unsigned quotient, raising DIVZERO for rb = 0. -/
  | divu (q : Issue) (rd ra rb : BitVec 6)
  /-- REM (R43): Writes the signed remainder with the sign of ra, raising DIVZERO for rb = 0. -/
  | rem (q : Issue) (rd ra rb : BitVec 6)
  /-- REMU (R43): Writes the unsigned remainder, raising DIVZERO for rb = 0. -/
  | remu (q : Issue) (rd ra rb : BitVec 6)
  /-- ABS (R43): Writes the absolute value of ra to rd. -/
  | abs (q : Issue) (rd ra : BitVec 6)
  /-- NEG (R43): Writes 0 minus ra to rd. -/
  | neg (q : Issue) (rd ra : BitVec 6)
  /-- CLZ (R43): Writes the count of leading zero bits of ra to rd. -/
  | clz (q : Issue) (rd ra : BitVec 6)
  /-- POPC (R43): Writes the count of one bits of ra to rd. -/
  | popc (q : Issue) (rd ra : BitVec 6)
  /-- SEXTW (R43): Writes ra[31:0] sign-extended to rd. -/
  | sextw (q : Issue) (rd ra : BitVec 6)
  /-- ZEXTW (R43): Writes ra[31:0] zero-extended to rd. -/
  | zextw (q : Issue) (rd ra : BitVec 6)
  /-- SATW (R43): Clamps ra to the int32 range, setting SAT when clamped. -/
  | satw (q : Issue) (rd ra : BitVec 6)
  /-- SATH (R43): Clamps ra to the int16 range, setting SAT when clamped. -/
  | sath (q : Issue) (rd ra : BitVec 6)
  /-- CMP (R45): Compares ra with rb under cond and writes the predicate pd. -/
  | cmp (q : Issue) (pd : BitVec 3) (c : Cond) (ra rb : BitVec 6)
  /-- CMPI (R45): Compares ra with a sign-extended immediate under cond and writes pd. -/
  | cmpi (q : Issue) (pd : BitVec 3) (c : Cond) (ra : BitVec 6) (imm : BitVec 10)
  /-- PLOG (R46): Writes pd as a logic function of the predicates pa and pb. -/
  | plog (q : Issue) (pd : BitVec 3) (f : PFunc) (pa pb : BitVec 3)
  /-- QADD (R47): Performs a saturating Q31 addition. -/
  | qadd (q : Issue) (rd ra rb : BitVec 6)
  /-- QSUB (R47): Performs a saturating Q31 subtraction. -/
  | qsub (q : Issue) (rd ra rb : BitVec 6)
  /-- QMUL15 (R47): Performs a rounded, saturating Q15 multiplication. -/
  | qmul15 (q : Issue) (rd ra rb : BitVec 6)
  /-- QMUL31 (R47): Performs a rounded, saturating Q31 multiplication. -/
  | qmul31 (q : Issue) (rd ra rb : BitVec 6)
  /-- QMAC31 (R47): Adds a rounded Q31 product to rd with saturation. -/
  | qmac31 (q : Issue) (rd ra rb : BitVec 6)
  /-- QMSU31 (R47): Subtracts a rounded Q31 product from rd with saturation. -/
  | qmsu31 (q : Issue) (rd ra rb : BitVec 6)
  /-- QABS (R47): Writes the saturated Q31 absolute value. -/
  | qabs (q : Issue) (rd ra rb : BitVec 6)
  /-- QNEG (R47): Writes the saturated Q31 negation. -/
  | qneg (q : Issue) (rd ra rb : BitVec 6)
  /-- QSHL (R47): Performs a saturating Q31 left shift by rb[4:0]. -/
  | qshl (q : Issue) (rd ra rb : BitVec 6)
  /-- QRSR (R47): Performs a rounding Q31 right shift by rb[4:0]. -/
  | qrsr (q : Issue) (rd ra rb : BitVec 6)
  /-- QLIM (R47): Clamps a to plus or minus |b|, setting SAT when clamped. -/
  | qlim (q : Issue) (rd ra rb : BitVec 6)
  /-- FADD (R50): Performs a binary32 addition with IEEE flags. -/
  | fadd (q : Issue) (rd ra rb : BitVec 6)
  /-- FSUB (R50): Performs a binary32 subtraction. -/
  | fsub (q : Issue) (rd ra rb : BitVec 6)
  /-- FMUL (R50): Performs a binary32 multiplication. -/
  | fmul (q : Issue) (rd ra rb : BitVec 6)
  /-- FDIV (R50): Performs a binary32 division, setting DZ on division by zero. -/
  | fdiv (q : Issue) (rd ra rb : BitVec 6)
  /-- FSQRT (R50): Computes a binary32 square root. -/
  | fsqrt (q : Issue) (rd ra : BitVec 6)
  /-- FMIN (R50): Writes the smaller binary32 operand under the NaN and zero rules. -/
  | fmin (q : Issue) (rd ra rb : BitVec 6)
  /-- FMAX (R50): Writes the larger binary32 operand under the NaN and zero rules. -/
  | fmax (q : Issue) (rd ra rb : BitVec 6)
  /-- FABS (R50): Clears the sign bit of a binary32 value without setting flags. -/
  | fabs (q : Issue) (rd ra rb : BitVec 6)
  /-- FNEG (R50): Inverts the sign bit of a binary32 value without setting flags. -/
  | fneg (q : Issue) (rd ra rb : BitVec 6)
  /-- FMAC (R50): Computes rd plus a times b, fused with one rounding. -/
  | fmac (q : Issue) (rd ra rb : BitVec 6)
  /-- FMSC (R50): Computes rd minus a times b, fused with one rounding. -/
  | fmsc (q : Issue) (rd ra rb : BitVec 6)
  /-- FCVTWS (R50): Converts binary32 to int32 with saturation. -/
  | fcvtws (q : Issue) (rd ra rb : BitVec 6)
  /-- FCVTSW (R50): Converts int32 to binary32. -/
  | fcvtsw (q : Issue) (rd ra rb : BitVec 6)
  /-- FCVTQS (R50): Converts binary32 to Q31 with saturation. -/
  | fcvtqs (q : Issue) (rd ra rb : BitVec 6)
  /-- FCVTSQ (R50): Converts Q31 to binary32. -/
  | fcvtsq (q : Issue) (rd ra rb : BitVec 6)
  /-- FCLASS (R50): Writes a one-hot class of the binary32 operand. -/
  | fclass (q : Issue) (rd ra rb : BitVec 6)
  /-- FCMP (R51): Compares two binary32 values and writes pd. -/
  | fcmp (q : Issue) (pd : BitVec 3) (c : FCond) (ra rb : BitVec 6)
  /-- SINCOS (R483): Computes the Q31 cosine and sine of a turn angle by CORDIC. -/
  | sincos (q : Issue) (rd ra : BitVec 6)
  /-- ATAN2 (R483): Computes the angle and magnitude of a Q31 vector by CORDIC. -/
  | atan2 (q : Issue) (rd ra rb : BitVec 6)
  /-- CLARKE (R53): Computes the Clarke transform of two phase currents. -/
  | clarke (q : Issue) (rd ra rb : BitVec 6)
  /-- PARK (R53): Computes the Park transform of an alpha-beta pair. -/
  | park (q : Issue) (rd ra rb : BitVec 6)
  /-- IPARK (R53): Computes the inverse Park transform of a d-q pair. -/
  | ipark (q : Issue) (rd ra rb : BitVec 6)
  /-- SVM (R55): Computes three space-vector duties and the sector. -/
  | svm (q : Issue) (rd ra : BitVec 6)
  /-- LD (R56): Loads a 64-bit word from a partition that grants the access. -/
  | ld (q : Issue) (rd ra : BitVec 6) (off : BitVec 10)
  /-- LW (R56): Loads 32 bits sign-extended. -/
  | lw (q : Issue) (rd ra : BitVec 6) (off : BitVec 10)
  /-- LWU (R56): Loads 32 bits zero-extended. -/
  | lwu (q : Issue) (rd ra : BitVec 6) (off : BitVec 10)
  /-- LH (R56): Loads 16 bits sign-extended. -/
  | lh (q : Issue) (rd ra : BitVec 6) (off : BitVec 10)
  /-- LHU (R56): Loads 16 bits zero-extended. -/
  | lhu (q : Issue) (rd ra : BitVec 6) (off : BitVec 10)
  /-- LB (R56): Loads 8 bits sign-extended. -/
  | lb (q : Issue) (rd ra : BitVec 6) (off : BitVec 10)
  /-- LBU (R56): Loads 8 bits zero-extended. -/
  | lbu (q : Issue) (rd ra : BitVec 6) (off : BitVec 10)
  /-- SD (R56): Stores 64 bits of rs, or into the store buffer in a candidate run. -/
  | sd (q : Issue) (rs ra : BitVec 6) (off : BitVec 10)
  /-- SW (R56): Stores rs[31:0]. -/
  | sw (q : Issue) (rs ra : BitVec 6) (off : BitVec 10)
  /-- SH (R56): Stores rs[15:0]. -/
  | sh (q : Issue) (rs ra : BitVec 6) (off : BitVec 10)
  /-- SB (R56): Stores rs[7:0]. -/
  | sb (q : Issue) (rs ra : BitVec 6) (off : BitVec 10)
  /-- BR (R58): Branches PC-relative to a target in a CODE partition. -/
  | br (q : Issue) (off : BitVec 22)
  /-- CALL (R58): Writes the return address to g63 and branches. -/
  | call (q : Issue) (off : BitVec 22)
  /-- JR (R58): Jumps to the address in ra. -/
  | jr (q : Issue) (ra : BitVec 6)
  /-- SEAL (R61): Ends the activation or candidate run and releases the OUTPUT partition when every compare was equal. -/
  | seal (q : Issue) (tm : Nat)
  /-- LKB (R59): Starts or extends a locked sequence on a bank group. -/
  | lkb (q : Issue) (g : BitVec 3)
  /-- LKE (R59): Releases every held bank group. -/
  | lke (q : Issue)
  /-- TRAP (R60): Raises exception TRAP with an 8-bit code. -/
  | trap (q : Issue) (code : BitVec 8)
  /-- ILLEGAL_ENCODING (R40): An unassigned or malformed encoding raises ILLEGAL at decode, whatever its guard. -/
  | illegalEncoding (q : Issue) (word : BitVec 32)
  /-- PERIODIC_INJECTION (R123): After INJ_PERIOD activations a difference is injected into the comparator and checked. -/
  | periodicInjection (tm : Nat) (l : LaneId) (pass : Bool)
  /-- ACTIVATION (R71): A qualifying PWM source event at the activation offset activates the task. -/
  | activation (tm : Nat) (c : CompId) (b : Bool)
  /-- SAMPLE_BLOCK_STORED (R68): The lane port stores the sample and associated blocks in the task's INPUT partition. -/
  | sampleBlockStored (tm : Nat) (c : CompId) (b : Bool)
  /-- RELEASE (R69): The released output block is held in the companion. -/
  | release (tm : Nat) (l : LaneId)
  /-- OVERRUN (R84): An activation not sealed by t_A + BUDGET raises BUDGET and CHE_OVERRUN. -/
  | overrun (tm : Nat) (l : LaneId) (task : Nat)
  /-- CANDIDATE_STAGED (R95): A sealed candidate's FABRIC_OUT is staged in echo staging slot k. -/
  | candidateStaged (tm : Nat) (l : LaneId) (k : Nat)
  /-- STAGING_DEADLINE (R89): At the staging deadline the window closes and unsealed or unstaged candidates are squashed. -/
  | stagingDeadline (tm : Nat) (l : LaneId)
  /-- DEPTH_REEVALUATION (R97): After 64 activations of the speculative task the lane re-evaluates its depth proposal. -/
  | depthReevaluation (tm : Nat) (l : LaneId)
  /-- SETPOINT_FRAME (R100): An accepted setpoint frame is checked for legality and matched against the candidates. -/
  | setpointFrame (tm : Nat) (c : CompId) (f : RxFrame)
  /-- SETPOINT_MISS (R103): At the end of the setpoint slot without an accepted setpoint, candidates are squashed and MISS counts. -/
  | setpointMiss (tm : Nat) (c : CompId)
  /-- PWM_CENTRE (R129): At the PWM centre the companion latches samples, position and the winding mask. -/
  | pwmCentre (tm : Nat) (c : CompId) (b : Bool) (o : CentreObs)
  /-- PWM_RELOAD (R134): At a reload point the held duties, current limit and ENABLE take effect. -/
  | pwmReload (tm : Nat) (c : CompId) (b : Bool)
  /-- DESAT (R136): A VDS comparator trip turns all six gates of the bridge to sink and latches DESAT. -/
  | desat (tm : Nat) (c : CompId) (b : Bool) (x : VdsTrip)
  /-- HW_OC (R136): A phase current above HW_OC turns the gates off and latches the fault. -/
  | hwOc (tm : Nat) (c : CompId) (b : Bool) (fast : List Int)
  /-- CURRENT_LIMIT (R139): A phase current above the effective limit turns the gates off until the next reload. -/
  | currentLimit (tm : Nat) (c : CompId) (b : Bool) (fast : List Int)
  /-- LATCHED_FAULT_CLEAR (R137): The Gnomon clears a latched bridge fault 10 ms after it was set. -/
  | latchedFaultClear (tm : Nat) (c : CompId) (b : Bool)
  /-- DRV_FAULT_CLEAR (R450): A write of 1 to GDV_STAT DESAT or HWOC clears it only when 10 ms have passed without supply condition. -/
  | drvFaultClear (tm : Nat) (c : CompId) (b : Bool) (desat hwoc : Bool)
  /-- VDRV_UNDERVOLTAGE (R136): VDRV below its threshold turns the gates of both bridges off until recovery. -/
  | vdrvUndervoltage (tm : Nat) (c : CompId)
  /-- VBR_OUT_OF_LIMITS (R136): A bridge supply outside 5.5 V to 63 V turns that bridge's gates off. -/
  | vbrOutOfLimits (tm : Nat) (c : CompId) (b : Bool) (above : Bool)
  /-- GATE_TIMEOUT (R152): A gate not at threshold within GATE_TMO raises DRV_GATE_SLOW. -/
  | gateTimeout (tm : Nat) (c : CompId) (b : Bool) (drv : Nat)
  /-- HOLD_EXPIRY (R15): When a switch stays OPEN for two PWM periods, the holding brakes go to their fail state. -/
  | holdExpiry (tm : Nat) (c : CompId)
  /-- SWITCH_OPEN (R149): At the first B1 centre at least 300 ns after t_X the witness sets the switch OPEN. -/
  | switchOpen (tm : Nat) (c : CompId)
  /-- SWITCH_SPARE (R149): The switch reaches SPARE and lane D adopts the companion. -/
  | switchSpare (tm : Nat) (c : CompId)
  /-- JOIN_END (R149): The witness ends joining and the companions latch the mask with the winding driven. -/
  | joinEnd (tm : Nat) (c : CompId) (b : Bool)
  /-- SWITCH_HANDSHAKE_RESUME (R13): The witness sets a powered-up companion's switch position and quarantine from its record. -/
  | switchHandshakeResume (tm : Nat) (c : CompId)
  /-- MODULATOR_FAIL (R163): 64 identical bitstream bits decide a modulator failed and start substitution. -/
  | modulatorFail (tm : Nat) (c : CompId) (m : Nat)
  /-- SPARE_SETTLED (R165): A substituting spare modulator has settled and delivers the channel's results. -/
  | spareSettled (tm : Nat) (c : CompId) (sp : Nat)
  /-- SUM_CHECK_FAIL (R164): The phase-current sum check fails on 4 centres and a spare isolates the channel; `sp`: the spare taken where
  both are free (the rule says a free spare). -/
  | sumCheckFail (tm : Nat) (c : CompId) (b : Bool) (sp : Nat)
  /-- SPARE_SHADOW_ROTATE (R164): A free spare modulator moves to shadow the next channel after 256 periods;
  `ch`: the channel at which the round robin of a spare that shadows none begins (the rule names none). -/
  | spareShadowRotate (tm : Nat) (c : CompId) (sp ch : Nat)
  /-- TEMP_DISAGREE (R160): Temperature sensors differing by more than 8 °C for 10 ms set TEMP_DIS. -/
  | tempDisagree (tm : Nat) (c : CompId) (t0 t1 : Int)
  /-- BRIDGE_SENSOR_OPEN (R158): A bridge-sensor input out of range for 1 ms is cleared valid and raises MFE_BRS_OPEN. -/
  | bridgeSensorOpen (tm : Nat) (c : CompId) (sensor : Nat)
  /-- SENT_MESSAGE (R168): A SENT receiver decodes or rejects a fast-channel message. -/
  | sentMessage (tm : Nat) (c : CompId) (n : Nat) (m : SentPulses)
  /-- SENT_STALE (R169): No accepted SENT message for STALE ms clears VALID and raises SNT_STALE. -/
  | sentStale (tm : Nat) (c : CompId) (n : Nat)
  /-- SIGNAL_WARNING (R176): A sin/cos amplitude outside 0.5 to 1.2 Vpp for 16 samples sets SIG_WARN. -/
  | signalWarning (tm : Nat) (c : CompId) (k : Nat)
  /-- TRACK_CHECK_START (R178): A track fault connects converter pair S in parallel and qualifies the channel DOUBT. -/
  | trackCheckStart (tm : Nat) (c : CompId) (k : Nat)
  /-- TRACK_CHECK_END (R178): After 64 samples S substitutes for the pair, or the track fails; `b`: the bridge
  that the event names where both channels use the pair (the rule names none). -/
  | trackCheckEnd (tm : Nat) (c : CompId) (k : Nat) (b : Bool)
  /-- CONVERTER_SHADOW_STEP (R178): A free converter pair S moves to shadow the next enabled pair after 1 ms;
  `k`: the pair from which on an S that shadows none begins (the rule names none). -/
  | converterShadowStep (tm : Nat) (c : CompId) (k : Nat)
  /-- ABZ_EDGE (R179): An accepted A/B/Z state change updates the count or is an illegal transition. -/
  | abzEdge (tm : Nat) (c : CompId) (diff : Bool) (x : AbzIn)
  /-- INDEX_EDGE (R182): An index edge homes the channel or yields MATCH, ADJUST or MISMATCH. -/
  | indexEdge (tm : Nat) (x : IndexIn)
  /-- INDEX_MISSING (R183): Movement beyond CPR plus tolerance with no index edge yields MISSING. -/
  | indexMissing (tm : Nat) (c : CompId) (b : Bool)
  /-- PROBE_EDGE (R186): A probe latches the time and interpolated position of a selected edge. -/
  | probeEdge (tm : Nat) (c : CompId) (p : Nat) (rising : Bool) (x : PrbIn)
  /-- SPEED_WINDOW_END (R188): At the end of a speed window SPD and the speed qualifier are updated. -/
  | speedWindowEnd (tm : Nat) (c : CompId) (b : Bool)
  /-- PLAUSIBILITY_FAIL (R190): The two tracks differ beyond PLAUS_TOL on PLAUS_N centres and POS_PLAUS is raised. -/
  | plausibilityFail (tm : Nat) (c : CompId) (b : Bool)
  /-- SIO_TICK (R195): Every 250 µs the companion samples and evaluates every enabled safety input. -/
  | sioTick (tm : Nat) (c : CompId) (closedA closedB : Nat)
  /-- PULL_IN_END (R203): After PULL ms the output in RELEASED_ECO starts chopping the high side. -/
  | pullInEnd (tm : Nat) (c : CompId) (j : Nat)
  /-- DARK_TEST_START (R207): Each test period one switch of a released output is turned off for TEST_US. -/
  | darkTestStart (tm : Nat) (c : CompId) (j : Nat)
  /-- DARK_TEST_END (R207): The dark test judges the node voltage and restores the switch. -/
  | darkTestEnd (tm : Nat) (c : CompId) (j : Nat) (pass : Bool)
  /-- SBC_OVERCURRENT (R202): Coil current above 3 A turns both switches off and latches a fault. -/
  | sbcOvercurrent (tm : Nat) (c : CompId) (j : Nat) (cur : Nat)
  /-- SBC_FAULT_DETECT (R208): A timed stuck-switch or open-coil condition latches an output fault. -/
  | sbcFaultDetect (tm : Nat) (c : CompId) (j : Nat) (kind : Nat) (cur : Nat)
  /-- SBC_SUPPLY_LOSS (R208): VSBC below its threshold for 1 ms raises SBC_SUPPLY. -/
  | sbcSupplyLoss (tm : Nat) (c : CompId) (low : Bool)
  /-- CYCLE_START (R218): A new fabric cycle starts. -/
  | cycleStart (tm : Nat) (c : CompId)
  /-- TX_SLOT (R230): At a TX action point the guardian starts the TT frame of the entry. -/
  | txSlot (tm : Nat) (c : CompId) (slot : Nat) (items : List TxItem)
  /-- TT_DATA_RECEIVE (R226): A TT_DATA frame is accepted in an RX slot and its payload delivered. -/
  | ttDataReceive (tm : Nat) (c : CompId) (f : RxFrame) (ptrBad : Bool)
  /-- TT_NULL_RECEIVE (R233): A TT_NULL counts for membership only. -/
  | ttNullReceive (tm : Nat) (c : CompId) (f : RxFrame)
  /-- SYNC_RECEIVE (R225): An accepted SYNC frame gives a sync deviation. -/
  | syncReceive (tm : Nat) (c : CompId) (f : RxFrame)
  /-- COLDSTART_RECEIVE (R243): A decodable COLDSTART frame leads to adoption or is ignored by rank. -/
  | coldstartReceive (tm : Nat) (c : CompId) (f : RxFrame)
  /-- SLEW_END (R245): The adoption slew ends and observation of full valid cycles begins. -/
  | slewEnd (tm : Nat) (c : CompId)
  /-- CLAIM_RECEIVE (R254): An accepted CLAIM frame advances the view of a spare slot. -/
  | claimReceive (tm : Nat) (c : CompId) (f : RxFrame)
  /-- SYNC_CORRECTION (R225): At the end of the TT segment the node computes the clock correction. -/
  | syncCorrection (tm : Nat) (c : CompId)
  /-- ET_SEGMENT_START (R237): At the ET segment the node sends its held ET_RWP and WAKE_DB frames. -/
  | etSegmentStart (tm : Nat) (c : CompId)
  /-- LISTEN_TIMEOUT (R243): The listen timer expires and a coldstart node enters CS_SEND. -/
  | listenTimeout (tm : Nat) (c : CompId)
  /-- CORRUPTED_RECEPTION (R243): A corrupted reception restarts the listen timer or ends an attempt. -/
  | corruptedReception (tm : Nat) (c : CompId) (netY fcsErr : Bool)
  /-- BACKOFF_END (R243): The coldstart backoff ends and the node returns to LISTEN. -/
  | backoffEnd (tm : Nat) (c : CompId)
  /-- COLDSTART_HOLDOFF_END (R243): After 256 cycles in LISTEN the coldstart attempt count restarts. -/
  | coldstartHoldoffEnd (tm : Nat) (c : CompId)
  /-- MEMBERSHIP_DECISION (R250): The node decides its own membership bit from its siblings' reports. -/
  | membershipDecision (tm : Nat) (c : CompId)
  /-- CLAIM_BACKOFF_END (R255): After a collision backoff the node resumes claiming. -/
  | claimBackoffEnd (tm : Nat) (c : CompId) (k : Nat)
  /-- PHY_LINK_CHANGE (R256): A PHY link loss or recovery changes the network judgement. -/
  | phyLinkChange (tm : Nat) (c : CompId) (netY : Bool) (up : Bool)
  /-- HEARTBEAT_SEND (R263): Every 10 µs a powered lane sends its heartbeat on both paths. -/
  | heartbeatSend (tm : Nat) (l : LaneId)
  /-- HEARTBEAT_RECEIVE (R263): A heartbeat updates the receiver's view of lane states, depth and digests. -/
  | heartbeatReceive (tm : Nat) (rx : Option LaneId) (h : Heartbeat) (crcOk : Bool)
  /-- BEACON_SEND (R264): Every 10 µs the witness sends its beacon on path Y and the companion route. -/
  | beaconSend (tm : Nat)
  /-- BEACON_RECEIVE (R264): A lane receives the witness beacon. -/
  | beaconReceive (tm : Nat) (l : LaneId) (pathY : Bool) (w : Beacon) (crcOk : Bool)
  /-- STATUS_WORD_RECEIVE (R264): The witness receives a lane's status word over the companion route. -/
  | statusWordReceive (tm : Nat) (l : LaneId) (w : StatusWord) (crcOk : Bool)
  /-- COMPANION_REPORT (R266): A companion report of release check, lockout, timebase or port failure reaches the witness or lane. -/
  | companionReport (tm : Nat) (c : CompId) (kind : CompReport)
  /-- PATH_FAIL (R265): Three missing heartbeats on one path mark that path failed. -/
  | pathFail (tm : Nat) (l : LaneId) (w : PathId)
  /-- PATH_RECOVER (R265): A path recovers after 100 intervals without a miss. -/
  | pathRecover (tm : Nat) (l : LaneId) (w : PathId)
  /-- LANE_SILENT (R266): A lane silent for three intervals is decided lost. -/
  | laneSilent (tm : Nat) (l : LaneId)
  /-- VOTE_EVALUATE (R268): Key K is evaluated when all active lanes reported it or 30 µs passed. -/
  | voteEvaluate (tm : Nat) (key : Nat)
  /-- WITNESSLESS_ENTRY (R272): A lane missing the beacon on both routes for three intervals enters witnessless mode. -/
  | witnesslessEntry (tm : Nat) (l : LaneId)
  /-- UNLINKED_ENTRY (R274): A lane hearing a peer only through fabric status records enters UNLINKED operation. -/
  | unlinkedEntry (tm : Nat) (l peer : LaneId)
  /-- SUSPECT_TIMEOUT (R261): A SUSPECT lane enters RETIRED 2 ms after the loss if its capsule is not committed. -/
  | suspectTimeout (tm : Nat) (l : LaneId)
  /-- JOURNAL_RECORD_RECEIVE (R286): A BEGUN, DONE or REFUSED journal record is stored and routed to LOGQ. -/
  | journalRecordReceive (tm : Nat) (l : LaneId) (r : JRec)
  /-- LANE_D_SUPPLY_GOOD (R290): Lane D's supplies are good and fuses and trims load. -/
  | laneDSupplyGood (x : DSupply)
  /-- IMAGE_LOADED (R290): Lane D has verified the vault image, initialised memory and written setup. -/
  | imageLoaded (tm : Nat) (ok : Bool) (img : Setup)
  /-- STATE_COPY_RECEIVE (R291): Lane D keeps a complete copy that passes its CRC. -/
  | stateCopyReceive (tm : Nat) (part : Option Nat) (crcOk : Bool)
  /-- BRING_IN_DEADLINE (R290): A bring-in limit missed ends lane D's start. -/
  | bringInDeadline (tm : Nat) (step : Nat)
  /-- PROOF_WAKE_END (R295): Lane D writes the proof record and the witness opens the power switch. -/
  | proofWakeEnd (tm : Nat) (failStep : Nat) (aborted : Bool)
  /-- RCA_POLL (R305): Every N cycles a serving lane reads the ring control area. -/
  | rcaPoll (tm : Nat) (l : LaneId)
  /-- RWP_READ_RSP (R309): An accepted READ_RSP ends a read request and its data drive doorbells or fetches. -/
  | rwpReadRsp (tm : Nat) (c : CompId) (f : RxFrame)
  /-- RING_GEN_REWRITE (R303): After old writes end, uncovered descriptors are rewritten from index 0. -/
  | ringGenRewrite (tm : Nat) (l : LaneId) (r : Nat)
  /-- RWP_WRITE_ACK (R309): An accepted WRITE_ACK ends a write request and allows device words to follow. -/
  | rwpWriteAck (tm : Nat) (c : CompId) (f : RxFrame)
  /-- RWP_ERROR_RSP (R312): An ERROR_RSP ends the request and stops the ring. -/
  | rwpErrorRsp (tm : Nat) (c : CompId) (f : RxFrame)
  /-- RWP_RESEND (R310): A request without response after two cycles is resent or fails. -/
  | rwpResend (tm : Nat) (l : LaneId)
  /-- HOST_LOST (R310): No response for HOST_TMO sets HOST_LOST. -/
  | hostLost (tm : Nat) (l : LaneId)
  /-- WAKE_DB_RECEIVE (R306): A WAKE_DB frame naming a served ring causes an extra RCA read. -/
  | wakeDbReceive (tm : Nat) (c : CompId) (f : RxFrame)
  /-- NOP (R319): A NOP command completes with no effect. -/
  | nop (tm : Nat) (l : LaneId)
  /-- APP_DRIVE (R323): An APP_DRIVE command is checked and forwarded for application at T_app. -/
  | appDrive (tm : Nat) (l : LaneId)
  /-- APP_SAFE (R323): An APP_SAFE command is checked and forwarded for application at T_app. -/
  | appSafe (tm : Nat) (l : LaneId)
  /-- APP_CONFIG (R323): An APP_CONFIG command is checked and forwarded for application at T_app. -/
  | appConfig (tm : Nat) (l : LaneId)
  /-- READ_REGS (R319): Reads up to eight registers into the completion. -/
  | readRegs (tm : Nat) (l : LaneId)
  /-- CLEAR_CAPSULE (R412): Releases the first-fault capsule in every powered lane. -/
  | clearCapsule (tm : Nat) (l : LaneId)
  /-- FLUSH_RING (R328): Discards undelivered items of an EVTQ, LOGQ or TRCQ. -/
  | flushRing (tm : Nat) (l : LaneId)
  /-- POWER_REQ (R362): Requests a power state, voted when it is lower than the present one. -/
  | powerReq (tm : Nat) (l : LaneId)
  /-- APP_FORWARD_RECEIVE (R323): A lane receives a forwarded APP command with its T_app. -/
  | appForwardReceive (tm : Nat) (l : LaneId)
  /-- APP_APPLY (R323): At T_app the lane rechecks legality and applies the command at the named activation. -/
  | appApply (tm : Nat) (l : LaneId)
  /-- APP_TIMEOUT (R324): No named task activated within 100 ms of T_app completes TIMEOUT. -/
  | appTimeout (tm : Nat) (l : LaneId)
  /-- SCRUB_READ (R334): A paced scrub read checks a word and writes back a corrected one. -/
  | scrubRead (tm : Nat) (l : LaneId) (g : Nat) (e : Ecc)
  /-- REPAIR_COPY_DONE (R337): The repair copy ends and the element switches to the spare. -/
  | repairCopyDone (tm : Nat) (l : LaneId) (g : Nat)
  /-- ARB_HOLD_TIMEOUT (R348): A grant held more than 2 µs is ended by the arbiter. -/
  | arbHoldTimeout (tm : Nat) (l : LaneId) (g : Nat)
  /-- FQ_IDLE_TIMEOUT (R353): No byte for IDLE µs ends the packing queue item. -/
  | fqIdleTimeout (tm : Nat) (c : CompId) (n : Nat)
  /-- FQ_FLUSH (R352): A write to FQ_CTL.FLUSH requests a queue flush. -/
  | fqFlush (tm : Nat) (l : LaneId) (w : Nat)
  /-- FQ_FLUSH_TAKE_EFFECT (R352): After the item being read ends, the flush discards the queue and writes a FLUSH marker. -/
  | fqFlushTakeEffect (tm : Nat) (c : CompId) (n : Nat)
  /-- FQ_GAP_MARKER_WRITE (R351): A pending gap marker is written once a word is free. -/
  | fqGapMarkerWrite (tm : Nat) (c : CompId) (n : Nat)
  /-- FQ_RX_DELIVER (R355): FAB_RX moves a complete item into the receive area. -/
  | fqRxDeliver (tm : Nat) (c : CompId) (n : Nat) (ptrBad : Bool)
  /-- POWER_VOTE_REQUEST (R362): A lane polls its blocks on a power entry request and answers. -/
  | powerVoteRequest (tm : Nat) (l : LaneId)
  /-- POWER_VOTE_ANSWER (R362): A voter's answer passes or refuses the entry. -/
  | powerVoteAnswer (tm : Nat) (v : Nat)
  /-- POWER_VOTE_TIMEOUT (R324): A vote not concluded within 10 ms completes TIMEOUT. -/
  | powerVoteTimeout (tm : Nat)
  /-- RETENTION_EDGE_ENTRY (R364): At the first retention edge the witness latches N_entry and the device power-gates. -/
  | retentionEdgeEntry (tm : Nat)
  /-- WAKE_TELEGRAM_END (R367): A 100 µs pause ends a wake telegram, which is checked. -/
  | wakeTelegramEnd (tm : Nat) (bits : List Bool)
  /-- TIMEBASE_LOCK (R369): A companion's crystal runs and its timebase locks. -/
  | timebaseLock (tm : Nat) (c : CompId)
  /-- RETENTION_EDGE_WAKE (R372): At the retention edge after lock every companion restores T_corr. -/
  | retentionEdgeWake (tm : Nat)
  /-- PAD_RELEASE (R366): A write to PWR_PAD_RELEASE releases a held pad group. -/
  | padRelease (tm : Nat) (l : LaneId) (n : Nat)
  /-- CRYSTAL_FAIL (R370): A failed crystal turns gates off and reports the drive lost. -/
  | crystalFail (tm : Nat) (c : CompId)
  /-- RETENTION_OSC_FAIL (R371): No retention edge for 1 ms marks the oscillator failed and the count lost. -/
  | retentionOscFail (tm : Nat)
  /-- WITNESS_POWER_ON (R374): VAON_W powers on, the witness reads the vault and releases lane and companion gating. -/
  | witnessPowerOn (tm : Nat)
  /-- SUPPLY_GOOD (R374): A lane's and its companion's supplies are good, giving t_S and BOOT. -/
  | supplyGood (tm : Nat) (l : LaneId) (fuseOk : Bool)
  /-- BOOT_COMPLETE (R377): The image is verified and checked, setup written and the lane enters CALIB. -/
  | bootComplete (tm : Nat) (l : LaneId) (o : BootObs)
  /-- SETUP_LOCK (R436): Setting LCTL_SETUP.LOCK makes every RWL field read-only until reset. -/
  | setupLock (tm : Nat) (l : LaneId)
  /-- VAULT_IMAGE_WRITE_DONE (R289): The image copy into the vault completes. -/
  | vaultImageWriteDone (tm : Nat)
  /-- CALIB_COMPLETE (R379): Calibration ends, EXC is released and SELFTEST begins. -/
  | calibComplete (tm : Nat) (l : LaneId) (r : CalibRes)
  /-- COMPANION_CALIB_COMMAND (R379): The witness commands a companion's calibration 35 ms after power-up. -/
  | companionCalibCommand (tm : Nat) (c : CompId) (r : CalibRes)
  /-- MEMORY_BIST_COMPLETE (R380): Memory BIST ends and failing elements are repaired. -/
  | memoryBistComplete (tm : Nat) (l : LaneId) (faults : List BistFault)
  /-- MEMORY_INIT_COMPLETE (R380): Memory initialisation ends and the lane requests a logic BIST slot. -/
  | memoryInitComplete (tm : Nat) (l : LaneId)
  /-- LOGIC_BIST_SLOT_GRANT (R381): The witness grants a logic BIST slot. -/
  | logicBistSlotGrant (tm : Nat)
  /-- LOGIC_BIST_COMPLETE (R381): Logic BIST ends, slices failing or drifting are retired. -/
  | logicBistComplete (tm : Nat) (l : LaneId) (x : BistRes) (meas : List Nat)
  /-- INJECTION_TEST_COMPLETE (R122): The startup injection test ends and the lane enters READY. -/
  | injectionTestComplete (tm : Nat) (l : LaneId) (pass : Bool) (bitNo : Nat) (hupOk : Bool)
  /-- START_DEADLINE (R385): A lane not READY by t_S + 160 ms fails with DEADLINE. -/
  | startDeadline (tm : Nat) (l : LaneId)
  /-- HUP_CHARGE_CHECK (R463): HUP below 10.7 V at t_S + 150 ms fails the start with SUPPLY. -/
  | hupChargeCheck (tm : Nat) (l : LaneId) (hupOk : Bool)
  /-- HUP_LOW (R463): HUP below 10.7 V for 1 ms sets the service flag. -/
  | hupLow (tm : Nat) (l : LaneId)
  /-- START_DECISION (R389): At t_D the witness counts the quorum and treats missing positions as lost. -/
  | startDecision (tm : Nat)
  /-- DEVICE_READY (R391): Two counted READY lanes with ACTIVE nodes make the device ready. -/
  | deviceReady (tm : Nat)
  /-- FIRST_ACTIVE_ENTRY (R391): At the next cycle start the counted lanes enter ACTIVE together. -/
  | firstActiveEntry (tm : Nat)
  /-- START_CNT_CLEAR (R387): Ten clean ACTIVE minutes clear LCTL_START_CNT. -/
  | startCntClear (tm : Nat) (l : LaneId)
  /-- SUPPLY_LOSS (R458): A lane supply loss decides the lane's own loss with cause SUPPLY. -/
  | supplyLoss (tm : Nat) (l : LaneId) (back : Bool)
  /-- COMPANION_SUPPLY_LOSS (R460): VDDA_Cx loss stops the companion and the witness treats its drive as lost. -/
  | companionSupplyLoss (tm : Nat) (c : CompId)
  /-- WITNESS_SUPPLY_LOSS (R460): VAON_W loss loses the witness and pulls FLT_N low. -/
  | witnessSupplyLoss (tm : Nat)
  /-- LANE_OVERTEMP (R461): A lane above 153 °C for 1 ms decides its own loss. -/
  | laneOvertemp (tm : Nat) (l : LaneId)
  /-- COMPANION_OVERTEMP (R461): A companion above 160 °C for 1 ms turns both bridges off. -/
  | companionOvertemp (tm : Nat) (c : CompId)
  /-- COALESCE_WINDOW_END (R403): A coalescing group closes and passes on EVT_REPEAT when its count is not 0. -/
  | coalesceWindowEnd (tm : Nat) (l : LaneId)
  /-- TOKEN_REFILL (R404): Each millisecond the token buckets gain RATE tokens. -/
  | tokenRefill (tm : Nat) (l : LaneId)
  /-- POST_WINDOW_END (R407): The post-trigger window ends and the section and header are written. -/
  | postWindowEnd (tm : Nat) (l : LaneId)
  /-- CAPSULE_COMMIT_DONE (R408): The capsule header is committed and the summary is sent. -/
  | capsuleCommitDone (tm : Nat) (l : LaneId)
  /-- JOURNAL_PAGE_WRITE (R408): A full journal page, or one 1 s old, is written to MRAM. -/
  | journalPageWrite (tm : Nat) (l : LaneId) (bad : Bool)
  /-- SUMMARY_ACK (R411): The witness acknowledges a summary and SUMMARY_SENT is set. -/
  | summaryAck (tm : Nat) (l : LaneId) (k : Nat)
  /-- CLEAR_CAPSULE_FORWARD (R412): A lane receiving the forward sets capsule 1 EMPTY. -/
  | clearCapsuleForward (tm : Nat) (l : LaneId)
  /-- REFRESH_STEP (R413): Every 10 ms one MRAM sector of an aged item is rewritten. -/
  | refreshStep (tm : Nat) (l : LaneId) (x : MramRead) (bad : Bool)
  /-- WEAR_RECORD_WRITE (R398): The wear record is written within 10 ms of a change. -/
  | wearRecordWrite (tm : Nat) (l : LaneId) (bad : Bool)
  /-- SERVICE_CLOCK_HOUR (R400): The service clock counts an hour and may raise WEAR_LIFE. -/
  | serviceClockHour (tm : Nat) (l : LaneId)
  /-- XLK_WIRE_FAIL (R402): A failed cross-link wire is replaced by its spare. -/
  | xlkWireFail (tm : Nat) (l : LaneId) (link : Nat)
  /-- CERT_SUBMIT (R417): Setting LCS_CERT_CTL.SUBMIT starts certificate verification. -/
  | certSubmit (tm : Nat) (l : LaneId)
  /-- CERT_VERIFY_DONE (R417): A verified certificate is stored in the vault. -/
  | certVerifyDone (tm : Nat) (l : LaneId) (sigOk : Bool)
  /-- ROT_PROGRAM (R418): LCS_ROT_PROG.GO programs a root slot in MANUFACTURE. -/
  | rotProgram (tm : Nat) (l : LaneId) (w : Nat)
  /-- IMG_DATA_WRITE (R422): A write to LCS_IMG_DATA stores a word in the unselected slot and advances the pointer. -/
  | imgDataWrite (tm : Nat) (l : LaneId) (w : Nat)
  /-- DBG_REQ (R423): DBG_CTL.REQ loads a fresh nonce. -/
  | dbgReq (tm : Nat) (l : LaneId)
  /-- DBG_SUBMIT (R423): DBG_CTL.SUBMIT verifies the response and opens a session. -/
  | dbgSubmit (tm : Nat) (l : LaneId) (sigOk : Bool)
  /-- DBG_END (R423): DBG_CTL.END ends the debug session. -/
  | dbgEnd (tm : Nat) (l : LaneId)
  /-- DBG_SESSION_TIMEOUT (R423): A debug session ends 1,800 s after it opened. -/
  | dbgSessionTimeout (tm : Nat) (l : LaneId)
  /-- KEY_WRITE (R427): LCS_KEY_CTL OP WRITE stores a fabric key and forwards it. -/
  | keyWrite (tm : Nat) (l : LaneId) (w : Nat)
  /-- KEY_ERASE (R427): LCS_KEY_CTL OP ERASE erases a fabric key. -/
  | keyErase (tm : Nat) (l : LaneId) (w : Nat)
  /-- TAP_RESET (R425): Lx_TRST_N low or five TMS-high cycles reset the TAP. -/
  | tapReset (tm : Nat) (l : LaneId)
  /-- EXTEST (R425): Drives covered balls from the boundary register. -/
  | extest (tm : Nat) (l : LaneId)
  /-- SAMPLE_PRELOAD (R425): Samples the balls and preloads the boundary register. -/
  | samplePreload (tm : Nat) (l : LaneId) (preload : Nat)
  /-- IDCODE (R425): Selects the identification register. -/
  | idcode (tm : Nat) (l : LaneId)
  /-- BYPASS (R425): Selects the one-bit bypass register. -/
  | bypass (tm : Nat) (l : LaneId)
  /-- PRIVATE_TEST (R425): Selects Skelouk diagnosis registers in MANUFACTURE and FIELD_RETURN. -/
  | privateTest (tm : Nat) (l : LaneId) (v : Nat)
  /-- SPI_READ (R433): A service SPI READ access returns status and data. -/
  | spiRead (tm : Nat) (l : LaneId) (addr : Nat)
  /-- SPI_WRITE (R433): A service SPI WRITE access writes a register and returns status. -/
  | spiWrite (tm : Nat) (l : LaneId) (addr w : Nat)
  /-- REGISTER_WRITE (R431): A write to a register without a row of its own, with lock and permission checks. -/
  | registerWrite (tm : Nat) (l : LaneId) (acc : Accessor) (addr w : Nat)
  /-- LO_READ_LATCH (R432): Reading a LO register latches its HI register for the same accessor. -/
  | loReadLatch (tm : Nat) (l : LaneId) (acc : Accessor) (addr : Nat)
  /-- COMPANION_REGISTER_ACCESS (R449): A companion register access completes over the selected lane port or ends NO_COMPANION. -/
  | companionRegisterAccess (tm : Nat) (l : LaneId) (acc : Accessor) (addr : Nat) (wr : Option Nat) (moved acked : Bool)
  /-- CROSSLINK_TIMEOUT (R29): A witness access not completed within 20 µs ends with TIMEOUT. -/
  | crosslinkTimeout (tm : Nat) (l : LaneId)
  /-- SLACK_MIN_CLR (R83): Writing CHE_SLACK_MIN.CLR sets MIN to 0xF_FFFF. -/
  | slackMinClr (tm : Nat) (l : LaneId) (acc : Accessor) (n : Nat)
  /-- MAXWAIT_CLR (R346): Writing ARB_MAXWAIT.CLR sets MAX to 0. -/
  | maxwaitClr (tm : Nat) (l : LaneId) (acc : Accessor) (n : Nat)
  /-- ARB_PRIO_WRITE (R345): A new ARB_PRIO value takes effect at the next arbitration phase. -/
  | arbPrioWrite (tm : Nat) (l : LaneId) (acc : Accessor) (w : Nat)
  /-- POSITION_SAMPLE (R174): Every 100 ns the companion samples each sin/cos pair, subtracts the learned corrections, updates the count, the correction estimates and the per-sample direction and quiet tracking of the speed qualifier. -/
  | positionSample (tm : Nat) (c : CompId) (k : Nat) (x : PairObs)
  /-- DRIVE_SUPPLY_RETURN (R136): VDRV_Cx or VBRn_Cx returns within its limits, clearing the status bit so the bridge drives again from the next reload after a release with ENABLE = 1. -/
  | driveSupplyReturn (tm : Nat) (c : CompId) (vdrv vbr1 vbr2 : Bool)
  /-- COMPANION_TEMP_RETURN (R461): A companion's T_CMP falls below 150 °C after an overtemperature cut-off and the supply condition of R136 ends. -/
  | companionTempReturn (tm : Nat) (c : CompId)
  /-- SUPERVISOR_FAULT (R338): An uncorrectable error in supervisor SRAM or ROM, or a failed Gnomon self-check, decides the lane's own loss with cause SUPERVISOR. -/
  | supervisorFault (tm : Nat) (l : LaneId)
  /-- LANE_PORT_FAIL (R266): A lane finds its own lane port failed and decides its own loss with cause COMP_SERVICE. -/
  | lanePortFail (tm : Nat) (l : LaneId)
  /-- COMPANION_LOCK_TIMEOUT (R385): A companion timebase not locked, or a primary port not up, by t_S + 5 ms fails the lane's start with cause COMPANION. -/
  | companionLockTimeout (tm : Nat) (l : LaneId)
deriving DecidableEq, Repr

end Sys2Proof
end

