-- ==== Sys2Proof/Decode.lean ====
section
/-!
DEFINITION. The table's rows carry no bits, so `decodeTableWord` answers none. The Chord engine's own 32-bit instruction
words (R39 to R43, R45 to R47, R50, R51, R53) are decoded and encoded here: what ILLEGAL_ENCODING calls illegal is what this decoder
refuses.
-/
namespace Sys2Proof

/-- The command a word spells by the table's bits: the table gives no row any bits. -/
def decodeTableWord (_nbits _w : Nat) : Option Instr := none

/-! ### Fields of an instruction word (R39) -/

/-- Opcode, bits [31:26]. -/
def fieldOp (w : BitVec 32) : BitVec 6 := w.extractLsb' 26 6
/-- Guard predicate, bits [25:23]. -/
def fieldPg (w : BitVec 32) : BitVec 3 := w.extractLsb' 23 3
/-- Guard inversion, bit [22]. -/
def fieldPn (w : BitVec 32) : BitVec 1 := w.extractLsb' 22 1
/-- rd or rs, bits [21:16]. -/
def fieldRd (w : BitVec 32) : BitVec 6 := w.extractLsb' 16 6
/-- ra, bits [15:10]. -/
def fieldRa (w : BitVec 32) : BitVec 6 := w.extractLsb' 10 6
/-- rb, bits [9:4]. -/
def fieldRb (w : BitVec 32) : BitVec 6 := w.extractLsb' 4 6
/-- func, bits [3:0]. -/
def fieldFn (w : BitVec 32) : BitVec 4 := w.extractLsb' 0 4
/-- imm10 or off10, bits [9:0]. -/
def fieldImm (w : BitVec 32) : BitVec 10 := w.extractLsb' 0 10
/-- off22, bits [21:0]. -/
def fieldOff (w : BitVec 32) : BitVec 22 := w.extractLsb' 0 22
/-- pd, bits [21:19]. -/
def fieldPd (w : BitVec 32) : BitVec 3 := w.extractLsb' 19 3
/-- cond or the func of PLOG, bits [18:16]. -/
def fieldCond (w : BitVec 32) : BitVec 3 := w.extractLsb' 16 3
/-- pa of PLOG, bits [15:13]. -/
def fieldPa (w : BitVec 32) : BitVec 3 := w.extractLsb' 13 3
/-- pb of PLOG, bits [12:10]. -/
def fieldPb (w : BitVec 32) : BitVec 3 := w.extractLsb' 10 3
/-- rd of the U format, bits [25:20]. -/
def fieldUrd (w : BitVec 32) : BitVec 6 := w.extractLsb' 20 6
/-- hw of the U format, bits [19:18]. -/
def fieldHw (w : BitVec 32) : BitVec 2 := w.extractLsb' 18 2
/-- The zero field of the U format, bits [17:16]. -/
def fieldUz (w : BitVec 32) : BitVec 2 := w.extractLsb' 16 2
/-- imm16, bits [15:0]. -/
def fieldImm16 (w : BitVec 32) : BitVec 16 := w.extractLsb' 0 16

/-- A condition code as CMP encodes it (R45). -/
def condOf (c : BitVec 3) : Cond :=
  match c.toNat with
  | 0 => .eq | 1 => .ne | 2 => .lt | 3 => .ge | 4 => .ltu | 5 => .geu | 6 => .tst | _ => .ntst

/-- The code of a condition (R45). -/
def condCode : Cond → BitVec 3
  | .eq => 0 | .ne => 1 | .lt => 2 | .ge => 3 | .ltu => 4 | .geu => 5 | .tst => 6 | .ntst => 7

/-- A function of PLOG; 0b111 is not assigned (R46). -/
def pfuncOf (c : BitVec 3) : Option PFunc :=
  match c.toNat with
  | 0 => some .pand | 1 => some .por | 2 => some .pxor | 3 => some .pandn | 4 => some .porn | 5 => some .pset
  | 6 => some .pclr | _ => none

/-- The code of a function of PLOG (R46). -/
def pfuncCode : PFunc → BitVec 3
  | .pand => 0 | .por => 1 | .pxor => 2 | .pandn => 3 | .porn => 4 | .pset => 5 | .pclr => 6

/-- A condition of FCMP; 0b101 to 0b111 are not assigned (R51). -/
def fcondOf (c : BitVec 3) : Option FCond :=
  match c.toNat with
  | 0 => some .feq | 1 => some .fne | 2 => some .flt | 3 => some .fge | 4 => some .funord | _ => none

/-- The code of a condition of FCMP (R51). -/
def fcondCode : FCond → BitVec 3
  | .feq => 0 | .fne => 1 | .flt => 2 | .fge => 3 | .funord => 4

/-! ### Decoding by group (R41 to R53) -/

/-- INT (R42). -/
def decodeInt (q : Issue) (rd ra rb : BitVec 6) (fn : Nat) : Option Instr :=
  match fn with
  | 0 => some (.add q rd ra rb)
  | 1 => some (.sub q rd ra rb)
  | 2 => some (.and q rd ra rb)
  | 3 => some (.or q rd ra rb)
  | 4 => some (.xor q rd ra rb)
  | 5 => some (.andn q rd ra rb)
  | 6 => some (.sll q rd ra rb)
  | 7 => some (.srl q rd ra rb)
  | 8 => some (.sra q rd ra rb)
  | 9 => some (.mul q rd ra rb)
  | 10 => some (.mulhs q rd ra rb)
  | 11 => some (.mulhu q rd ra rb)
  | 12 => some (.min q rd ra rb)
  | 13 => some (.max q rd ra rb)
  | 14 => some (.minu q rd ra rb)
  | 15 => some (.maxu q rd ra rb)
  | _ => none

/-- INTX: 0xC to 0xF are not assigned, a one-operand function declares rb 0 (R43). -/
def decodeIntx (q : Issue) (rd ra rb : BitVec 6) (fn : Nat) : Option Instr :=
  match fn with
  | 0 => some (.div q rd ra rb)
  | 1 => some (.divu q rd ra rb)
  | 2 => some (.rem q rd ra rb)
  | 3 => some (.remu q rd ra rb)
  | 4 => if rb = 0 then some (.abs q rd ra) else none
  | 5 => if rb = 0 then some (.neg q rd ra) else none
  | 6 => if rb = 0 then some (.clz q rd ra) else none
  | 7 => if rb = 0 then some (.popc q rd ra) else none
  | 8 => if rb = 0 then some (.sextw q rd ra) else none
  | 9 => if rb = 0 then some (.zextw q rd ra) else none
  | 10 => if rb = 0 then some (.satw q rd ra) else none
  | 11 => if rb = 0 then some (.sath q rd ra) else none
  | _ => none

/-- QFX: 0xB to 0xF are not assigned (R47). -/
def decodeQfx (q : Issue) (rd ra rb : BitVec 6) (fn : Nat) : Option Instr :=
  match fn with
  | 0 => some (.qadd q rd ra rb)
  | 1 => some (.qsub q rd ra rb)
  | 2 => some (.qmul15 q rd ra rb)
  | 3 => some (.qmul31 q rd ra rb)
  | 4 => some (.qmac31 q rd ra rb)
  | 5 => some (.qmsu31 q rd ra rb)
  | 6 => some (.qabs q rd ra rb)
  | 7 => some (.qneg q rd ra rb)
  | 8 => some (.qshl q rd ra rb)
  | 9 => some (.qrsr q rd ra rb)
  | 10 => some (.qlim q rd ra rb)
  | _ => none

/-- FP; FSQRT declares rb 0 (R50). -/
def decodeFp (q : Issue) (rd ra rb : BitVec 6) (fn : Nat) : Option Instr :=
  match fn with
  | 0 => some (.fadd q rd ra rb)
  | 1 => some (.fsub q rd ra rb)
  | 2 => some (.fmul q rd ra rb)
  | 3 => some (.fdiv q rd ra rb)
  | 4 => if rb = 0 then some (.fsqrt q rd ra) else none
  | 5 => some (.fmin q rd ra rb)
  | 6 => some (.fmax q rd ra rb)
  | 7 => some (.fabs q rd ra rb)
  | 8 => some (.fneg q rd ra rb)
  | 9 => some (.fmac q rd ra rb)
  | 10 => some (.fmsc q rd ra rb)
  | 11 => some (.fcvtws q rd ra rb)
  | 12 => some (.fcvtsw q rd ra rb)
  | 13 => some (.fcvtqs q rd ra rb)
  | 14 => some (.fcvtsq q rd ra rb)
  | 15 => some (.fclass q rd ra rb)
  | _ => none

/-- MOTOR: 0x6 to 0xF are not assigned, SINCOS and SVM declare rb 0 (R53). -/
def decodeMotor (q : Issue) (rd ra rb : BitVec 6) (fn : Nat) : Option Instr :=
  match fn with
  | 0 => if rb = 0 then some (.sincos q rd ra) else none
  | 1 => some (.atan2 q rd ra rb)
  | 2 => some (.clarke q rd ra rb)
  | 3 => some (.park q rd ra rb)
  | 4 => some (.ipark q rd ra rb)
  | 5 => if rb = 0 then some (.svm q rd ra) else none
  | _ => none

/-- The instruction of a word, for an issue `q` whose guard fields are replaced by the word's; `tm` is the instant of a
SEAL. None where the word is an unassigned or malformed encoding (R40, R41). -/
def decodeChord (q : Issue) (tm : Nat) (w : BitVec 32) : Option Instr :=
  let g : Issue := { q with pg := fieldPg w, pn := fieldPn w == 1#1 }
  let u : Issue := { q with pg := 0, pn := false }
  let rd := fieldRd w
  let ra := fieldRa w
  let rb := fieldRb w
  let fn := (fieldFn w).toNat
  let imm := fieldImm w
  match (fieldOp w).toNat with
  | 0x00 => decodeInt g rd ra rb fn
  | 0x01 => decodeIntx g rd ra rb fn
  | 0x02 => some (.addi g rd ra imm)
  | 0x03 => some (.andi g rd ra imm)
  | 0x04 => some (.ori g rd ra imm)
  | 0x05 => some (.xori g rd ra imm)
  | 0x06 => if imm.extractLsb' 6 4 = 0 then some (.slli g rd ra (imm.extractLsb' 0 6)) else none
  | 0x07 => if imm.extractLsb' 6 4 = 0 then some (.srli g rd ra (imm.extractLsb' 0 6)) else none
  | 0x08 => if imm.extractLsb' 6 4 = 0 then some (.srai g rd ra (imm.extractLsb' 0 6)) else none
  | 0x09 => some (.muli g rd ra imm)
  | 0x0A => if fieldUz w = 0 then some (.movz u (fieldUrd w) (fieldHw w) (fieldImm16 w)) else none
  | 0x0B => if fieldUz w = 0 then some (.movk u (fieldUrd w) (fieldHw w) (fieldImm16 w)) else none
  | 0x10 => decodeQfx g rd ra rb fn
  | 0x11 => if fieldFn w = 0 then some (.cmp g (fieldPd w) (condOf (fieldCond w)) ra rb) else none
  | 0x12 => some (.cmpi g (fieldPd w) (condOf (fieldCond w)) ra imm)
  | 0x13 => if imm = 0 then (pfuncOf (fieldCond w)).map (fun f => .plog g (fieldPd w) f (fieldPa w) (fieldPb w)) else none
  | 0x18 => decodeFp g rd ra rb fn
  | 0x19 => if fieldFn w = 0 then (fcondOf (fieldCond w)).map (fun c => .fcmp g (fieldPd w) c ra rb) else none
  | 0x20 => decodeMotor g rd ra rb fn
  | 0x28 => some (.ld g rd ra imm)
  | 0x29 => some (.lw g rd ra imm)
  | 0x2A => some (.lwu g rd ra imm)
  | 0x2B => some (.lh g rd ra imm)
  | 0x2C => some (.lhu g rd ra imm)
  | 0x2D => some (.lb g rd ra imm)
  | 0x2E => some (.lbu g rd ra imm)
  | 0x30 => some (.sd g rd ra imm)
  | 0x31 => some (.sw g rd ra imm)
  | 0x32 => some (.sh g rd ra imm)
  | 0x33 => some (.sb g rd ra imm)
  | 0x38 => some (.br g (fieldOff w))
  | 0x39 => some (.call g (fieldOff w))
  | 0x3A => if rd = 0 ∧ imm = 0 then some (.jr g ra) else none
  | 0x3B => if rd = 0 ∧ ra = 0 ∧ imm = 0 then some (.seal g tm) else none
  | 0x3C => if rd = 0 ∧ ra = 0 ∧ imm.extractLsb' 3 7 = 0 then some (.lkb g (imm.extractLsb' 0 3)) else none
  | 0x3D => if rd = 0 ∧ ra = 0 ∧ imm = 0 then some (.lke g) else none
  | 0x3E => if rd = 0 ∧ ra = 0 ∧ imm.extractLsb' 8 2 = 0 then some (.trap g (imm.extractLsb' 0 8)) else none
  | _ => none

/-! ### Encoding (R39 to R53) -/

/-- R format. -/
def wordR (op : BitVec 6) (q : Issue) (rd ra rb : BitVec 6) (fn : BitVec 4) : BitVec 32 :=
  op ++ q.pg ++ BitVec.ofBool q.pn ++ rd ++ ra ++ rb ++ fn
/-- I and L formats. -/
def wordI (op : BitVec 6) (q : Issue) (rd ra : BitVec 6) (imm : BitVec 10) : BitVec 32 :=
  op ++ q.pg ++ BitVec.ofBool q.pn ++ rd ++ ra ++ imm
/-- B format. -/
def wordB (op : BitVec 6) (q : Issue) (off : BitVec 22) : BitVec 32 := op ++ q.pg ++ BitVec.ofBool q.pn ++ off
/-- C format. -/
def wordC (op : BitVec 6) (q : Issue) (pd cond : BitVec 3) (ra : BitVec 6) (low : BitVec 10) : BitVec 32 :=
  op ++ q.pg ++ BitVec.ofBool q.pn ++ pd ++ cond ++ ra ++ low
/-- P format. -/
def wordP (op : BitVec 6) (q : Issue) (pd func pa pb : BitVec 3) : BitVec 32 :=
  op ++ q.pg ++ BitVec.ofBool q.pn ++ pd ++ func ++ pa ++ pb ++ (0 : BitVec 10)
/-- U format: unconditional. -/
def wordU (op : BitVec 6) (rd : BitVec 6) (hw : BitVec 2) (imm : BitVec 16) : BitVec 32 :=
  op ++ rd ++ hw ++ (0 : BitVec 2) ++ imm

/-- The word of a Chord instruction; none for the commands that are no Chord instruction. -/
def encodeChord : Instr → Option (BitVec 32)
  | .addi q rd ra imm => some (wordI 0x02 q rd ra imm)
  | .andi q rd ra imm => some (wordI 0x03 q rd ra imm)
  | .ori q rd ra imm => some (wordI 0x04 q rd ra imm)
  | .xori q rd ra imm => some (wordI 0x05 q rd ra imm)
  | .muli q rd ra imm => some (wordI 0x09 q rd ra imm)
  | .slli q rd ra sh => some (wordI 0x06 q rd ra ((0 : BitVec 4) ++ sh))
  | .srli q rd ra sh => some (wordI 0x07 q rd ra ((0 : BitVec 4) ++ sh))
  | .srai q rd ra sh => some (wordI 0x08 q rd ra ((0 : BitVec 4) ++ sh))
  | .movz _ rd hw imm => some (wordU 0x0A rd hw imm)
  | .movk _ rd hw imm => some (wordU 0x0B rd hw imm)
  | .add q rd ra rb => some (wordR 0x00 q rd ra rb 0)
  | .sub q rd ra rb => some (wordR 0x00 q rd ra rb 1)
  | .and q rd ra rb => some (wordR 0x00 q rd ra rb 2)
  | .or q rd ra rb => some (wordR 0x00 q rd ra rb 3)
  | .xor q rd ra rb => some (wordR 0x00 q rd ra rb 4)
  | .andn q rd ra rb => some (wordR 0x00 q rd ra rb 5)
  | .sll q rd ra rb => some (wordR 0x00 q rd ra rb 6)
  | .srl q rd ra rb => some (wordR 0x00 q rd ra rb 7)
  | .sra q rd ra rb => some (wordR 0x00 q rd ra rb 8)
  | .mul q rd ra rb => some (wordR 0x00 q rd ra rb 9)
  | .mulhs q rd ra rb => some (wordR 0x00 q rd ra rb 10)
  | .mulhu q rd ra rb => some (wordR 0x00 q rd ra rb 11)
  | .min q rd ra rb => some (wordR 0x00 q rd ra rb 12)
  | .max q rd ra rb => some (wordR 0x00 q rd ra rb 13)
  | .minu q rd ra rb => some (wordR 0x00 q rd ra rb 14)
  | .maxu q rd ra rb => some (wordR 0x00 q rd ra rb 15)
  | .div q rd ra rb => some (wordR 0x01 q rd ra rb 0)
  | .divu q rd ra rb => some (wordR 0x01 q rd ra rb 1)
  | .rem q rd ra rb => some (wordR 0x01 q rd ra rb 2)
  | .remu q rd ra rb => some (wordR 0x01 q rd ra rb 3)
  | .abs q rd ra => some (wordR 0x01 q rd ra 0 4)
  | .neg q rd ra => some (wordR 0x01 q rd ra 0 5)
  | .clz q rd ra => some (wordR 0x01 q rd ra 0 6)
  | .popc q rd ra => some (wordR 0x01 q rd ra 0 7)
  | .sextw q rd ra => some (wordR 0x01 q rd ra 0 8)
  | .zextw q rd ra => some (wordR 0x01 q rd ra 0 9)
  | .satw q rd ra => some (wordR 0x01 q rd ra 0 10)
  | .sath q rd ra => some (wordR 0x01 q rd ra 0 11)
  | .qadd q rd ra rb => some (wordR 0x10 q rd ra rb 0)
  | .qsub q rd ra rb => some (wordR 0x10 q rd ra rb 1)
  | .qmul15 q rd ra rb => some (wordR 0x10 q rd ra rb 2)
  | .qmul31 q rd ra rb => some (wordR 0x10 q rd ra rb 3)
  | .qmac31 q rd ra rb => some (wordR 0x10 q rd ra rb 4)
  | .qmsu31 q rd ra rb => some (wordR 0x10 q rd ra rb 5)
  | .qabs q rd ra rb => some (wordR 0x10 q rd ra rb 6)
  | .qneg q rd ra rb => some (wordR 0x10 q rd ra rb 7)
  | .qshl q rd ra rb => some (wordR 0x10 q rd ra rb 8)
  | .qrsr q rd ra rb => some (wordR 0x10 q rd ra rb 9)
  | .qlim q rd ra rb => some (wordR 0x10 q rd ra rb 10)
  | .fadd q rd ra rb => some (wordR 0x18 q rd ra rb 0)
  | .fsub q rd ra rb => some (wordR 0x18 q rd ra rb 1)
  | .fmul q rd ra rb => some (wordR 0x18 q rd ra rb 2)
  | .fdiv q rd ra rb => some (wordR 0x18 q rd ra rb 3)
  | .fsqrt q rd ra => some (wordR 0x18 q rd ra 0 4)
  | .fmin q rd ra rb => some (wordR 0x18 q rd ra rb 5)
  | .fmax q rd ra rb => some (wordR 0x18 q rd ra rb 6)
  | .fabs q rd ra rb => some (wordR 0x18 q rd ra rb 7)
  | .fneg q rd ra rb => some (wordR 0x18 q rd ra rb 8)
  | .fmac q rd ra rb => some (wordR 0x18 q rd ra rb 9)
  | .fmsc q rd ra rb => some (wordR 0x18 q rd ra rb 10)
  | .fcvtws q rd ra rb => some (wordR 0x18 q rd ra rb 11)
  | .fcvtsw q rd ra rb => some (wordR 0x18 q rd ra rb 12)
  | .fcvtqs q rd ra rb => some (wordR 0x18 q rd ra rb 13)
  | .fcvtsq q rd ra rb => some (wordR 0x18 q rd ra rb 14)
  | .fclass q rd ra rb => some (wordR 0x18 q rd ra rb 15)
  | .sincos q rd ra => some (wordR 0x20 q rd ra 0 0)
  | .atan2 q rd ra rb => some (wordR 0x20 q rd ra rb 1)
  | .clarke q rd ra rb => some (wordR 0x20 q rd ra rb 2)
  | .park q rd ra rb => some (wordR 0x20 q rd ra rb 3)
  | .ipark q rd ra rb => some (wordR 0x20 q rd ra rb 4)
  | .svm q rd ra => some (wordR 0x20 q rd ra 0 5)
  | .cmp q pd c ra rb => some (wordC 0x11 q pd (condCode c) ra (rb ++ (0 : BitVec 4)))
  | .cmpi q pd c ra imm => some (wordC 0x12 q pd (condCode c) ra imm)
  | .plog q pd f pa pb => some (wordP 0x13 q pd (pfuncCode f) pa pb)
  | .fcmp q pd c ra rb => some (wordC 0x19 q pd (fcondCode c) ra (rb ++ (0 : BitVec 4)))
  | .ld q rd ra off => some (wordI 0x28 q rd ra off)
  | .lw q rd ra off => some (wordI 0x29 q rd ra off)
  | .lwu q rd ra off => some (wordI 0x2A q rd ra off)
  | .lh q rd ra off => some (wordI 0x2B q rd ra off)
  | .lhu q rd ra off => some (wordI 0x2C q rd ra off)
  | .lb q rd ra off => some (wordI 0x2D q rd ra off)
  | .lbu q rd ra off => some (wordI 0x2E q rd ra off)
  | .sd q rs ra off => some (wordI 0x30 q rs ra off)
  | .sw q rs ra off => some (wordI 0x31 q rs ra off)
  | .sh q rs ra off => some (wordI 0x32 q rs ra off)
  | .sb q rs ra off => some (wordI 0x33 q rs ra off)
  | .br q off => some (wordB 0x38 q off)
  | .call q off => some (wordB 0x39 q off)
  | .jr q ra => some (wordR 0x3A q 0 ra 0 0)
  | .seal q _ => some (wordR 0x3B q 0 0 0 0)
  | .lkb q g => some (wordI 0x3C q 0 0 ((0 : BitVec 7) ++ g))
  | .lke q => some (wordR 0x3D q 0 0 0 0)
  | .trap q c => some (wordI 0x3E q 0 0 ((0 : BitVec 2) ++ c))
  | _ => none

/-- The issue fields of a Chord instruction. -/
def chordIssue : Instr → Option Issue
  | .addi q _ _ _ => some q
  | .andi q _ _ _ => some q
  | .ori q _ _ _ => some q
  | .xori q _ _ _ => some q
  | .slli q _ _ _ => some q
  | .srli q _ _ _ => some q
  | .srai q _ _ _ => some q
  | .muli q _ _ _ => some q
  | .movz q _ _ _ => some q
  | .movk q _ _ _ => some q
  | .add q _ _ _ => some q
  | .sub q _ _ _ => some q
  | .and q _ _ _ => some q
  | .or q _ _ _ => some q
  | .xor q _ _ _ => some q
  | .andn q _ _ _ => some q
  | .sll q _ _ _ => some q
  | .srl q _ _ _ => some q
  | .sra q _ _ _ => some q
  | .mul q _ _ _ => some q
  | .mulhs q _ _ _ => some q
  | .mulhu q _ _ _ => some q
  | .min q _ _ _ => some q
  | .max q _ _ _ => some q
  | .minu q _ _ _ => some q
  | .maxu q _ _ _ => some q
  | .div q _ _ _ => some q
  | .divu q _ _ _ => some q
  | .rem q _ _ _ => some q
  | .remu q _ _ _ => some q
  | .abs q _ _ => some q
  | .neg q _ _ => some q
  | .clz q _ _ => some q
  | .popc q _ _ => some q
  | .sextw q _ _ => some q
  | .zextw q _ _ => some q
  | .satw q _ _ => some q
  | .sath q _ _ => some q
  | .cmp q _ _ _ _ => some q
  | .cmpi q _ _ _ _ => some q
  | .plog q _ _ _ _ => some q
  | .qadd q _ _ _ => some q
  | .qsub q _ _ _ => some q
  | .qmul15 q _ _ _ => some q
  | .qmul31 q _ _ _ => some q
  | .qmac31 q _ _ _ => some q
  | .qmsu31 q _ _ _ => some q
  | .qabs q _ _ _ => some q
  | .qneg q _ _ _ => some q
  | .qshl q _ _ _ => some q
  | .qrsr q _ _ _ => some q
  | .qlim q _ _ _ => some q
  | .fadd q _ _ _ => some q
  | .fsub q _ _ _ => some q
  | .fmul q _ _ _ => some q
  | .fdiv q _ _ _ => some q
  | .fsqrt q _ _ => some q
  | .fmin q _ _ _ => some q
  | .fmax q _ _ _ => some q
  | .fabs q _ _ _ => some q
  | .fneg q _ _ _ => some q
  | .fmac q _ _ _ => some q
  | .fmsc q _ _ _ => some q
  | .fcvtws q _ _ _ => some q
  | .fcvtsw q _ _ _ => some q
  | .fcvtqs q _ _ _ => some q
  | .fcvtsq q _ _ _ => some q
  | .fclass q _ _ _ => some q
  | .fcmp q _ _ _ _ => some q
  | .sincos q _ _ => some q
  | .atan2 q _ _ _ => some q
  | .clarke q _ _ _ => some q
  | .park q _ _ _ => some q
  | .ipark q _ _ _ => some q
  | .svm q _ _ => some q
  | .ld q _ _ _ => some q
  | .lw q _ _ _ => some q
  | .lwu q _ _ _ => some q
  | .lh q _ _ _ => some q
  | .lhu q _ _ _ => some q
  | .lb q _ _ _ => some q
  | .lbu q _ _ _ => some q
  | .sd q _ _ _ => some q
  | .sw q _ _ _ => some q
  | .sh q _ _ _ => some q
  | .sb q _ _ _ => some q
  | .br q _ => some q
  | .call q _ => some q
  | .jr q _ => some q
  | .seal q _ => some q
  | .lkb q _ => some q
  | .lke q => some q
  | .trap q _ => some q
  | .illegalEncoding q _ => some q
  | _ => none

end Sys2Proof
end

