-- ==== Sys2Proof/Config.lean ====
section
/-!
DEFINITION. What one part fixes and the spec leaves open: values that no rule states, as constants without a body, so
that a claim holds whatever they are.
-/
namespace Sys2Proof

/-- The nonce that a debug request loads (R423): fresh each time, word `w` of the `n`th. -/
opaque Config.nonce : Nat → Nat → BitVec 32

/-- Temperature-weighted share of one hour in 2^-20 h, at a junction temperature that is not a whole number of 10 °C steps
from 125 °C, in 1/16 °C above 125 °C (R400): the rule's power of two is then irrational and its rounding is not stated. -/
opaque Config.wearShare : Int → Nat

/-- Bytes of the MRAM read window whose layout no rule states: trims, wear record, journal page headers (R395). -/
opaque Config.mramByte : Nat → BitVec 8

/-- The manufacturer identity of Skelouk Microsystems in the identification register (R425): no rule gives its value. -/
opaque Config.makerId : BitVec 11

/-- Whether a quotient that a rule gives without saying how it is rounded is rounded up, by the place of the rule,
numerator and denominator (R140, R142, R153, R157, R158, R161, R168, R174 to R176, R182, R183, R186, R225, R372). -/
opaque Config.roundsUp : Nat → Int → Int → Bool

/-- The channel that MFE_NOSPARE names when the sum check of a bridge finds no spare to isolate the channel (R164, R447). -/
opaque Config.noSpareChannel : Nat → Nat

/-- What a shadow copy under tag 0b11 stands for (R108): the tag is not used and no rule gives it a value. -/
opaque Config.unusedTag : BitVec 72 → BitVec 64

/-- The BIT of CHX_LAST where the copies show no differing bit position of a 64-bit value: a residue, a parity or a flag
(R115), by kind. -/
opaque Config.eventBit : Nat → Nat

/-- The functional unit of a slice that executes an instruction, by opcode × 16 + function (R121): no rule lists the units. -/
opaque Config.unitOf : Nat → Nat

/-- Sine and cosine, in µV, with a learned amplitude ratio and phase error taken off (R174, R175): no rule gives the
formula. -/
opaque Config.ratioPhase : Int → Int → Int → Int → Int × Int

end Sys2Proof
end

