-- ==== Sys2Proof/Machine/Regs.lean ====
section
/-!
DEFINITION. The register map of the TH96: every field of every register table of spec/02 to spec/19, with its lane-map
address (R26: lane blocks from 0x4000_0000, the adopted companion from 0x4800_0000, the witness from 0x4C00_0000), its
bit range, its reset value and its access type (R8). A register array takes its index first; a field that stands once
per element inside a word (a bit array, a nibble array) takes that element's number as its last argument.
A reserved field has no entry: it reads 0 and a write to it has no effect (R8).
-/
namespace Sys2Proof.Machine

/-- The access types of R8. -/
inductive Acc where
  | rw | ro | w1c | w1s | wo | rwl
deriving DecidableEq, Repr

/-- One register field: the address of its register, its bit range `[hi:lo]`, its reset value, its access type. -/
structure Fld where
  addr  : Nat
  hi    : Nat
  lo    : Nat
  reset : Nat
  acc   : Acc
deriving DecidableEq, Repr

namespace Reg
namespace CHE_TASK_CFG
def EN (n : Nat) : Fld := ⟨0x40002100 + 4 * n, 31, 31, 0, .rwl⟩
def PRIO (n : Nat) : Fld := ⟨0x40002100 + 4 * n, 30, 27, 15, .rwl⟩
def SRC (n : Nat) : Fld := ⟨0x40002100 + 4 * n, 26, 25, 0, .rwl⟩
def DIV (n : Nat) : Fld := ⟨0x40002100 + 4 * n, 24, 21, 0, .rwl⟩
def CHAIN (n : Nat) : Fld := ⟨0x40002100 + 4 * n, 20, 17, 0, .rwl⟩
def SPEC (n : Nat) : Fld := ⟨0x40002100 + 4 * n, 16, 16, 0, .rwl⟩
def SAFESTOP (n : Nat) : Fld := ⟨0x40002100 + 4 * n, 15, 15, 0, .rwl⟩
def TRAP_NV (n : Nat) : Fld := ⟨0x40002100 + 4 * n, 14, 14, 1, .rwl⟩
def TRAP_DZ (n : Nat) : Fld := ⟨0x40002100 + 4 * n, 13, 13, 1, .rwl⟩
def allFields (n : Nat) : List Fld := [ EN n] ++ [ PRIO n] ++ [ SRC n] ++ [ DIV n] ++ [ CHAIN n] ++ [ SPEC n] ++ [ SAFESTOP n] ++ [ TRAP_NV n] ++ [ TRAP_DZ n]
end CHE_TASK_CFG
namespace CHE_TASK_ENTRY
def ENTRY (n : Nat) : Fld := ⟨0x40002140 + 4 * n, 21, 2, 0, .rwl⟩
def allFields (n : Nat) : List Fld := [ ENTRY n]
end CHE_TASK_ENTRY
namespace CHE_TASK_BUDGET
def BUDGET (n : Nat) : Fld := ⟨0x40002180 + 4 * n, 19, 0, 0, .rwl⟩
def allFields (n : Nat) : List Fld := [ BUDGET n]
end CHE_TASK_BUDGET
namespace CHE_TASK_STAT
def LAST_EXC (n : Nat) : Fld := ⟨0x400021C0 + 4 * n, 31, 24, 0, .ro⟩
def EXC_CNT (n : Nat) : Fld := ⟨0x400021C0 + 4 * n, 23, 16, 0, .ro⟩
def SAT (n : Nat) : Fld := ⟨0x400021C0 + 4 * n, 15, 15, 0, .w1c⟩
def NV (n : Nat) : Fld := ⟨0x400021C0 + 4 * n, 14, 14, 0, .w1c⟩
def DZ (n : Nat) : Fld := ⟨0x400021C0 + 4 * n, 13, 13, 0, .w1c⟩
def OF (n : Nat) : Fld := ⟨0x400021C0 + 4 * n, 12, 12, 0, .w1c⟩
def UF (n : Nat) : Fld := ⟨0x400021C0 + 4 * n, 11, 11, 0, .w1c⟩
def NX (n : Nat) : Fld := ⟨0x400021C0 + 4 * n, 10, 10, 0, .w1c⟩
def allFields (n : Nat) : List Fld := [ LAST_EXC n] ++ [ EXC_CNT n] ++ [ SAT n] ++ [ NV n] ++ [ DZ n] ++ [ OF n] ++ [ UF n] ++ [ NX n]
end CHE_TASK_STAT
namespace CHE_PART_BASE
def BASE (n : Nat) : Fld := ⟨0x40002200 + 8 * n, 21, 12, 0, .rwl⟩
def allFields (n : Nat) : List Fld := [ BASE n]
end CHE_PART_BASE
namespace CHE_PART_ATTR
def EN (n : Nat) : Fld := ⟨0x40002204 + 8 * n, 31, 31, 0, .rwl⟩
def KIND (n : Nat) : Fld := ⟨0x40002204 + 8 * n, 30, 28, 0, .rwl⟩
def XFER (n : Nat) : Fld := ⟨0x40002204 + 8 * n, 27, 27, 0, .rwl⟩
def SIZE (n : Nat) : Fld := ⟨0x40002204 + 8 * n, 25, 16, 0, .rwl⟩
def TASKS (n : Nat) (i : Nat) : Fld := ⟨0x40002204 + 8 * n, i, i, 0, .rwl⟩
def allFields (n : Nat) : List Fld := [ EN n] ++ [ KIND n] ++ [ XFER n] ++ [ SIZE n] ++ (List.range 16).map (TASKS n)
end CHE_PART_ATTR
namespace CHE_SPEC_CFG
def MODE : Fld := ⟨0x40002300, 31, 30, 0, .rwl⟩
def MAX_DEPTH : Fld := ⟨0x40002300, 29, 27, 0, .rwl⟩
def STAGE_LEAD : Fld := ⟨0x40002300, 26, 17, 100, .rwl⟩
def allFields (_ : Nat) : List Fld := [ MODE] ++ [ MAX_DEPTH] ++ [ STAGE_LEAD]
end CHE_SPEC_CFG
namespace CHE_SPEC_SNAP
def SNAP : Fld := ⟨0x40002304, 31, 0, 0, .rwl⟩
def allFields (_ : Nat) : List Fld := [ SNAP]
end CHE_SPEC_SNAP
namespace CHE_SPEC_STEP
def STEP : Fld := ⟨0x40002308, 31, 0, 0, .rwl⟩
def allFields (_ : Nat) : List Fld := [ STEP]
end CHE_SPEC_STEP
namespace CHE_SLACK_CFG
def SLACK_HI : Fld := ⟨0x4000230C, 31, 16, 100, .rwl⟩
def SLACK_LO : Fld := ⟨0x4000230C, 15, 0, 20, .rwl⟩
def allFields (_ : Nat) : List Fld := [ SLACK_HI] ++ [ SLACK_LO]
end CHE_SLACK_CFG
namespace CHE_SPEC_STAT
def DEPTH : Fld := ⟨0x40002310, 31, 29, 0, .ro⟩
def PROPOSED : Fld := ⟨0x40002310, 28, 26, 0, .ro⟩
def BUSY (i : Nat) : Fld := ⟨0x40002310, 20 + i, 20 + i, 0, .ro⟩
def STAGED (i : Nat) : Fld := ⟨0x40002310, 16 + i, 16 + i, 0, .ro⟩
def LAST : Fld := ⟨0x40002310, 15, 13, 0, .ro⟩
def LAST_INDEX : Fld := ⟨0x40002310, 12, 11, 0, .ro⟩
def allFields (_ : Nat) : List Fld := [ DEPTH] ++ [ PROPOSED] ++ (List.range 4).map (BUSY) ++ (List.range 4).map (STAGED) ++ [ LAST] ++ [ LAST_INDEX]
end CHE_SPEC_STAT
namespace CHE_SPEC_CNT
def COUNT (n : Nat) : Fld := ⟨0x40002320 + 4 * n, 31, 0, 0, .ro⟩
def allFields (n : Nat) : List Fld := [ COUNT n]
end CHE_SPEC_CNT
namespace CHE_SLACK_LAST
def OVR (n : Nat) : Fld := ⟨0x40002380 + 4 * n, 31, 31, 0, .ro⟩
def SLACK (n : Nat) : Fld := ⟨0x40002380 + 4 * n, 19, 0, 0, .ro⟩
def allFields (n : Nat) : List Fld := [ OVR n] ++ [ SLACK n]
end CHE_SLACK_LAST
namespace CHE_SLACK_MIN
def CLR (n : Nat) : Fld := ⟨0x400023C0 + 4 * n, 31, 31, 0, .wo⟩
def MIN (n : Nat) : Fld := ⟨0x400023C0 + 4 * n, 19, 0, 1048575, .ro⟩
def allFields (n : Nat) : List Fld := [ CLR n] ++ [ MIN n]
end CHE_SLACK_MIN
namespace CHE_OVR_CNT
def SKIP (n : Nat) : Fld := ⟨0x40002400 + 4 * n, 31, 24, 0, .ro⟩
def CONSEC (n : Nat) : Fld := ⟨0x40002400 + 4 * n, 16, 16, 0, .ro⟩
def OVR (n : Nat) : Fld := ⟨0x40002400 + 4 * n, 15, 0, 0, .ro⟩
def allFields (n : Nat) : List Fld := [ SKIP n] ++ [ CONSEC n] ++ [ OVR n]
end CHE_OVR_CNT
namespace CHX_CFG
def SPLIT : Fld := ⟨0x40003000, 31, 31, 0, .rwl⟩
def INJ_EN : Fld := ⟨0x40003000, 30, 30, 0, .rwl⟩
def INJ_PERIOD : Fld := ⟨0x40003000, 29, 16, 1024, .rwl⟩
def SPLIT_MAP (i : Nat) : Fld := ⟨0x40003000, i, i, 0, .rwl⟩
def allFields (_ : Nat) : List Fld := [ SPLIT] ++ [ INJ_EN] ++ [ INJ_PERIOD] ++ (List.range 16).map (SPLIT_MAP)
end CHX_CFG
namespace CHX_SLICE
def ROLE_P : Fld := ⟨0x40003004, 31, 30, 0, .ro⟩
def ROLE_T : Fld := ⟨0x40003004, 29, 28, 1, .ro⟩
def SPARE : Fld := ⟨0x40003004, 27, 26, 2, .ro⟩
def RETIRED (i : Nat) : Fld := ⟨0x40003004, 23 + i, 23 + i, 0, .ro⟩
def allFields (_ : Nat) : List Fld := [ ROLE_P] ++ [ ROLE_T] ++ [ SPARE] ++ (List.range 3).map (RETIRED)
end CHX_SLICE
namespace CHX_STAT
def SPLIT : Fld := ⟨0x40003008, 31, 31, 0, .ro⟩
def INJ_PASS : Fld := ⟨0x40003008, 30, 30, 0, .ro⟩
def INJ_FAIL : Fld := ⟨0x40003008, 29, 29, 0, .ro⟩
def NOSPARE : Fld := ⟨0x40003008, 28, 28, 0, .ro⟩
def INJ_BIT : Fld := ⟨0x40003008, 27, 22, 0, .ro⟩
def allFields (_ : Nat) : List Fld := [ SPLIT] ++ [ INJ_PASS] ++ [ INJ_FAIL] ++ [ NOSPARE] ++ [ INJ_BIT]
end CHX_STAT
namespace CHX_ROT
def ROT (i : Nat) : Fld := ⟨0x4000300C, 2 * i+1, 2 * i, 0, .ro⟩
def allFields (_ : Nat) : List Fld := (List.range 16).map (ROT)
end CHX_ROT
namespace CHX_TCNT
def IN_1S : Fld := ⟨0x40003010, 31, 28, 0, .ro⟩
def IN_1H : Fld := ⟨0x40003010, 27, 23, 0, .ro⟩
def TOTAL : Fld := ⟨0x40003010, 15, 0, 0, .ro⟩
def allFields (_ : Nat) : List Fld := [ IN_1S] ++ [ IN_1H] ++ [ TOTAL]
end CHX_TCNT
namespace CHX_RANGE_CNT
def COUNT : Fld := ⟨0x40003014, 31, 0, 0, .ro⟩
def allFields (_ : Nat) : List Fld := [ COUNT]
end CHX_RANGE_CNT
namespace CHX_LAST
def KIND : Fld := ⟨0x40003018, 31, 28, 0, .ro⟩
def LOSER : Fld := ⟨0x40003018, 27, 26, 3, .ro⟩
def OUTCOME : Fld := ⟨0x40003018, 25, 24, 0, .ro⟩
def BIT : Fld := ⟨0x40003018, 23, 18, 0, .ro⟩
def REG : Fld := ⟨0x40003018, 17, 12, 0, .ro⟩
def TASK : Fld := ⟨0x40003018, 11, 8, 0, .ro⟩
def CAND : Fld := ⟨0x40003018, 7, 7, 0, .ro⟩
def allFields (_ : Nat) : List Fld := [ KIND] ++ [ LOSER] ++ [ OUTCOME] ++ [ BIT] ++ [ REG] ++ [ TASK] ++ [ CAND]
end CHX_LAST
namespace CHX_LAST_PC
def PC : Fld := ⟨0x4000301C, 21, 2, 0, .ro⟩
def allFields (_ : Nat) : List Fld := [ PC]
end CHX_LAST_PC
namespace CHX_SLICE_LOSS
def COUNT (n : Nat) : Fld := ⟨0x40003020 + 4 * n, 31, 0, 0, .ro⟩
def allFields (n : Nat) : List Fld := [ COUNT n]
end CHX_SLICE_LOSS
namespace PWM_CFG
def EN (n : Nat) : Fld := ⟨0x48001000 + 4 * n, 31, 31, 0, .rwl⟩
def RELOAD (n : Nat) : Fld := ⟨0x48001000 + 4 * n, 30, 30, 0, .rwl⟩
def PERIOD (n : Nat) : Fld := ⟨0x48001000 + 4 * n, 29, 16, 5000, .rwl⟩
def PHASE (n : Nat) : Fld := ⟨0x48001000 + 4 * n, 13, 0, 0, .rwl⟩
def allFields (n : Nat) : List Fld := [ EN n] ++ [ RELOAD n] ++ [ PERIOD n] ++ [ PHASE n]
end PWM_CFG
namespace PWM_DT
def DT (n : Nat) : Fld := ⟨0x48001008 + 4 * n, 31, 19, 320, .rwl⟩
def MIN_PULSE (n : Nat) : Fld := ⟨0x48001008 + 4 * n, 18, 11, 10, .rwl⟩
def MIN_LS (n : Nat) : Fld := ⟨0x48001008 + 4 * n, 10, 3, 0, .rwl⟩
def allFields (n : Nat) : List Fld := [ DT n] ++ [ MIN_PULSE n] ++ [ MIN_LS n]
end PWM_DT
namespace PWM_LIMIT
def NOM (n : Nat) : Fld := ⟨0x48001010 + 4 * n, 31, 17, 0, .rwl⟩
def BOOST (n : Nat) : Fld := ⟨0x48001010 + 4 * n, 16, 13, 0, .rwl⟩
def BOOST_T (n : Nat) : Fld := ⟨0x48001010 + 4 * n, 12, 7, 1, .rwl⟩
def TDER (n : Nat) : Fld := ⟨0x48001010 + 4 * n, 6, 0, 60, .rwl⟩
def allFields (n : Nat) : List Fld := [ NOM n] ++ [ BOOST n] ++ [ BOOST_T n] ++ [ TDER n]
end PWM_LIMIT
namespace PWM_STAT
def LIMIT_CNT (n : Nat) : Fld := ⟨0x48001018 + 4 * n, 31, 16, 0, .ro⟩
def BOOST_LEFT (n : Nat) : Fld := ⟨0x48001018 + 4 * n, 15, 6, 0, .ro⟩
def BOOST_ON (n : Nat) : Fld := ⟨0x48001018 + 4 * n, 5, 5, 0, .ro⟩
def BOOST_EXH (n : Nat) : Fld := ⟨0x48001018 + 4 * n, 4, 4, 0, .ro⟩
def DERATE (n : Nat) : Fld := ⟨0x48001018 + 4 * n, 3, 3, 0, .ro⟩
def SLIP (n : Nat) : Fld := ⟨0x48001018 + 4 * n, 2, 2, 0, .w1c⟩
def allFields (n : Nat) : List Fld := [ LIMIT_CNT n] ++ [ BOOST_LEFT n] ++ [ BOOST_ON n] ++ [ BOOST_EXH n] ++ [ DERATE n] ++ [ SLIP n]
end PWM_STAT
namespace PWM_SHARE
def MASK_B1 : Fld := ⟨0x48001020, 31, 29, 0, .ro⟩
def HO_B1 : Fld := ⟨0x48001020, 28, 28, 0, .ro⟩
def MASK_B2 : Fld := ⟨0x48001020, 27, 25, 0, .ro⟩
def HO_B2 : Fld := ⟨0x48001020, 24, 24, 0, .ro⟩
def SRC : Fld := ⟨0x48001020, 23, 22, 0, .ro⟩
def allFields (_ : Nat) : List Fld := [ MASK_B1] ++ [ HO_B1] ++ [ MASK_B2] ++ [ HO_B2] ++ [ SRC]
end PWM_SHARE
namespace GDV_CFG
def BLANK (n : Nat) : Fld := ⟨0x48002000 + 4 * n, 31, 24, 50, .rwl⟩
def VDS_TH (n : Nat) : Fld := ⟨0x48002000 + 4 * n, 23, 19, 8, .rwl⟩
def HW_OC (n : Nat) : Fld := ⟨0x48002000 + 4 * n, 18, 4, 32767, .rwl⟩
def GATE_TMO (n : Nat) : Fld := ⟨0x48002000 + 4 * n, 3, 0, 4, .rwl⟩
def allFields (n : Nat) : List Fld := [ BLANK n] ++ [ VDS_TH n] ++ [ HW_OC n] ++ [ GATE_TMO n]
end GDV_CFG
namespace GDV_STAT
def LOCKOUT (n : Nat) : Fld := ⟨0x48002008 + 4 * n, 31, 31, 0, .ro⟩
def DESAT (n : Nat) : Fld := ⟨0x48002008 + 4 * n, 30, 30, 0, .w1c⟩
def HWOC (n : Nat) : Fld := ⟨0x48002008 + 4 * n, 29, 29, 0, .w1c⟩
def VDRV_UV (n : Nat) : Fld := ⟨0x48002008 + 4 * n, 28, 28, 0, .ro⟩
def VBR_UV (n : Nat) : Fld := ⟨0x48002008 + 4 * n, 27, 27, 0, .ro⟩
def VBR_OV (n : Nat) : Fld := ⟨0x48002008 + 4 * n, 26, 26, 0, .ro⟩
def WEAK (n : Nat) : Fld := ⟨0x48002008 + 4 * n, 25, 25, 0, .ro⟩
def DESAT_SRC (n : Nat) (i : Nat) : Fld := ⟨0x48002008 + 4 * n, 16 + i, 16 + i, 0, .ro⟩
def FAULTS_1S (n : Nat) : Fld := ⟨0x48002008 + 4 * n, 15, 14, 0, .ro⟩
def allFields (n : Nat) : List Fld := [ LOCKOUT n] ++ [ DESAT n] ++ [ HWOC n] ++ [ VDRV_UV n] ++ [ VBR_UV n] ++ [ VBR_OV n] ++ [ WEAK n] ++ (List.range 6).map (DESAT_SRC n) ++ [ FAULTS_1S n]
end GDV_STAT
namespace GDV_SEG
def RETIRED (n : Nat) (i : Nat) : Fld := ⟨0x48002010 + 4 * n, i, i, 0, .ro⟩
def allFields (n : Nat) : List Fld := (List.range 18).map (RETIRED n)
end GDV_SEG
namespace MFE_CFG
def DEC : Fld := ⟨0x48003000, 31, 29, 2, .rwl⟩
def ALIGN : Fld := ⟨0x48003000, 28, 28, 0, .rwl⟩
def VMODE : Fld := ⟨0x48003000, 27, 27, 0, .rwl⟩
def OFS_TRK : Fld := ⟨0x48003000, 26, 26, 1, .rwl⟩
def SUM_TH : Fld := ⟨0x48003000, 25, 18, 16, .rwl⟩
def allFields (_ : Nat) : List Fld := [ DEC] ++ [ ALIGN] ++ [ VMODE] ++ [ OFS_TRK] ++ [ SUM_TH]
end MFE_CFG
namespace MFE_VCFG
def BRS_EN (i : Nat) : Fld := ⟨0x48003004, 30 + i, 30 + i, 0, .rwl⟩
def BRS_RANGE : Fld := ⟨0x48003004, 29, 28, 1, .rwl⟩
def AUX_EN (i : Nat) : Fld := ⟨0x48003004, 24 + i, 24 + i, 0, .rwl⟩
def AUX_RATIO (i : Nat) : Fld := ⟨0x48003004, 20 + i, 20 + i, 0, .rwl⟩
def allFields (_ : Nat) : List Fld := (List.range 2).map (BRS_EN) ++ [ BRS_RANGE] ++ (List.range 4).map (AUX_EN) ++ (List.range 4).map (AUX_RATIO)
end MFE_VCFG
namespace MFE_STAT
def CH_VALID (i : Nat) : Fld := ⟨0x48003008, 26 + i, 26 + i, 0, .ro⟩
def CH_FAIL (i : Nat) : Fld := ⟨0x48003008, 20 + i, 20 + i, 0, .ro⟩
def SPARE_FAIL (i : Nat) : Fld := ⟨0x48003008, 18 + i, 18 + i, 0, .ro⟩
def SUM_B1 : Fld := ⟨0x48003008, 17, 17, 0, .ro⟩
def SUM_B2 : Fld := ⟨0x48003008, 16, 16, 0, .ro⟩
def CAL_DONE : Fld := ⟨0x48003008, 15, 15, 0, .ro⟩
def TEMP_DIS : Fld := ⟨0x48003008, 14, 14, 0, .ro⟩
def allFields (_ : Nat) : List Fld := (List.range 6).map (CH_VALID) ++ (List.range 6).map (CH_FAIL) ++ (List.range 2).map (SPARE_FAIL) ++ [ SUM_B1] ++ [ SUM_B2] ++ [ CAL_DONE] ++ [ TEMP_DIS]
end MFE_STAT
namespace MFE_SPARE
def SUB0 : Fld := ⟨0x4800300C, 31, 28, 15, .ro⟩
def SUB1 : Fld := ⟨0x4800300C, 27, 24, 15, .ro⟩
def SHADOW0 : Fld := ⟨0x4800300C, 23, 20, 15, .ro⟩
def SHADOW1 : Fld := ⟨0x4800300C, 19, 16, 15, .ro⟩
def allFields (_ : Nat) : List Fld := [ SUB0] ++ [ SUB1] ++ [ SHADOW0] ++ [ SHADOW1]
end MFE_SPARE
namespace MFE_TEMP
def T0 : Fld := ⟨0x48003010, 31, 16, 0, .ro⟩
def T1 : Fld := ⟨0x48003010, 15, 0, 0, .ro⟩
def allFields (_ : Nat) : List Fld := [ T0] ++ [ T1]
end MFE_TEMP
namespace SNT_CFG
def EN (n : Nat) : Fld := ⟨0x48005000 + 4 * n, 31, 31, 0, .rwl⟩
def TICK (n : Nat) : Fld := ⟨0x48005000 + 4 * n, 30, 21, 30, .rwl⟩
def NIB (n : Nat) : Fld := ⟨0x48005000 + 4 * n, 20, 18, 6, .rwl⟩
def PAUSE (n : Nat) : Fld := ⟨0x48005000 + 4 * n, 17, 17, 0, .rwl⟩
def CRC_REC (n : Nat) : Fld := ⟨0x48005000 + 4 * n, 16, 16, 1, .rwl⟩
def ESM (n : Nat) : Fld := ⟨0x48005000 + 4 * n, 15, 15, 0, .rwl⟩
def STALE (n : Nat) : Fld := ⟨0x48005000 + 4 * n, 14, 9, 5, .rwl⟩
def allFields (n : Nat) : List Fld := [ EN n] ++ [ TICK n] ++ [ NIB n] ++ [ PAUSE n] ++ [ CRC_REC n] ++ [ ESM n] ++ [ STALE n]
end SNT_CFG
namespace SNT_STAT
def VALID (i : Nat) : Fld := ⟨0x48005010, 8 * i+7, 8 * i+7, 0, .ro⟩
def ESM (i : Nat) : Fld := ⟨0x48005010, 8 * i+6, 8 * i+6, 0, .ro⟩
def ERR (i : Nat) : Fld := ⟨0x48005010, 8 * i+5, 8 * i+4, 0, .ro⟩
def CNT (i : Nat) : Fld := ⟨0x48005010, 8 * i+3, 8 * i, 0, .ro⟩
def allFields (_ : Nat) : List Fld := (List.range 4).map (VALID) ++ (List.range 4).map (ESM) ++ (List.range 4).map (ERR) ++ (List.range 4).map (CNT)
end SNT_STAT
namespace POS_CFG
def EN (n : Nat) : Fld := ⟨0x48004000 + 4 * n, 31, 31, 0, .rwl⟩
def INC (n : Nat) : Fld := ⟨0x48004000 + 4 * n, 30, 28, 0, .rwl⟩
def ABS (n : Nat) : Fld := ⟨0x48004000 + 4 * n, 27, 25, 0, .rwl⟩
def DIR (n : Nat) : Fld := ⟨0x48004000 + 4 * n, 24, 24, 0, .rwl⟩
def ABS_DIR (n : Nat) : Fld := ⟨0x48004000 + 4 * n, 23, 23, 0, .rwl⟩
def LEARN (n : Nat) : Fld := ⟨0x48004000 + 4 * n, 22, 22, 1, .rwl⟩
def LINES (n : Nat) : Fld := ⟨0x48004000 + 4 * n, 15, 0, 2048, .rwl⟩
def allFields (n : Nat) : List Fld := [ EN n] ++ [ INC n] ++ [ ABS n] ++ [ DIR n] ++ [ ABS_DIR n] ++ [ LEARN n] ++ [ LINES n]
end POS_CFG
namespace POS_IDX_CFG
def IDX_EN (n : Nat) : Fld := ⟨0x48004008 + 4 * n, 31, 31, 0, .rwl⟩
def INDEX_TOL (n : Nat) : Fld := ⟨0x48004008 + 4 * n, 30, 24, 2, .rwl⟩
def IDX_DEAD (n : Nat) : Fld := ⟨0x48004008 + 4 * n, 23, 18, 4, .rwl⟩
def allFields (n : Nat) : List Fld := [ IDX_EN n] ++ [ INDEX_TOL n] ++ [ IDX_DEAD n]
end POS_IDX_CFG
namespace POS_IDX_REF
def REF (n : Nat) : Fld := ⟨0x48004010 + 4 * n, 31, 0, 0, .rwl⟩
def allFields (n : Nat) : List Fld := [ REF n]
end POS_IDX_REF
namespace POS_SPD_CFG
def SPD_N (n : Nat) : Fld := ⟨0x48004018 + 4 * n, 31, 22, 20, .rwl⟩
def STILL_WINDOWS (n : Nat) : Fld := ⟨0x48004018 + 4 * n, 21, 18, 4, .rwl⟩
def STILL_BAND (n : Nat) : Fld := ⟨0x48004018 + 4 * n, 17, 14, 2, .rwl⟩
def allFields (n : Nat) : List Fld := [ SPD_N n] ++ [ STILL_WINDOWS n] ++ [ STILL_BAND n]
end POS_SPD_CFG
namespace POS_ABS_CFG
def ABS_OFS (n : Nat) : Fld := ⟨0x48004020 + 4 * n, 31, 16, 0, .rwl⟩
def PLAUS_TOL (n : Nat) : Fld := ⟨0x48004020 + 4 * n, 15, 8, 16, .rwl⟩
def PLAUS_N (n : Nat) : Fld := ⟨0x48004020 + 4 * n, 7, 4, 4, .rwl⟩
def allFields (n : Nat) : List Fld := [ ABS_OFS n] ++ [ PLAUS_TOL n] ++ [ PLAUS_N n]
end POS_ABS_CFG
namespace POS_ABZ_CFG
def FILT : Fld := ⟨0x48004028, 31, 29, 2, .rwl⟩
def DIFF : Fld := ⟨0x48004028, 28, 28, 1, .rwl⟩
def allFields (_ : Nat) : List Fld := [ FILT] ++ [ DIFF]
end POS_ABZ_CFG
namespace POS_PRB_CFG
def EN (i : Nat) : Fld := ⟨0x4800402C, 16 * i+15, 16 * i+15, 0, .rwl⟩
def EDGE (i : Nat) : Fld := ⟨0x4800402C, 16 * i+14, 16 * i+13, 1, .rwl⟩
def MODE (i : Nat) : Fld := ⟨0x4800402C, 16 * i+12, 16 * i+12, 0, .rwl⟩
def CHAN (i : Nat) : Fld := ⟨0x4800402C, 16 * i+11, 16 * i+11, 0, .rwl⟩
def FILT (i : Nat) : Fld := ⟨0x4800402C, 16 * i+10, 16 * i+8, 1, .rwl⟩
def allFields (_ : Nat) : List Fld := (List.range 2).map (EN) ++ (List.range 2).map (EDGE) ++ (List.range 2).map (MODE) ++ (List.range 2).map (CHAN) ++ (List.range 2).map (FILT)
end POS_PRB_CFG
namespace POS_STAT
def QUAL (n : Nat) : Fld := ⟨0x48004030 + 4 * n, 31, 29, 5, .ro⟩
def RUN (n : Nat) : Fld := ⟨0x48004030 + 4 * n, 28, 27, 0, .ro⟩
def DBT_IDX (n : Nat) : Fld := ⟨0x48004030 + 4 * n, 26, 26, 0, .ro⟩
def DBT_ABZ (n : Nat) : Fld := ⟨0x48004030 + 4 * n, 25, 25, 0, .ro⟩
def DBT_CONV (n : Nat) : Fld := ⟨0x48004030 + 4 * n, 24, 24, 0, .ro⟩
def DBT_PLAUS (n : Nat) : Fld := ⟨0x48004030 + 4 * n, 23, 23, 0, .ro⟩
def HOMED (n : Nat) : Fld := ⟨0x48004030 + 4 * n, 22, 22, 0, .ro⟩
def FAULT (n : Nat) : Fld := ⟨0x48004030 + 4 * n, 21, 21, 0, .ro⟩
def ABS_VALID (n : Nat) : Fld := ⟨0x48004030 + 4 * n, 20, 20, 0, .ro⟩
def allFields (n : Nat) : List Fld := [ QUAL n] ++ [ RUN n] ++ [ DBT_IDX n] ++ [ DBT_ABZ n] ++ [ DBT_CONV n] ++ [ DBT_PLAUS n] ++ [ HOMED n] ++ [ FAULT n] ++ [ ABS_VALID n]
end POS_STAT
namespace POS_IDX_STAT
def IDX_DEV (n : Nat) : Fld := ⟨0x48004038 + 4 * n, 31, 16, 0, .ro⟩
def ADJ_CNT (n : Nat) : Fld := ⟨0x48004038 + 4 * n, 15, 8, 0, .ro⟩
def MISM_CNT (n : Nat) : Fld := ⟨0x48004038 + 4 * n, 7, 0, 0, .ro⟩
def allFields (n : Nat) : List Fld := [ IDX_DEV n] ++ [ ADJ_CNT n] ++ [ MISM_CNT n]
end POS_IDX_STAT
namespace POS_TRK_STAT
def AMPL (n : Nat) : Fld := ⟨0x48004040 + 4 * n, 31, 22, 0, .ro⟩
def SIG_WARN (n : Nat) : Fld := ⟨0x48004040 + 4 * n, 21, 21, 0, .ro⟩
def FAIL (n : Nat) : Fld := ⟨0x48004040 + 4 * n, 20, 20, 0, .ro⟩
def LEARNED (n : Nat) : Fld := ⟨0x48004040 + 4 * n, 19, 19, 0, .ro⟩
def CONV_FAIL (n : Nat) : Fld := ⟨0x48004040 + 4 * n, 18, 18, 0, .ro⟩
def allFields (n : Nat) : List Fld := [ AMPL n] ++ [ SIG_WARN n] ++ [ FAIL n] ++ [ LEARNED n] ++ [ CONV_FAIL n]
end POS_TRK_STAT
namespace POS_SPARE
def SUB : Fld := ⟨0x4800404C, 31, 30, 3, .ro⟩
def SHADOW : Fld := ⟨0x4800404C, 29, 28, 3, .ro⟩
def SPARE_FAIL : Fld := ⟨0x4800404C, 27, 27, 0, .ro⟩
def allFields (_ : Nat) : List Fld := [ SUB] ++ [ SHADOW] ++ [ SPARE_FAIL]
end POS_SPARE
namespace SIO_IN_CFG
def EN (n : Nat) : Fld := ⟨0x48006000 + 4 * n, 31, 31, 0, .rwl⟩
def POL_A (n : Nat) : Fld := ⟨0x48006000 + 4 * n, 30, 30, 0, .rwl⟩
def POL_B (n : Nat) : Fld := ⟨0x48006000 + 4 * n, 29, 29, 0, .rwl⟩
def MODE (n : Nat) : Fld := ⟨0x48006000 + 4 * n, 28, 28, 0, .rwl⟩
def FAIL_DEM (n : Nat) : Fld := ⟨0x48006000 + 4 * n, 27, 27, 1, .rwl⟩
def SBC_LINK (n : Nat) : Fld := ⟨0x48006000 + 4 * n, 26, 25, 0, .rwl⟩
def DT (n : Nat) : Fld := ⟨0x48006000 + 4 * n, 24, 15, 20, .rwl⟩
def allFields (n : Nat) : List Fld := [ EN n] ++ [ POL_A n] ++ [ POL_B n] ++ [ MODE n] ++ [ FAIL_DEM n] ++ [ SBC_LINK n] ++ [ DT n]
end SIO_IN_CFG
namespace SIO_STAT
def DEMAND (i : Nat) : Fld := ⟨0x48006020, 24 + i, 24 + i, 0, .ro⟩
def FAULT (i : Nat) : Fld := ⟨0x48006020, 16 + i, 16 + i, 0, .ro⟩
def MISM (i : Nat) : Fld := ⟨0x48006020, 8 + i, 8 + i, 0, .ro⟩
def allFields (_ : Nat) : List Fld := (List.range 8).map (DEMAND) ++ (List.range 8).map (FAULT) ++ (List.range 8).map (MISM)
end SIO_STAT
namespace SIO_RAW
def CLOSED_A (i : Nat) : Fld := ⟨0x48006024, 8 + i, 8 + i, 0, .ro⟩
def CLOSED_B (i : Nat) : Fld := ⟨0x48006024, i, i, 0, .ro⟩
def allFields (_ : Nat) : List Fld := (List.range 8).map (CLOSED_A) ++ (List.range 8).map (CLOSED_B)
end SIO_RAW
namespace SIO_DISC_CNT
def CNT (i : Nat) : Fld := ⟨0x48006028, 4 * i+3, 4 * i, 0, .ro⟩
def allFields (_ : Nat) : List Fld := (List.range 8).map (CNT)
end SIO_DISC_CNT
namespace SBC_CFG
def EN (n : Nat) : Fld := ⟨0x48007000 + 4 * n, 31, 31, 0, .rwl⟩
def FAIL (n : Nat) : Fld := ⟨0x48007000 + 4 * n, 30, 30, 0, .rwl⟩
def OWNER (n : Nat) : Fld := ⟨0x48007000 + 4 * n, 29, 29, 0, .rwl⟩
def PULL (n : Nat) : Fld := ⟨0x48007000 + 4 * n, 28, 21, 50, .rwl⟩
def ECO (n : Nat) : Fld := ⟨0x48007000 + 4 * n, 20, 14, 64, .rwl⟩
def OPEN_TH (n : Nat) : Fld := ⟨0x48007000 + 4 * n, 13, 7, 10, .rwl⟩
def allFields (n : Nat) : List Fld := [ EN n] ++ [ FAIL n] ++ [ OWNER n] ++ [ PULL n] ++ [ ECO n] ++ [ OPEN_TH n]
end SBC_CFG
namespace SBC_TEST_CFG
def DARK_EN : Fld := ⟨0x48007008, 31, 31, 1, .rwl⟩
def TEST_US : Fld := ⟨0x48007008, 30, 22, 200, .rwl⟩
def PERIOD : Fld := ⟨0x48007008, 21, 12, 100, .rwl⟩
def allFields (_ : Nat) : List Fld := [ DARK_EN] ++ [ TEST_US] ++ [ PERIOD]
end SBC_TEST_CFG
namespace SBC_STAT
def STATE (n : Nat) : Fld := ⟨0x48007010 + 4 * n, 31, 30, 0, .ro⟩
def CAUSE (n : Nat) : Fld := ⟨0x48007010 + 4 * n, 29, 28, 3, .ro⟩
def FAULT (n : Nat) : Fld := ⟨0x48007010 + 4 * n, 27, 27, 0, .ro⟩
def FKIND (n : Nat) : Fld := ⟨0x48007010 + 4 * n, 26, 24, 0, .ro⟩
def I_COIL (n : Nat) : Fld := ⟨0x48007010 + 4 * n, 23, 12, 0, .ro⟩
def SUPPLY (n : Nat) : Fld := ⟨0x48007010 + 4 * n, 11, 11, 0, .ro⟩
def allFields (n : Nat) : List Fld := [ STATE n] ++ [ CAUSE n] ++ [ FAULT n] ++ [ FKIND n] ++ [ I_COIL n] ++ [ SUPPLY n]
end SBC_STAT
namespace PHY_CFG
def EN (n : Nat) : Fld := ⟨0x48008000 + 4 * n, 31, 31, 0, .rwl⟩
def SPEED (n : Nat) : Fld := ⟨0x48008000 + 4 * n, 30, 30, 1, .rwl⟩
def ROLE (n : Nat) : Fld := ⟨0x48008000 + 4 * n, 29, 29, 0, .rwl⟩
def allFields (n : Nat) : List Fld := [ EN n] ++ [ SPEED n] ++ [ ROLE n]
end PHY_CFG
namespace PHY_STAT
def LINK (n : Nat) : Fld := ⟨0x48008008 + 4 * n, 31, 31, 0, .ro⟩
def SQI (n : Nat) : Fld := ⟨0x48008008 + 4 * n, 30, 28, 0, .ro⟩
def LOSS_CNT (n : Nat) : Fld := ⟨0x48008008 + 4 * n, 27, 20, 0, .ro⟩
def allFields (n : Nat) : List Fld := [ LINK n] ++ [ SQI n] ++ [ LOSS_CNT n]
end PHY_STAT
namespace JMC_CFG
def ETYPE : Fld := ⟨0x48009000, 31, 16, 34997, .rwl⟩
def PI : Fld := ⟨0x48009000, 15, 9, 12, .rwl⟩
def ACTION_OFS : Fld := ⟨0x48009000, 8, 0, 20, .rwl⟩
def allFields (_ : Nat) : List Fld := [ ETYPE] ++ [ PI] ++ [ ACTION_OFS]
end JMC_CFG
namespace JMC_ADDR
def CLUSTER : Fld := ⟨0x48009004, 31, 24, 0, .rwl⟩
def DA_LOW : Fld := ⟨0x48009004, 23, 0, 0, .rwl⟩
def allFields (_ : Nat) : List Fld := [ CLUSTER] ++ [ DA_LOW]
end JMC_ADDR
namespace JMC_WV_SEL
def NODE : Fld := ⟨0x48009008, 10, 0, 0, .rw⟩
def allFields (_ : Nat) : List Fld := [ NODE]
end JMC_WV_SEL
namespace JMC_WINVIOL
def CNT_X : Fld := ⟨0x4800900C, 31, 16, 0, .ro⟩
def CNT_Y : Fld := ⟨0x4800900C, 15, 0, 0, .ro⟩
def allFields (_ : Nat) : List Fld := [ CNT_X] ++ [ CNT_Y]
end JMC_WINVIOL
namespace JMC_CNT
def FCSERR (n : Nat) : Fld := ⟨0x48009010 + 4 * n, 31, 24, 0, .ro⟩
def FMT (n : Nat) : Fld := ⟨0x48009010 + 4 * n, 23, 16, 0, .ro⟩
def DUP (n : Nat) : Fld := ⟨0x48009010 + 4 * n, 15, 8, 0, .ro⟩
def ETVIOL (n : Nat) : Fld := ⟨0x48009010 + 4 * n, 7, 0, 0, .ro⟩
def allFields (n : Nat) : List Fld := [ FCSERR n] ++ [ FMT n] ++ [ DUP n] ++ [ ETVIOL n]
end JMC_CNT
namespace JMC_GUARD
def BLOCKED : Fld := ⟨0x48009018, 31, 31, 1, .ro⟩
def CAUSE : Fld := ⟨0x48009018, 30, 27, 5, .ro⟩
def BLOCK_CNT : Fld := ⟨0x48009018, 15, 8, 0, .ro⟩
def LATE_CNT : Fld := ⟨0x48009018, 7, 0, 0, .ro⟩
def allFields (_ : Nat) : List Fld := [ BLOCKED] ++ [ CAUSE] ++ [ BLOCK_CNT] ++ [ LATE_CNT]
end JMC_GUARD
namespace JMC_TBL_IDX
def IDX : Fld := ⟨0x48009020, 10, 0, 0, .rw⟩
def allFields (_ : Nat) : List Fld := [ IDX]
end JMC_TBL_IDX
namespace JMC_TBL_LO
def ENTRY : Fld := ⟨0x48009024, 31, 0, 0, .ro⟩
def allFields (_ : Nat) : List Fld := [ ENTRY]
end JMC_TBL_LO
namespace JMC_TBL_HI
def ENTRY : Fld := ⟨0x48009028, 31, 0, 0, .ro⟩
def allFields (_ : Nat) : List Fld := [ ENTRY]
end JMC_TBL_HI
namespace JLF_CYCLE
def CYCLE_US : Fld := ⟨0x40008000, 31, 20, 250, .rwl⟩
def NSLOTS : Fld := ⟨0x40008000, 19, 8, 0, .rwl⟩
def allFields (_ : Nat) : List Fld := [ CYCLE_US] ++ [ NSLOTS]
end JLF_CYCLE
namespace JLF_ET
def ET_LEN : Fld := ⟨0x40008004, 31, 20, 0, .rwl⟩
def ET_MAX : Fld := ⟨0x40008004, 19, 12, 8, .rwl⟩
def allFields (_ : Nat) : List Fld := [ ET_LEN] ++ [ ET_MAX]
end JLF_ET
namespace JLF_STAT
def CYCLE : Fld := ⟨0x40008008, 31, 16, 0, .ro⟩
def allFields (_ : Nat) : List Fld := [ CYCLE]
end JLF_STAT
namespace JSY_CFG
def SYNC_MIN : Fld := ⟨0x40009000, 30, 28, 2, .rwl⟩
def LOSS_N : Fld := ⟨0x40009000, 27, 24, 2, .rwl⟩
def OFS_LIM : Fld := ⟨0x40009000, 23, 12, 100, .rwl⟩
def RATE_LIM : Fld := ⟨0x40009000, 11, 0, 2000, .rwl⟩
def allFields (_ : Nat) : List Fld := [ SYNC_MIN] ++ [ LOSS_N] ++ [ OFS_LIM] ++ [ RATE_LIM]
end JSY_CFG
namespace JSY_STAT
def STATE : Fld := ⟨0x40009004, 31, 30, 0, .ro⟩
def OVER_HALF : Fld := ⟨0x40009004, 29, 29, 0, .ro⟩
def NVALS : Fld := ⟨0x40009004, 28, 25, 0, .ro⟩
def CORR : Fld := ⟨0x40009004, 15, 0, 0, .ro⟩
def allFields (_ : Nat) : List Fld := [ STATE] ++ [ OVER_HALF] ++ [ NVALS] ++ [ CORR]
end JSY_STAT
namespace JSY_RATE
def RATE : Fld := ⟨0x40009008, 31, 0, 0, .ro⟩
def allFields (_ : Nat) : List Fld := [ RATE]
end JSY_RATE
namespace JLF_START
def CS_EN : Fld := ⟨0x40008010, 31, 31, 0, .rwl⟩
def RANK : Fld := ⟨0x40008010, 30, 29, 0, .rwl⟩
def allFields (_ : Nat) : List Fld := [ CS_EN] ++ [ RANK]
end JLF_START
namespace JLF_SCHED
def ID : Fld := ⟨0x40008014, 15, 0, 0, .rwl⟩
def allFields (_ : Nat) : List Fld := [ ID]
end JLF_SCHED
namespace JLF_START_STAT
def PHASE : Fld := ⟨0x40008018, 31, 29, 0, .ro⟩
def ATTEMPT : Fld := ⟨0x40008018, 28, 25, 0, .ro⟩
def CS_FAIL : Fld := ⟨0x40008018, 24, 24, 0, .ro⟩
def SRC : Fld := ⟨0x40008018, 21, 11, 0, .ro⟩
def allFields (_ : Nat) : List Fld := [ PHASE] ++ [ ATTEMPT] ++ [ CS_FAIL] ++ [ SRC]
end JLF_START_STAT
namespace JLF_MEMB_SEL
def NODE : Fld := ⟨0x40008020, 10, 0, 0, .rw⟩
def allFields (_ : Nat) : List Fld := [ NODE]
end JLF_MEMB_SEL
namespace JLF_MEMB
def PRESENT : Fld := ⟨0x40008024, 31, 31, 0, .ro⟩
def SELF : Fld := ⟨0x40008024, 30, 30, 0, .ro⟩
def MISS_RUN : Fld := ⟨0x40008024, 29, 28, 0, .ro⟩
def REINT_CNT : Fld := ⟨0x40008024, 15, 0, 0, .ro⟩
def allFields (_ : Nat) : List Fld := [ PRESENT] ++ [ SELF] ++ [ MISS_RUN] ++ [ REINT_CNT]
end JLF_MEMB
namespace JLF_CLAIM_CFG
def EN : Fld := ⟨0x40008028, 31, 31, 0, .rwl⟩
def NCLAIM : Fld := ⟨0x40008028, 30, 28, 1, .rwl⟩
def TASK : Fld := ⟨0x40008028, 27, 24, 0, .rwl⟩
def QUEUE : Fld := ⟨0x40008028, 23, 21, 0, .rwl⟩
def RXQ : Fld := ⟨0x40008028, 20, 18, 0, .rwl⟩
def allFields (_ : Nat) : List Fld := [ EN] ++ [ NCLAIM] ++ [ TASK] ++ [ QUEUE] ++ [ RXQ]
end JLF_CLAIM_CFG
namespace JLF_CLAIM_STAT
def STATE (n : Nat) : Fld := ⟨0x40008030 + 4 * n, 31, 30, 0, .ro⟩
def CLEAN (n : Nat) : Fld := ⟨0x40008030 + 4 * n, 29, 28, 0, .ro⟩
def ATTEMPT (n : Nat) : Fld := ⟨0x40008030 + 4 * n, 27, 23, 0, .ro⟩
def SLOT (n : Nat) : Fld := ⟨0x40008030 + 4 * n, 10, 0, 0, .ro⟩
def allFields (n : Nat) : List Fld := [ STATE n] ++ [ CLEAN n] ++ [ ATTEMPT n] ++ [ SLOT n]
end JLF_CLAIM_STAT
namespace JLF_NET
def FAIL_X : Fld := ⟨0x40008040, 31, 31, 0, .ro⟩
def FAIL_Y : Fld := ⟨0x40008040, 30, 30, 0, .ro⟩
def CNT_X : Fld := ⟨0x40008040, 15, 8, 0, .ro⟩
def CNT_Y : Fld := ⟨0x40008040, 7, 0, 0, .ro⟩
def allFields (_ : Nat) : List Fld := [ FAIL_X] ++ [ FAIL_Y] ++ [ CNT_X] ++ [ CNT_Y]
end JLF_NET
namespace JMC_AUTH
def EN : Fld := ⟨0x48009030, 31, 31, 0, .rwl⟩
def TXKEY : Fld := ⟨0x48009030, 30, 29, 0, .rwl⟩
def RXKEYS (i : Nat) : Fld := ⟨0x48009030, 25 + i, 25 + i, 0, .rwl⟩
def ET_AUTH : Fld := ⟨0x48009030, 24, 24, 0, .rwl⟩
def allFields (_ : Nat) : List Fld := [ EN] ++ [ TXKEY] ++ (List.range 4).map (RXKEYS) ++ [ ET_AUTH]
end JMC_AUTH
namespace JMC_AUTH_CNT
def FAIL (n : Nat) : Fld := ⟨0x48009034 + 4 * n, 15, 0, 0, .ro⟩
def allFields (n : Nat) : List Fld := [ FAIL n]
end JMC_AUTH_CNT
namespace RDN_CFG
def VOTE_TASK : Fld := ⟨0x4000B000, 31, 28, 0, .rwl⟩
def VOTE_EN : Fld := ⟨0x4000B000, 27, 27, 1, .rwl⟩
def VOTE_LEN : Fld := ⟨0x4000B000, 26, 20, 0, .rwl⟩
def XFER_LEN : Fld := ⟨0x4000B000, 19, 13, 0, .rwl⟩
def PROOF_MAX : Fld := ⟨0x4000B000, 12, 5, 72, .rwl⟩
def allFields (_ : Nat) : List Fld := [ VOTE_TASK] ++ [ VOTE_EN] ++ [ VOTE_LEN] ++ [ XFER_LEN] ++ [ PROOF_MAX]
end RDN_CFG
namespace RDN_STAT
def DL : Fld := ⟨0x4000B004, 31, 29, 4, .ro⟩
def MASTER : Fld := ⟨0x4000B004, 28, 27, 0, .ro⟩
def MASTER_VALID : Fld := ⟨0x4000B004, 26, 26, 0, .ro⟩
def WITNESSLESS : Fld := ⟨0x4000B004, 25, 25, 0, .ro⟩
def UNLINKED : Fld := ⟨0x4000B004, 24, 24, 0, .ro⟩
def D_AVAIL : Fld := ⟨0x4000B004, 23, 23, 0, .ro⟩
def D_HOT : Fld := ⟨0x4000B004, 22, 22, 0, .ro⟩
def SERVICE : Fld := ⟨0x4000B004, 21, 21, 0, .ro⟩
def LSTATE (i : Nat) : Fld := ⟨0x4000B004, 4 * i + 3, 4 * i, 0, .ro⟩
def allFields (_ : Nat) : List Fld := [ DL] ++ [ MASTER] ++ [ MASTER_VALID] ++ [ WITNESSLESS] ++ [ UNLINKED] ++ [ D_AVAIL] ++ [ D_HOT] ++ [ SERVICE] ++ (List.range 4).map (LSTATE)
end RDN_STAT
namespace RDN_LOSS
def CAUSE (n : Nat) : Fld := ⟨0x4000B010 + 4 * n, 31, 24, 0, .ro⟩
def BY (n : Nat) : Fld := ⟨0x4000B010 + 4 * n, 23, 22, 0, .ro⟩
def JREC (n : Nat) : Fld := ⟨0x4000B010 + 4 * n, 21, 0, 0, .ro⟩
def allFields (n : Nat) : List Fld := [ CAUSE n] ++ [ BY n] ++ [ JREC n]
end RDN_LOSS
namespace RDN_VOTE
def ACCUSED : Fld := ⟨0x4000B020, 31, 24, 0, .ro⟩
def NOMAJ : Fld := ⟨0x4000B020, 23, 16, 0, .ro⟩
def TIE : Fld := ⟨0x4000B020, 15, 8, 0, .ro⟩
def allFields (_ : Nat) : List Fld := [ ACCUSED] ++ [ NOMAJ] ++ [ TIE]
end RDN_VOTE
namespace RDN_DIG_LO
def DIGEST : Fld := ⟨0x4000B024, 31, 0, 0, .ro⟩
def allFields (_ : Nat) : List Fld := [ DIGEST]
end RDN_DIG_LO
namespace RDN_DIG_HI
def DIGEST : Fld := ⟨0x4000B028, 31, 0, 0, .ro⟩
def allFields (_ : Nat) : List Fld := [ DIGEST]
end RDN_DIG_HI
namespace RDN_XFER
def PHASE : Fld := ⟨0x4000B030, 31, 29, 0, .ro⟩
def SRC : Fld := ⟨0x4000B030, 28, 27, 0, .ro⟩
def COPIES : Fld := ⟨0x4000B030, 15, 0, 0, .ro⟩
def allFields (_ : Nat) : List Fld := [ PHASE] ++ [ SRC] ++ [ COPIES]
end RDN_XFER
namespace RDN_JSEQ
def JSEQ : Fld := ⟨0x4000B034, 31, 0, 0, .ro⟩
def allFields (_ : Nat) : List Fld := [ JSEQ]
end RDN_JSEQ
namespace RDN_PROOF
def RESULT : Fld := ⟨0x4000B038, 31, 30, 0, .ro⟩
def AGE : Fld := ⟨0x4000B038, 29, 20, 0, .ro⟩
def FAIL_STEP : Fld := ⟨0x4000B038, 19, 12, 0, .ro⟩
def allFields (_ : Nat) : List Fld := [ RESULT] ++ [ AGE] ++ [ FAIL_STEP]
end RDN_PROOF
namespace XLK_STAT
def HEARD_X (i : Nat) : Fld := ⟨0x4000A000, 28 + i, 28 + i, 0, .ro⟩
def HEARD_Y (i : Nat) : Fld := ⟨0x4000A000, 24 + i, 24 + i, 0, .ro⟩
def BEACON_Y : Fld := ⟨0x4000A000, 23, 23, 0, .ro⟩
def BEACON_C : Fld := ⟨0x4000A000, 22, 22, 0, .ro⟩
def PATH_X_FAIL : Fld := ⟨0x4000A000, 21, 21, 0, .ro⟩
def PATH_Y_FAIL : Fld := ⟨0x4000A000, 20, 20, 0, .ro⟩
def allFields (_ : Nat) : List Fld := (List.range 4).map (HEARD_X) ++ (List.range 4).map (HEARD_Y) ++ [ BEACON_Y] ++ [ BEACON_C] ++ [ PATH_X_FAIL] ++ [ PATH_Y_FAIL]
end XLK_STAT
namespace XLK_MISS
def MISS_X (n : Nat) : Fld := ⟨0x4000A010 + 4 * n, 31, 16, 0, .ro⟩
def MISS_Y (n : Nat) : Fld := ⟨0x4000A010 + 4 * n, 15, 0, 0, .ro⟩
def allFields (n : Nat) : List Fld := [ MISS_X n] ++ [ MISS_Y n]
end XLK_MISS
namespace XLK_ERR
def CRC : Fld := ⟨0x4000A020, 31, 16, 0, .ro⟩
def TIMEOUT : Fld := ⟨0x4000A020, 15, 0, 0, .ro⟩
def allFields (_ : Nat) : List Fld := [ CRC] ++ [ TIMEOUT]
end XLK_ERR
namespace XLK_WIRE
def HUB (i : Nat) : Fld := ⟨0x4000A024, 6 + i, 6 + i, 0, .ro⟩
def DIRECT (i : Nat) : Fld := ⟨0x4000A024, i, i, 0, .ro⟩
def allFields (_ : Nat) : List Fld := (List.range 4).map (HUB) ++ (List.range 6).map (DIRECT)
end XLK_WIRE
namespace RNG_CFG
def EN : Fld := ⟨0x40006000, 31, 31, 0, .rwl⟩
def CADENCE : Fld := ⟨0x40006000, 30, 25, 3, .rwl⟩
def BATCH : Fld := ⟨0x40006000, 24, 21, 4, .rwl⟩
def APPLY_LEAD : Fld := ⟨0x40006000, 20, 12, 20, .rwl⟩
def allFields (_ : Nat) : List Fld := [ EN] ++ [ CADENCE] ++ [ BATCH] ++ [ APPLY_LEAD]
end RNG_CFG
namespace RNG_RCA_LO
/-- Bits [6:0] are 0 and read 0. -/
def ADDR : Fld := ⟨0x40006004, 31, 7, 0, .rwl⟩
def allFields (_ : Nat) : List Fld := [ ADDR]
end RNG_RCA_LO
namespace RNG_RCA_HI
def ADDR : Fld := ⟨0x40006008, 31, 0, 0, .rwl⟩
def allFields (_ : Nat) : List Fld := [ ADDR]
end RNG_RCA_HI
namespace RNG_SIZE
def LOG (i : Nat) : Fld := ⟨0x4000600C, 4 * i+3, 4 * i, 4, .rwl⟩
def allFields (_ : Nat) : List Fld := (List.range 8).map (LOG)
end RNG_SIZE
namespace RNG_APP_CFG
def TASKS (i : Nat) : Fld := ⟨0x40006010, 16 + i, 16 + i, 0, .rwl⟩
def allFields (_ : Nat) : List Fld := (List.range 16).map (TASKS)
end RNG_APP_CFG
namespace RNG_BASE_LO
/-- Bits [5:0] are 0 and read 0. -/
def ADDR (n : Nat) : Fld := ⟨0x40006040 + 8 * n, 31, 6, 0, .rwl⟩
def allFields (n : Nat) : List Fld := [ ADDR n]
end RNG_BASE_LO
namespace RNG_BASE_HI
def ADDR (n : Nat) : Fld := ⟨0x40006044 + 8 * n, 31, 0, 0, .rwl⟩
def allFields (n : Nat) : List Fld := [ ADDR n]
end RNG_BASE_HI
namespace RNG_STAT
def SERVING : Fld := ⟨0x40006100, 31, 31, 0, .ro⟩
def HOST_LOST : Fld := ⟨0x40006100, 30, 30, 0, .ro⟩
def STOPPED (i : Nat) : Fld := ⟨0x40006100, 22 + i, 22 + i, 0, .ro⟩
def allFields (_ : Nat) : List Fld := [ SERVING] ++ [ HOST_LOST] ++ (List.range 8).map (STOPPED)
end RNG_STAT
namespace RNG_IDX
def GEN (n : Nat) : Fld := ⟨0x40006120 + 4 * n, 31, 16, 0, .ro⟩
def IDX (n : Nat) : Fld := ⟨0x40006120 + 4 * n, 15, 0, 0, .ro⟩
def allFields (n : Nat) : List Fld := [ GEN n] ++ [ IDX n]
end RNG_IDX
namespace RNG_CMDQn_STATE_REFUSED
def COUNT (n : Nat) : Fld := ⟨0x40006140 + 4 * n, 31, 0, 0, .ro⟩
def allFields (n : Nat) : List Fld := [ COUNT n]
end RNG_CMDQn_STATE_REFUSED
namespace RNG_GAP
def COUNT (n : Nat) : Fld := ⟨0x40006150 + 4 * n, 31, 0, 0, .ro⟩
def allFields (n : Nat) : List Fld := [ COUNT n]
end RNG_GAP
namespace RNG_LAST_SEQ
def SEQ (n : Nat) : Fld := ⟨0x40006160 + 4 * n, 31, 0, 0, .ro⟩
def allFields (n : Nat) : List Fld := [ SEQ n]
end RNG_LAST_SEQ
namespace RWP_CFG
def HOST_NODE : Fld := ⟨0x40007000, 31, 21, 0, .rwl⟩
def MAX_RETRY : Fld := ⟨0x40007000, 20, 17, 3, .rwl⟩
def MAX_OUT : Fld := ⟨0x40007000, 16, 12, 16, .rwl⟩
def HOST_TMO : Fld := ⟨0x40007000, 11, 2, 100, .rwl⟩
def allFields (_ : Nat) : List Fld := [ HOST_NODE] ++ [ MAX_RETRY] ++ [ MAX_OUT] ++ [ HOST_TMO]
end RWP_CFG
namespace RWP_STAT
def OUT : Fld := ⟨0x40007004, 31, 27, 0, .ro⟩
def NEXT_TAG : Fld := ⟨0x40007004, 26, 19, 0, .ro⟩
def allFields (_ : Nat) : List Fld := [ OUT] ++ [ NEXT_TAG]
end RWP_STAT
namespace RWP_CNT
def TIMEOUT : Fld := ⟨0x40007008, 31, 16, 0, .ro⟩
def DUP_RSP : Fld := ⟨0x40007008, 15, 8, 0, .ro⟩
def DENIED : Fld := ⟨0x40007008, 7, 0, 0, .ro⟩
def allFields (_ : Nat) : List Fld := [ TIMEOUT] ++ [ DUP_RSP] ++ [ DENIED]
end RWP_CNT
namespace RWP_RETRY
def COUNT : Fld := ⟨0x4000700C, 31, 0, 0, .ro⟩
def allFields (_ : Nat) : List Fld := [ COUNT]
end RWP_RETRY
namespace MEM_CFG
def SCRUB_PASS : Fld := ⟨0x40004000, 31, 22, 100, .rwl⟩
def allFields (_ : Nat) : List Fld := [ SCRUB_PASS]
end MEM_CFG
namespace MEM_STAT
def BANKS_LEFT : Fld := ⟨0x40004004, 31, 29, 4, .ro⟩
def COPY : Fld := ⟨0x40004004, 28, 28, 0, .ro⟩
def COPY_BANK : Fld := ⟨0x40004004, 27, 22, 0, .ro⟩
def allFields (_ : Nat) : List Fld := [ BANKS_LEFT] ++ [ COPY] ++ [ COPY_BANK]
end MEM_STAT
namespace MEM_ECC_CNT
def CORR : Fld := ⟨0x40004008, 31, 16, 0, .ro⟩
def UNCORR : Fld := ⟨0x40004008, 15, 8, 0, .ro⟩
def ADDR : Fld := ⟨0x40004008, 7, 0, 0, .ro⟩
def allFields (_ : Nat) : List Fld := [ CORR] ++ [ UNCORR] ++ [ ADDR]
end MEM_ECC_CNT
namespace MEM_ECC_LAST
def KIND : Fld := ⟨0x4000400C, 31, 30, 0, .ro⟩
def SRC : Fld := ⟨0x4000400C, 29, 26, 0, .ro⟩
def POISON : Fld := ⟨0x4000400C, 25, 25, 0, .ro⟩
def WADDR : Fld := ⟨0x4000400C, 21, 3, 0, .ro⟩
def allFields (_ : Nat) : List Fld := [ KIND] ++ [ SRC] ++ [ POISON] ++ [ WADDR]
end MEM_ECC_LAST
namespace MEM_SCRUB_CNT
def PASSES : Fld := ⟨0x40004010, 31, 0, 0, .ro⟩
def allFields (_ : Nat) : List Fld := [ PASSES]
end MEM_SCRUB_CNT
namespace MEM_RXQ_BASE
def BASE (n : Nat) : Fld := ⟨0x40004040 + 4 * n, 21, 3, 0, .rwl⟩
def allFields (n : Nat) : List Fld := [ BASE n]
end MEM_RXQ_BASE
namespace MEM_RXQ_LEN
def RECORDS (n : Nat) : Fld := ⟨0x40004060 + 4 * n, 7, 0, 0, .rwl⟩
def allFields (n : Nat) : List Fld := [ RECORDS n]
end MEM_RXQ_LEN
namespace MEM_BANK_STAT
def PHYS (n : Nat) : Fld := ⟨0x40004100 + 4 * n, 31, 25, n, .ro⟩
def ROWS (n : Nat) : Fld := ⟨0x40004100 + 4 * n, 24, 21, 0, .ro⟩
def COLS (n : Nat) : Fld := ⟨0x40004100 + 4 * n, 20, 19, 0, .ro⟩
def allFields (n : Nat) : List Fld := [ PHYS n] ++ [ ROWS n] ++ [ COLS n]
end MEM_BANK_STAT
namespace ARB_CFG
def AGE_MAX : Fld := ⟨0x40005000, 31, 26, 16, .rwl⟩
def allFields (_ : Nat) : List Fld := [ AGE_MAX]
end ARB_CFG
namespace ARB_PRIO
def PRIO (i : Nat) : Fld := ⟨0x40005004, 4 * i+2, 4 * i, ([3, 1, 1, 4, 2, 2, 0, 5].getD i 0), .rw⟩
def allFields (_ : Nat) : List Fld := (List.range 8).map (PRIO)
end ARB_PRIO
namespace ARB_GRP_REQ
def PERMIT (n : Nat) (i : Nat) : Fld := ⟨0x40005010 + 4 * n, i, i, 1, .rwl⟩
def allFields (n : Nat) : List Fld := (List.range 8).map (PERMIT n)
end ARB_GRP_REQ
namespace ARB_LOCKERR
def LAST_SRC : Fld := ⟨0x40005030, 31, 28, 0, .ro⟩
def HOLD_TMO : Fld := ⟨0x40005030, 15, 8, 0, .ro⟩
def ORDER : Fld := ⟨0x40005030, 7, 0, 0, .ro⟩
def allFields (_ : Nat) : List Fld := [ LAST_SRC] ++ [ HOLD_TMO] ++ [ ORDER]
end ARB_LOCKERR
namespace ARB_GRANT
def COUNT (n : Nat) : Fld := ⟨0x40005040 + 4 * n, 31, 0, 0, .ro⟩
def allFields (n : Nat) : List Fld := [ COUNT n]
end ARB_GRANT
namespace ARB_WAIT
def COUNT (n : Nat) : Fld := ⟨0x40005080 + 4 * n, 31, 0, 0, .ro⟩
def allFields (n : Nat) : List Fld := [ COUNT n]
end ARB_WAIT
namespace ARB_MAXWAIT
def CLR (n : Nat) : Fld := ⟨0x400050C0 + 4 * n, 31, 31, 0, .wo⟩
def MAX (n : Nat) : Fld := ⟨0x400050C0 + 4 * n, 15, 0, 0, .ro⟩
def allFields (n : Nat) : List Fld := [ CLR n] ++ [ MAX n]
end ARB_MAXWAIT
namespace FQ_CFG
def EN (n : Nat) : Fld := ⟨0x4800A000 + 4 * n, 31, 31, 0, .rwl⟩
def IDLE (n : Nat) : Fld := ⟨0x4800A000 + 4 * n, 30, 21, 100, .rwl⟩
def allFields (n : Nat) : List Fld := [ EN n] ++ [ IDLE n]
end FQ_CFG
namespace FQ_CTL
def FLUSH (i : Nat) : Fld := ⟨0x4800A040, i, i, 0, .w1s⟩
def allFields (_ : Nat) : List Fld := (List.range 16).map (FLUSH)
end FQ_CTL
namespace FQ_STAT
def WORDS (n : Nat) : Fld := ⟨0x4800A080 + 4 * n, 31, 22, 0, .ro⟩
def ITEMS (n : Nat) : Fld := ⟨0x4800A080 + 4 * n, 21, 14, 0, .ro⟩
def GAP_PEND (n : Nat) : Fld := ⟨0x4800A080 + 4 * n, 13, 13, 0, .ro⟩
def allFields (n : Nat) : List Fld := [ WORDS n] ++ [ ITEMS n] ++ [ GAP_PEND n]
end FQ_STAT
namespace FQ_GAPCNT
def COUNT (n : Nat) : Fld := ⟨0x4800A0C0 + 4 * n, 31, 0, 0, .ro⟩
def allFields (n : Nat) : List Fld := [ COUNT n]
end FQ_GAPCNT
namespace PWR_CFG
def WAKE_SIO (i : Nat) : Fld := ⟨0x4000C000, 24 + i, 24 + i, 0, .rwl⟩
def allFields (_ : Nat) : List Fld := (List.range 8).map (WAKE_SIO)
end PWR_CFG
namespace PWR_WAKE_CFG
def GRP_EN : Fld := ⟨0x4000C004, 31, 31, 0, .rwl⟩
def GRP : Fld := ⟨0x4000C004, 26, 16, 0, .rwl⟩
def allFields (_ : Nat) : List Fld := [ GRP_EN] ++ [ GRP]
end PWR_WAKE_CFG
namespace PWR_STATE
def STATE : Fld := ⟨0x4000C010, 31, 29, 0, .ro⟩
def REQ : Fld := ⟨0x4000C010, 28, 26, 7, .ro⟩
def VOTING : Fld := ⟨0x4000C010, 25, 25, 0, .ro⟩
def allFields (_ : Nat) : List Fld := [ STATE] ++ [ REQ] ++ [ VOTING]
end PWR_STATE
namespace PWR_REFUSE_CNT
def COUNT : Fld := ⟨0x4000C014, 31, 0, 0, .ro⟩
def allFields (_ : Nat) : List Fld := [ COUNT]
end PWR_REFUSE_CNT
namespace PWR_REFUSE_WHO
def BLOCK : Fld := ⟨0x4000C018, 31, 24, 0, .ro⟩
def LANE : Fld := ⟨0x4000C018, 23, 22, 0, .ro⟩
def REQ : Fld := ⟨0x4000C018, 21, 19, 0, .ro⟩
def allFields (_ : Nat) : List Fld := [ BLOCK] ++ [ LANE] ++ [ REQ]
end PWR_REFUSE_WHO
namespace PWR_PAD_RELEASE
def RELEASE (i : Nat) : Fld := ⟨0x4000C020, i, i, 0, .w1s⟩
def allFields (_ : Nat) : List Fld := (List.range 4).map (RELEASE)
end PWR_PAD_RELEASE
namespace PWR_PAD_STAT
def HELD (i : Nat) : Fld := ⟨0x4000C024, i, i, 1, .ro⟩
def allFields (_ : Nat) : List Fld := (List.range 4).map (HELD)
end PWR_PAD_STAT
namespace PWR_WAKE_STAT
def SRC : Fld := ⟨0x4000C030, 31, 29, 0, .ro⟩
def ADDR : Fld := ⟨0x4000C030, 28, 18, 0, .ro⟩
def allFields (_ : Nat) : List Fld := [ SRC] ++ [ ADDR]
end PWR_WAKE_STAT
namespace PWR_WAKE_UNCERT
def UNCERT : Fld := ⟨0x4000C034, 31, 0, 4294967295, .ro⟩
def allFields (_ : Nat) : List Fld := [ UNCERT]
end PWR_WAKE_UNCERT
namespace PWR_WAKE_STEP
def STEP : Fld := ⟨0x4000C038, 31, 0, 0, .ro⟩
def allFields (_ : Nat) : List Fld := [ STEP]
end PWR_WAKE_STEP
namespace PWR_EPOCH
def EPOCH : Fld := ⟨0x4000C040, 31, 0, 0, .ro⟩
def allFields (_ : Nat) : List Fld := [ EPOCH]
end PWR_EPOCH
namespace CTB_ACT
def OFS (n : Nat) : Fld := ⟨0x48000000 + 4 * n, 13, 0, 40, .rwl⟩
def allFields (n : Nat) : List Fld := [ OFS n]
end CTB_ACT
namespace CTB_STAT
def XTAL_OK : Fld := ⟨0x48000008, 31, 31, 0, .ro⟩
def LOCK : Fld := ⟨0x48000008, 30, 30, 0, .ro⟩
def FAIL : Fld := ⟨0x48000008, 29, 29, 0, .ro⟩
def RESTORED : Fld := ⟨0x48000008, 28, 28, 0, .ro⟩
def allFields (_ : Nat) : List Fld := [ XTAL_OK] ++ [ LOCK] ++ [ FAIL] ++ [ RESTORED]
end CTB_STAT
namespace CTB_TIME_LO
def TIME : Fld := ⟨0x48000010, 31, 0, 0, .ro⟩
def allFields (_ : Nat) : List Fld := [ TIME]
end CTB_TIME_LO
namespace CTB_TIME_HI
def TIME : Fld := ⟨0x48000014, 31, 0, 0, .ro⟩
def allFields (_ : Nat) : List Fld := [ TIME]
end CTB_TIME_HI
namespace BST_CFG
def POLICY : Fld := ⟨0x4000D000, 31, 30, 0, .rwl⟩
def DIAG : Fld := ⟨0x4000D000, 29, 29, 0, .rwl⟩
def allFields (_ : Nat) : List Fld := [ POLICY] ++ [ DIAG]
end BST_CFG
namespace BST_STAT
def MEM : Fld := ⟨0x4000D004, 31, 30, 0, .ro⟩
def LOGIC : Fld := ⟨0x4000D004, 29, 27, 0, .ro⟩
def LOGIC_DONE : Fld := ⟨0x4000D004, 26, 26, 0, .ro⟩
def FUSE_DENIED : Fld := ⟨0x4000D004, 25, 25, 0, .ro⟩
def DISABLED : Fld := ⟨0x4000D004, 24, 24, 0, .ro⟩
def REPAIRS : Fld := ⟨0x4000D004, 23, 16, 0, .ro⟩
def SLOT_WAIT : Fld := ⟨0x4000D004, 15, 8, 0, .ro⟩
def allFields (_ : Nat) : List Fld := [ MEM] ++ [ LOGIC] ++ [ LOGIC_DONE] ++ [ FUSE_DENIED] ++ [ DISABLED] ++ [ REPAIRS] ++ [ SLOT_WAIT]
end BST_STAT
namespace BST_MEM_LAST
def KIND : Fld := ⟨0x4000D008, 31, 30, 0, .ro⟩
def BANK : Fld := ⟨0x4000D008, 29, 24, 0, .ro⟩
def ROW : Fld := ⟨0x4000D008, 23, 17, 0, .ro⟩
def COLUMN : Fld := ⟨0x4000D008, 16, 10, 0, .ro⟩
def allFields (_ : Nat) : List Fld := [ KIND] ++ [ BANK] ++ [ ROW] ++ [ COLUMN]
end BST_MEM_LAST
namespace BST_DIS_LO
def BANKS (i : Nat) : Fld := ⟨0x4000D00C, i, i, 0, .ro⟩
def allFields (_ : Nat) : List Fld := (List.range 32).map (BANKS)
end BST_DIS_LO
namespace BST_DIS_HI
def BANKS (i : Nat) : Fld := ⟨0x4000D010, i, i, 0, .ro⟩
def allFields (_ : Nat) : List Fld := (List.range 32).map (BANKS)
end BST_DIS_HI
namespace BST_TIME
def READY_MS : Fld := ⟨0x4000D014, 31, 20, 0, .ro⟩
def MBIST_MS : Fld := ⟨0x4000D014, 19, 12, 0, .ro⟩
def LBIST_MS : Fld := ⟨0x4000D014, 11, 4, 0, .ro⟩
def allFields (_ : Nat) : List Fld := [ READY_MS] ++ [ MBIST_MS] ++ [ LBIST_MS]
end BST_TIME
namespace WEAR_LIFE
def USED : Fld := ⟨0x4000E000, 31, 22, 0, .ro⟩
def GAP : Fld := ⟨0x4000E000, 21, 21, 0, .ro⟩
def HOURS : Fld := ⟨0x4000E000, 20, 0, 0, .ro⟩
def allFields (_ : Nat) : List Fld := [ USED] ++ [ GAP] ++ [ HOURS]
end WEAR_LIFE
namespace WEAR_SLICE
def DRIFT (n : Nat) : Fld := ⟨0x4000E010 + 4 * n, 31, 24, 0, .ro⟩
def BASED (n : Nat) : Fld := ⟨0x4000E010 + 4 * n, 23, 23, 0, .ro⟩
def allFields (n : Nat) : List Fld := [ DRIFT n] ++ [ BASED n]
end WEAR_SLICE
namespace WEAR_MRAM
def SPARES_LEFT : Fld := ⟨0x4000E020, 31, 25, 64, .ro⟩
def LAST : Fld := ⟨0x4000E020, 24, 16, 0, .ro⟩
def CORR : Fld := ⟨0x4000E020, 15, 0, 0, .ro⟩
def allFields (_ : Nat) : List Fld := [ SPARES_LEFT] ++ [ LAST] ++ [ CORR]
end WEAR_MRAM
namespace BBX_CFG
def POST_MS : Fld := ⟨0x4000F000, 31, 22, 100, .rwl⟩
def allFields (_ : Nat) : List Fld := [ POST_MS]
end BBX_CFG
namespace BBX_RATE
def RATE (n : Nat) : Fld := ⟨0x4000F010 + 4 * n, 31, 24, ([0, 8, 4, 2].getD n 0), (if n = 0 then .ro else .rwl)⟩
def DEPTH (n : Nat) : Fld := ⟨0x4000F010 + 4 * n, 23, 12, ([0, 0x100, 0x080, 0x040].getD n 0), (if n = 0 then .ro else .rwl)⟩
def allFields (n : Nat) : List Fld := [ RATE n] ++ [ DEPTH n]
end BBX_RATE
namespace BBX_FAB
def EN : Fld := ⟨0x4000F020, 31, 31, 0, .rwl⟩
def QUEUE : Fld := ⟨0x4000F020, 30, 28, 7, .rwl⟩
def SH_S : Fld := ⟨0x4000F020, 27, 24, 6, .rwl⟩
def SH_F : Fld := ⟨0x4000F020, 23, 20, 5, .rwl⟩
def SH_D : Fld := ⟨0x4000F020, 19, 16, 3, .rwl⟩
def SH_T : Fld := ⟨0x4000F020, 15, 12, 2, .rwl⟩
def allFields (_ : Nat) : List Fld := [ EN] ++ [ QUEUE] ++ [ SH_S] ++ [ SH_F] ++ [ SH_D] ++ [ SH_T]
end BBX_FAB
namespace BBX_STAT
def WINDOW : Fld := ⟨0x4000F030, 31, 31, 0, .ro⟩
def OPEN : Fld := ⟨0x4000F030, 30, 29, 0, .ro⟩
def COMMIT : Fld := ⟨0x4000F030, 28, 28, 0, .ro⟩
def REFRESH : Fld := ⟨0x4000F030, 27, 27, 0, .ro⟩
def GROUPS : Fld := ⟨0x4000F030, 26, 21, 0, .ro⟩
def PENDING : Fld := ⟨0x4000F030, 20, 13, 0, .ro⟩
def allFields (_ : Nat) : List Fld := [ WINDOW] ++ [ OPEN] ++ [ COMMIT] ++ [ REFRESH] ++ [ GROUPS] ++ [ PENDING]
end BBX_STAT
namespace BBX_DROP
def RATE (n : Nat) : Fld := ⟨0x4000F040 + 4 * n, 31, 16, 0, .ro⟩
def FULL (n : Nat) : Fld := ⟨0x4000F040 + 4 * n, 15, 0, 0, .ro⟩
def allFields (n : Nat) : List Fld := [ RATE n] ++ [ FULL n]
end BBX_DROP
namespace BBX_CAP_STAT
def STATE (n : Nat) : Fld := ⟨0x4000F050 + 4 * n, 31, 30, 0, .ro⟩
def FIRST (n : Nat) : Fld := ⟨0x4000F050 + 4 * n, 29, 29, 0, .ro⟩
def TORN (n : Nat) : Fld := ⟨0x4000F050 + 4 * n, 28, 28, 0, .ro⟩
def HOLDUP (n : Nat) : Fld := ⟨0x4000F050 + 4 * n, 27, 27, 0, .ro⟩
def SUMMARY (n : Nat) : Fld := ⟨0x4000F050 + 4 * n, 26, 26, 0, .ro⟩
def SERIAL (n : Nat) : Fld := ⟨0x4000F050 + 4 * n, 15, 0, 0, .ro⟩
def allFields (n : Nat) : List Fld := [ STATE n] ++ [ FIRST n] ++ [ TORN n] ++ [ HOLDUP n] ++ [ SUMMARY n] ++ [ SERIAL n]
end BBX_CAP_STAT
namespace LCS_STATE
def STATE : Fld := ⟨0x40010000, 31, 28, 0, .ro⟩
def ROT_PROG (i : Nat) : Fld := ⟨0x40010000, 25 + i, 25 + i, 0, .ro⟩
def ROT_REVOKED (i : Nat) : Fld := ⟨0x40010000, 22 + i, 22 + i, 0, .ro⟩
def allFields (_ : Nat) : List Fld := [ STATE] ++ (List.range 3).map (ROT_PROG) ++ (List.range 3).map (ROT_REVOKED)
end LCS_STATE
namespace LCS_UID_LO
def UID : Fld := ⟨0x40010004, 31, 0, 0, .ro⟩
def allFields (_ : Nat) : List Fld := [ UID]
end LCS_UID_LO
namespace LCS_UID_HI
def UID : Fld := ⟨0x40010008, 31, 0, 0, .ro⟩
def allFields (_ : Nat) : List Fld := [ UID]
end LCS_UID_HI
namespace LCS_SVN
def COUNT : Fld := ⟨0x4001000C, 31, 25, 0, .ro⟩
def allFields (_ : Nat) : List Fld := [ COUNT]
end LCS_SVN
namespace LCS_IMG
def SEL : Fld := ⟨0x40010010, 31, 31, 0, .ro⟩
def OK_A : Fld := ⟨0x40010010, 30, 30, 0, .ro⟩
def OK_B : Fld := ⟨0x40010010, 29, 29, 0, .ro⟩
def WERR : Fld := ⟨0x40010010, 28, 28, 0, .w1c⟩
def allFields (_ : Nat) : List Fld := [ SEL] ++ [ OK_A] ++ [ OK_B] ++ [ WERR]
end LCS_IMG
namespace LCS_IMG_PTR
def PTR : Fld := ⟨0x40010014, 31, 0, 0, .rw⟩
def allFields (_ : Nat) : List Fld := [ PTR]
end LCS_IMG_PTR
namespace LCS_IMG_DATA
def DATA : Fld := ⟨0x40010018, 31, 0, 0, .wo⟩
def allFields (_ : Nat) : List Fld := [ DATA]
end LCS_IMG_DATA
namespace LCS_ROT_PROG
def SLOT : Fld := ⟨0x4001001C, 31, 30, 0, .wo⟩
def GO : Fld := ⟨0x4001001C, 29, 29, 0, .wo⟩
def allFields (_ : Nat) : List Fld := [ SLOT] ++ [ GO]
end LCS_ROT_PROG
namespace LCS_CERT_CTL
def SUBMIT : Fld := ⟨0x40010020, 31, 31, 0, .w1s⟩
def RESULT : Fld := ⟨0x40010020, 30, 28, 0, .ro⟩
def allFields (_ : Nat) : List Fld := [ SUBMIT] ++ [ RESULT]
end LCS_CERT_CTL
namespace LCS_KEY_CTL
def OP : Fld := ⟨0x40010024, 31, 30, 0, .wo⟩
def KEYID : Fld := ⟨0x40010024, 29, 28, 0, .wo⟩
def ERR : Fld := ⟨0x40010024, 27, 27, 0, .w1c⟩
def PROV (i : Nat) : Fld := ⟨0x40010024, 23 + i, 23 + i, 0, .ro⟩
def allFields (_ : Nat) : List Fld := [ OP] ++ [ KEYID] ++ [ ERR] ++ (List.range 4).map (PROV)
end LCS_KEY_CTL
namespace LCS_KEY_DATA
def WORD (n : Nat) : Fld := ⟨0x40010030 + 4 * n, 31, 0, 0, .wo⟩
def allFields (n : Nat) : List Fld := [ WORD n]
end LCS_KEY_DATA
namespace LCS_CERT
def WORD (n : Nat) : Fld := ⟨0x40010080 + 4 * n, 31, 0, 0, .rw⟩
def allFields (n : Nat) : List Fld := [ WORD n]
end LCS_CERT
namespace DBG_CHAL
def WORD (n : Nat) : Fld := ⟨0x40011010 + 4 * n, 31, 0, 0, .ro⟩
def allFields (n : Nat) : List Fld := [ WORD n]
end DBG_CHAL
namespace DBG_RESP
def WORD (n : Nat) : Fld := ⟨0x40011040 + 4 * n, 31, 0, 0, .wo⟩
def allFields (n : Nat) : List Fld := [ WORD n]
end DBG_RESP
namespace DBG_CTL
def REQ : Fld := ⟨0x40011000, 31, 31, 0, .w1s⟩
def SUBMIT : Fld := ⟨0x40011000, 30, 30, 0, .w1s⟩
def END : Fld := ⟨0x40011000, 29, 29, 0, .w1s⟩
def KEYIDX : Fld := ⟨0x40011000, 28, 27, 0, .rw⟩
def PERM : Fld := ⟨0x40011000, 26, 23, 0, .rw⟩
def allFields (_ : Nat) : List Fld := [ REQ] ++ [ SUBMIT] ++ [ END] ++ [ KEYIDX] ++ [ PERM]
end DBG_CTL
namespace DBG_STAT
def OPEN : Fld := ⟨0x40011004, 31, 31, 0, .ro⟩
def FAIL : Fld := ⟨0x40011004, 30, 30, 0, .w1c⟩
def GRANTED : Fld := ⟨0x40011004, 29, 26, 0, .ro⟩
def LEFT : Fld := ⟨0x40011004, 25, 15, 0, .ro⟩
def allFields (_ : Nat) : List Fld := [ OPEN] ++ [ FAIL] ++ [ GRANTED] ++ [ LEFT]
end DBG_STAT
namespace LCTL_ID
def PART : Fld := ⟨0x40000000, 31, 16, 150, .ro⟩
def STEP_L : Fld := ⟨0x40000000, 15, 12, 0, .ro⟩
def STEP_N : Fld := ⟨0x40000000, 11, 8, 0, .ro⟩
def LANE : Fld := ⟨0x40000000, 7, 6, 0, .ro⟩
def allFields (_ : Nat) : List Fld := [ PART] ++ [ STEP_L] ++ [ STEP_N] ++ [ LANE]
end LCTL_ID
namespace LCTL_STATUS
def STATE : Fld := ⟨0x40000004, 31, 28, 1, .ro⟩
def READY (i : Nat) : Fld := ⟨0x40000004, 24 + i, 24 + i, 0, .ro⟩
def DEVRDY : Fld := ⟨0x40000004, 23, 23, 0, .ro⟩
def DEV_MINIMAL : Fld := ⟨0x40000004, 22, 22, 0, .ro⟩
def LOCKED : Fld := ⟨0x40000004, 21, 21, 0, .ro⟩
def ROLE : Fld := ⟨0x40000004, 20, 19, 0, .ro⟩
def NO_COMP : Fld := ⟨0x40000004, 18, 18, 1, .ro⟩
def allFields (_ : Nat) : List Fld := [ STATE] ++ (List.range 4).map (READY) ++ [ DEVRDY] ++ [ DEV_MINIMAL] ++ [ LOCKED] ++ [ ROLE] ++ [ NO_COMP]
end LCTL_STATUS
namespace LCTL_SETUP
def LOCK : Fld := ⟨0x40000008, 31, 31, 0, .w1s⟩
def ROLE : Fld := ⟨0x40000008, 30, 29, 0, .rwl⟩
def allFields (_ : Nat) : List Fld := [ LOCK] ++ [ ROLE]
end LCTL_SETUP
namespace LCTL_START_CAUSE
def CAUSE : Fld := ⟨0x4000000C, 31, 24, 0, .ro⟩
def STATE : Fld := ⟨0x4000000C, 23, 20, 0, .ro⟩
def DETAIL : Fld := ⟨0x4000000C, 15, 0, 0, .ro⟩
def allFields (_ : Nat) : List Fld := [ CAUSE] ++ [ STATE] ++ [ DETAIL]
end LCTL_START_CAUSE
namespace LCTL_START_CNT
def COUNT : Fld := ⟨0x40000010, 31, 24, 0, .ro⟩
def CLEAN_S : Fld := ⟨0x40000010, 9, 0, 0, .ro⟩
def allFields (_ : Nat) : List Fld := [ COUNT] ++ [ CLEAN_S]
end LCTL_START_CNT
namespace LCTL_RESET_CAUSE
def CAUSE : Fld := ⟨0x40000014, 31, 28, 0, .ro⟩
def PURPOSE : Fld := ⟨0x40000014, 27, 26, 0, .ro⟩
def allFields (_ : Nat) : List Fld := [ CAUSE] ++ [ PURPOSE]
end LCTL_RESET_CAUSE
namespace LCTL_FWVER
def MAJOR : Fld := ⟨0x40000018, 31, 16, 0, .ro⟩
def BUILD : Fld := ⟨0x40000018, 15, 0, 0, .ro⟩
def allFields (_ : Nat) : List Fld := [ MAJOR] ++ [ BUILD]
end LCTL_FWVER
namespace EVT_STAT
def LAST_ID : Fld := ⟨0x40001000, 31, 24, 0, .ro⟩
def LAST_SEV : Fld := ⟨0x40001000, 23, 22, 0, .ro⟩
def COMP_GAP : Fld := ⟨0x40001000, 21, 21, 0, .ro⟩
def allFields (_ : Nat) : List Fld := [ LAST_ID] ++ [ LAST_SEV] ++ [ COMP_GAP]
end EVT_STAT
namespace EVT_CNT
def COUNT (n : Nat) : Fld := ⟨0x40001010 + 4 * n, 31, 0, 0, .ro⟩
def allFields (n : Nat) : List Fld := [ COUNT n]
end EVT_CNT
namespace EVT_LAST
def WORD (n : Nat) : Fld := ⟨0x40001020 + 4 * n, 31, 0, 0, .ro⟩
def allFields (n : Nat) : List Fld := [ WORD n]
end EVT_LAST
namespace EVT_SEEN
def SEEN (n : Nat) (i : Nat) : Fld := ⟨0x40001040 + 4 * n, i, i, 0, .w1c⟩
def allFields (n : Nat) : List Fld := (List.range 32).map (SEEN n)
end EVT_SEEN
namespace CMPS_ID
def PART : Fld := ⟨0x4800B000, 31, 16, 150, .ro⟩
def STEP_L : Fld := ⟨0x4800B000, 15, 12, 0, .ro⟩
def STEP_N : Fld := ⟨0x4800B000, 11, 8, 0, .ro⟩
def POSITION : Fld := ⟨0x4800B000, 7, 6, 0, .ro⟩
def allFields (_ : Nat) : List Fld := [ PART] ++ [ STEP_L] ++ [ STEP_N] ++ [ POSITION]
end CMPS_ID
namespace CMPS_SW
def POS : Fld := ⟨0x4800B004, 31, 30, 0, .ro⟩
def QUAR : Fld := ⟨0x4800B004, 29, 29, 0, .ro⟩
def HOLD : Fld := ⟨0x4800B004, 28, 28, 0, .ro⟩
def DRIVE_LOST : Fld := ⟨0x4800B004, 27, 27, 0, .ro⟩
def LANE : Fld := ⟨0x4800B004, 26, 25, 0, .ro⟩
def CHG_CNT : Fld := ⟨0x4800B004, 15, 0, 0, .ro⟩
def allFields (_ : Nat) : List Fld := [ POS] ++ [ QUAR] ++ [ HOLD] ++ [ DRIVE_LOST] ++ [ LANE] ++ [ CHG_CNT]
end CMPS_SW
namespace CMPS_PORT
def UP (n : Nat) : Fld := ⟨0x4800B010 + 4 * n, 31, 31, 0, .ro⟩
def LOOP_OK (n : Nat) : Fld := ⟨0x4800B010 + 4 * n, 30, 30, 0, .ro⟩
def ERR_CNT (n : Nat) : Fld := ⟨0x4800B010 + 4 * n, 15, 0, 0, .ro⟩
def allFields (n : Nat) : List Fld := [ UP n] ++ [ LOOP_OK n] ++ [ ERR_CNT n]
end CMPS_PORT
namespace CMPS_REL
def MISS_B1 : Fld := ⟨0x4800B018, 31, 30, 0, .ro⟩
def MISS_B2 : Fld := ⟨0x4800B018, 29, 28, 0, .ro⟩
def OFF_B1 : Fld := ⟨0x4800B018, 27, 27, 0, .ro⟩
def OFF_B2 : Fld := ⟨0x4800B018, 26, 26, 0, .ro⟩
def RELEASES : Fld := ⟨0x4800B018, 15, 0, 0, .ro⟩
def allFields (_ : Nat) : List Fld := [ MISS_B1] ++ [ MISS_B2] ++ [ OFF_B1] ++ [ OFF_B2] ++ [ RELEASES]
end CMPS_REL
namespace CMPS_EVQ
def HELD : Fld := ⟨0x4800B01C, 31, 27, 0, .ro⟩
def LOST : Fld := ⟨0x4800B01C, 15, 0, 0, .ro⟩
def allFields (_ : Nat) : List Fld := [ HELD] ++ [ LOST]
end CMPS_EVQ
namespace WIT_ID
def PART : Fld := ⟨0x4C000000, 31, 16, 150, .ro⟩
def STEP_L : Fld := ⟨0x4C000000, 15, 12, 0, .ro⟩
def STEP_N : Fld := ⟨0x4C000000, 11, 8, 0, .ro⟩
def allFields (_ : Nat) : List Fld := [ PART] ++ [ STEP_L] ++ [ STEP_N]
end WIT_ID
namespace WIT_STAT
def DL : Fld := ⟨0x4C000004, 31, 29, 4, .ro⟩
def MASTER : Fld := ⟨0x4C000004, 28, 27, 0, .ro⟩
def MASTER_VALID : Fld := ⟨0x4C000004, 26, 26, 0, .ro⟩
def FLT : Fld := ⟨0x4C000004, 25, 25, 0, .ro⟩
def DEVRDY : Fld := ⟨0x4C000004, 24, 24, 0, .ro⟩
def DEV_MINIMAL : Fld := ⟨0x4C000004, 23, 23, 0, .ro⟩
def RET_LOST : Fld := ⟨0x4C000004, 22, 22, 1, .ro⟩
def D_PWR : Fld := ⟨0x4C000004, 21, 21, 0, .ro⟩
def D_PURPOSE : Fld := ⟨0x4C000004, 20, 19, 0, .ro⟩
def LSTATE (i : Nat) : Fld := ⟨0x4C000004, 4 * i + 3, 4 * i, 0, .ro⟩
def allFields (_ : Nat) : List Fld := [ DL] ++ [ MASTER] ++ [ MASTER_VALID] ++ [ FLT] ++ [ DEVRDY] ++ [ DEV_MINIMAL] ++ [ RET_LOST] ++ [ D_PWR] ++ [ D_PURPOSE] ++ (List.range 4).map (LSTATE)
end WIT_STAT
namespace WIT_SW
def HOLD (i : Nat) : Fld := ⟨0x4C000008, 8 * i+4, 8 * i+4, 0, .ro⟩
def DRIVE_LOST (i : Nat) : Fld := ⟨0x4C000008, 8 * i+3, 8 * i+3, 0, .ro⟩
def QUAR (i : Nat) : Fld := ⟨0x4C000008, 8 * i+2, 8 * i+2, 0, .ro⟩
def POS (i : Nat) : Fld := ⟨0x4C000008, 8 * i+1, 8 * i, 0, .ro⟩
def allFields (_ : Nat) : List Fld := (List.range 3).map (HOLD) ++ (List.range 3).map (DRIVE_LOST) ++ (List.range 3).map (QUAR) ++ (List.range 3).map (POS)
end WIT_SW
namespace WIT_MASK
def HO_B2 : Fld := ⟨0x4C00000C, 7, 7, 0, .ro⟩
def MASK_B2 : Fld := ⟨0x4C00000C, 6, 4, 0, .ro⟩
def HO_B1 : Fld := ⟨0x4C00000C, 3, 3, 0, .ro⟩
def MASK_B1 : Fld := ⟨0x4C00000C, 2, 0, 0, .ro⟩
def allFields (_ : Nat) : List Fld := [ HO_B2] ++ [ MASK_B2] ++ [ HO_B1] ++ [ MASK_B1]
end WIT_MASK
namespace WIT_HB
def SEEN_Y (n : Nat) : Fld := ⟨0x4C000010 + 4 * n, 31, 31, 0, .ro⟩
def SEEN_C (n : Nat) : Fld := ⟨0x4C000010 + 4 * n, 30, 30, 0, .ro⟩
def STATE (n : Nat) : Fld := ⟨0x4C000010 + 4 * n, 27, 24, 0, .ro⟩
def MISS (n : Nat) : Fld := ⟨0x4C000010 + 4 * n, 15, 0, 0, .ro⟩
def allFields (n : Nat) : List Fld := [ SEEN_Y n] ++ [ SEEN_C n] ++ [ STATE n] ++ [ MISS n]
end WIT_HB
namespace WIT_VOTE
def ODD : Fld := ⟨0x4C000020, 31, 24, 0, .ro⟩
def NOMAJ : Fld := ⟨0x4C000020, 23, 16, 0, .ro⟩
def LAST_ODD : Fld := ⟨0x4C000020, 15, 14, 0, .ro⟩
def allFields (_ : Nat) : List Fld := [ ODD] ++ [ NOMAJ] ++ [ LAST_ODD]
end WIT_VOTE
namespace WIT_JSEQ
def JSEQ : Fld := ⟨0x4C000024, 31, 0, 0, .ro⟩
def allFields (_ : Nat) : List Fld := [ JSEQ]
end WIT_JSEQ
namespace WIT_RET_LO
def COUNT : Fld := ⟨0x4C000028, 31, 0, 0, .ro⟩
def allFields (_ : Nat) : List Fld := [ COUNT]
end WIT_RET_LO
namespace WIT_RET_HI
def COUNT : Fld := ⟨0x4C00002C, 31, 0, 0, .ro⟩
def allFields (_ : Nat) : List Fld := [ COUNT]
end WIT_RET_HI
namespace WIT_EPOCH
def EPOCH : Fld := ⟨0x4C000030, 31, 0, 0, .ro⟩
def allFields (_ : Nat) : List Fld := [ EPOCH]
end WIT_EPOCH
namespace WIT_VAULT
def IMG_OK : Fld := ⟨0x4C000038, 31, 31, 0, .ro⟩
def COPYING : Fld := ⟨0x4C000038, 30, 30, 0, .ro⟩
def CERT : Fld := ⟨0x4C000038, 29, 29, 0, .ro⟩
def CERT_TARGET : Fld := ⟨0x4C000038, 23, 16, 0, .ro⟩
def ERR_CNT : Fld := ⟨0x4C000038, 15, 0, 0, .ro⟩
def allFields (_ : Nat) : List Fld := [ IMG_OK] ++ [ COPYING] ++ [ CERT] ++ [ CERT_TARGET] ++ [ ERR_CNT]
end WIT_VAULT
namespace WIT_BIST
def GRANT : Fld := ⟨0x4C000040, 31, 30, 0, .ro⟩
def BUSY : Fld := ⟨0x4C000040, 29, 29, 0, .ro⟩
def PENDING (i : Nat) : Fld := ⟨0x4C000040, i, i, 0, .ro⟩
def allFields (_ : Nat) : List Fld := [ GRANT] ++ [ BUSY] ++ (List.range 4).map (PENDING)
end WIT_BIST
namespace WIT_WAKE
def SEEN : Fld := ⟨0x4C000044, 31, 31, 0, .ro⟩
def ADDR : Fld := ⟨0x4C000044, 26, 16, 0, .ro⟩
def CNT : Fld := ⟨0x4C000044, 15, 0, 0, .ro⟩
def allFields (_ : Nat) : List Fld := [ SEEN] ++ [ ADDR] ++ [ CNT]
end WIT_WAKE
namespace WIT_SUMM
def VALID (n : Nat) : Fld := ⟨0x4C000080 + 4 * n, 31, 31, 0, .ro⟩
def RELEASED (n : Nat) : Fld := ⟨0x4C000080 + 4 * n, 30, 30, 0, .ro⟩
def SERIAL (n : Nat) : Fld := ⟨0x4C000080 + 4 * n, 15, 0, 0, .ro⟩
def allFields (n : Nat) : List Fld := [ VALID n] ++ [ RELEASED n] ++ [ SERIAL n]
end WIT_SUMM

end Reg

/-- One register or register array: its first address, the distance between elements, how many there are, and the
fields of element `n`. -/
structure RegRow where
  base   : Nat
  stride : Nat
  count  : Nat
  flds   : Nat → List Fld

/-- Part 0 of the register table, by rising address. -/
def regTable0 : List RegRow := [
  ⟨0x40000000, 4, 1, Reg.LCTL_ID.allFields⟩,
  ⟨0x40000004, 4, 1, Reg.LCTL_STATUS.allFields⟩,
  ⟨0x40000008, 4, 1, Reg.LCTL_SETUP.allFields⟩,
  ⟨0x4000000C, 4, 1, Reg.LCTL_START_CAUSE.allFields⟩,
  ⟨0x40000010, 4, 1, Reg.LCTL_START_CNT.allFields⟩,
  ⟨0x40000014, 4, 1, Reg.LCTL_RESET_CAUSE.allFields⟩,
  ⟨0x40000018, 4, 1, Reg.LCTL_FWVER.allFields⟩,
  ⟨0x40001000, 4, 1, Reg.EVT_STAT.allFields⟩,
  ⟨0x40001010, 4, 4, Reg.EVT_CNT.allFields⟩,
  ⟨0x40001020, 4, 4, Reg.EVT_LAST.allFields⟩,
  ⟨0x40001040, 4, 4, Reg.EVT_SEEN.allFields⟩,
  ⟨0x40002100, 4, 16, Reg.CHE_TASK_CFG.allFields⟩,
  ⟨0x40002140, 4, 16, Reg.CHE_TASK_ENTRY.allFields⟩,
  ⟨0x40002180, 4, 16, Reg.CHE_TASK_BUDGET.allFields⟩,
  ⟨0x400021C0, 4, 16, Reg.CHE_TASK_STAT.allFields⟩,
  ⟨0x40002200, 8, 32, Reg.CHE_PART_BASE.allFields⟩,
  ⟨0x40002204, 8, 32, Reg.CHE_PART_ATTR.allFields⟩,
  ⟨0x40002300, 4, 1, Reg.CHE_SPEC_CFG.allFields⟩,
  ⟨0x40002304, 4, 1, Reg.CHE_SPEC_SNAP.allFields⟩,
  ⟨0x40002308, 4, 1, Reg.CHE_SPEC_STEP.allFields⟩,
  ⟨0x4000230C, 4, 1, Reg.CHE_SLACK_CFG.allFields⟩,
  ⟨0x40002310, 4, 1, Reg.CHE_SPEC_STAT.allFields⟩,
  ⟨0x40002320, 4, 7, Reg.CHE_SPEC_CNT.allFields⟩,
  ⟨0x40002380, 4, 16, Reg.CHE_SLACK_LAST.allFields⟩,
  ⟨0x400023C0, 4, 16, Reg.CHE_SLACK_MIN.allFields⟩,
  ⟨0x40002400, 4, 16, Reg.CHE_OVR_CNT.allFields⟩,
  ⟨0x40003000, 4, 1, Reg.CHX_CFG.allFields⟩,
  ⟨0x40003004, 4, 1, Reg.CHX_SLICE.allFields⟩,
  ⟨0x40003008, 4, 1, Reg.CHX_STAT.allFields⟩,
  ⟨0x4000300C, 4, 1, Reg.CHX_ROT.allFields⟩,
  ⟨0x40003010, 4, 1, Reg.CHX_TCNT.allFields⟩,
  ⟨0x40003014, 4, 1, Reg.CHX_RANGE_CNT.allFields⟩,
  ⟨0x40003018, 4, 1, Reg.CHX_LAST.allFields⟩,
  ⟨0x4000301C, 4, 1, Reg.CHX_LAST_PC.allFields⟩,
  ⟨0x40003020, 4, 3, Reg.CHX_SLICE_LOSS.allFields⟩,
  ⟨0x40004000, 4, 1, Reg.MEM_CFG.allFields⟩,
  ⟨0x40004004, 4, 1, Reg.MEM_STAT.allFields⟩,
  ⟨0x40004008, 4, 1, Reg.MEM_ECC_CNT.allFields⟩,
  ⟨0x4000400C, 4, 1, Reg.MEM_ECC_LAST.allFields⟩,
  ⟨0x40004010, 4, 1, Reg.MEM_SCRUB_CNT.allFields⟩]

/-- Part 1 of the register table, by rising address. -/
def regTable1 : List RegRow := [
  ⟨0x40004040, 4, 8, Reg.MEM_RXQ_BASE.allFields⟩,
  ⟨0x40004060, 4, 8, Reg.MEM_RXQ_LEN.allFields⟩,
  ⟨0x40004100, 4, 64, Reg.MEM_BANK_STAT.allFields⟩,
  ⟨0x40005000, 4, 1, Reg.ARB_CFG.allFields⟩,
  ⟨0x40005004, 4, 1, Reg.ARB_PRIO.allFields⟩,
  ⟨0x40005010, 4, 8, Reg.ARB_GRP_REQ.allFields⟩,
  ⟨0x40005030, 4, 1, Reg.ARB_LOCKERR.allFields⟩,
  ⟨0x40005040, 4, 10, Reg.ARB_GRANT.allFields⟩,
  ⟨0x40005080, 4, 10, Reg.ARB_WAIT.allFields⟩,
  ⟨0x400050C0, 4, 10, Reg.ARB_MAXWAIT.allFields⟩,
  ⟨0x40006000, 4, 1, Reg.RNG_CFG.allFields⟩,
  ⟨0x40006004, 4, 1, Reg.RNG_RCA_LO.allFields⟩,
  ⟨0x40006008, 4, 1, Reg.RNG_RCA_HI.allFields⟩,
  ⟨0x4000600C, 4, 1, Reg.RNG_SIZE.allFields⟩,
  ⟨0x40006010, 4, 1, Reg.RNG_APP_CFG.allFields⟩,
  ⟨0x40006040, 8, 8, Reg.RNG_BASE_LO.allFields⟩,
  ⟨0x40006044, 8, 8, Reg.RNG_BASE_HI.allFields⟩,
  ⟨0x40006100, 4, 1, Reg.RNG_STAT.allFields⟩,
  ⟨0x40006120, 4, 8, Reg.RNG_IDX.allFields⟩,
  ⟨0x40006140, 4, 4, Reg.RNG_CMDQn_STATE_REFUSED.allFields⟩,
  ⟨0x40006150, 4, 3, Reg.RNG_GAP.allFields⟩,
  ⟨0x40006160, 4, 4, Reg.RNG_LAST_SEQ.allFields⟩,
  ⟨0x40007000, 4, 1, Reg.RWP_CFG.allFields⟩,
  ⟨0x40007004, 4, 1, Reg.RWP_STAT.allFields⟩,
  ⟨0x40007008, 4, 1, Reg.RWP_CNT.allFields⟩,
  ⟨0x4000700C, 4, 1, Reg.RWP_RETRY.allFields⟩,
  ⟨0x40008000, 4, 1, Reg.JLF_CYCLE.allFields⟩,
  ⟨0x40008004, 4, 1, Reg.JLF_ET.allFields⟩,
  ⟨0x40008008, 4, 1, Reg.JLF_STAT.allFields⟩,
  ⟨0x40008010, 4, 1, Reg.JLF_START.allFields⟩,
  ⟨0x40008014, 4, 1, Reg.JLF_SCHED.allFields⟩,
  ⟨0x40008018, 4, 1, Reg.JLF_START_STAT.allFields⟩,
  ⟨0x40008020, 4, 1, Reg.JLF_MEMB_SEL.allFields⟩,
  ⟨0x40008024, 4, 1, Reg.JLF_MEMB.allFields⟩,
  ⟨0x40008028, 4, 1, Reg.JLF_CLAIM_CFG.allFields⟩,
  ⟨0x40008030, 4, 4, Reg.JLF_CLAIM_STAT.allFields⟩,
  ⟨0x40008040, 4, 1, Reg.JLF_NET.allFields⟩,
  ⟨0x40009000, 4, 1, Reg.JSY_CFG.allFields⟩,
  ⟨0x40009004, 4, 1, Reg.JSY_STAT.allFields⟩,
  ⟨0x40009008, 4, 1, Reg.JSY_RATE.allFields⟩]

/-- Part 2 of the register table, by rising address. -/
def regTable2 : List RegRow := [
  ⟨0x4000A000, 4, 1, Reg.XLK_STAT.allFields⟩,
  ⟨0x4000A010, 4, 4, Reg.XLK_MISS.allFields⟩,
  ⟨0x4000A020, 4, 1, Reg.XLK_ERR.allFields⟩,
  ⟨0x4000A024, 4, 1, Reg.XLK_WIRE.allFields⟩,
  ⟨0x4000B000, 4, 1, Reg.RDN_CFG.allFields⟩,
  ⟨0x4000B004, 4, 1, Reg.RDN_STAT.allFields⟩,
  ⟨0x4000B010, 4, 4, Reg.RDN_LOSS.allFields⟩,
  ⟨0x4000B020, 4, 1, Reg.RDN_VOTE.allFields⟩,
  ⟨0x4000B024, 4, 1, Reg.RDN_DIG_LO.allFields⟩,
  ⟨0x4000B028, 4, 1, Reg.RDN_DIG_HI.allFields⟩,
  ⟨0x4000B030, 4, 1, Reg.RDN_XFER.allFields⟩,
  ⟨0x4000B034, 4, 1, Reg.RDN_JSEQ.allFields⟩,
  ⟨0x4000B038, 4, 1, Reg.RDN_PROOF.allFields⟩,
  ⟨0x4000C000, 4, 1, Reg.PWR_CFG.allFields⟩,
  ⟨0x4000C004, 4, 1, Reg.PWR_WAKE_CFG.allFields⟩,
  ⟨0x4000C010, 4, 1, Reg.PWR_STATE.allFields⟩,
  ⟨0x4000C014, 4, 1, Reg.PWR_REFUSE_CNT.allFields⟩,
  ⟨0x4000C018, 4, 1, Reg.PWR_REFUSE_WHO.allFields⟩,
  ⟨0x4000C020, 4, 1, Reg.PWR_PAD_RELEASE.allFields⟩,
  ⟨0x4000C024, 4, 1, Reg.PWR_PAD_STAT.allFields⟩,
  ⟨0x4000C030, 4, 1, Reg.PWR_WAKE_STAT.allFields⟩,
  ⟨0x4000C034, 4, 1, Reg.PWR_WAKE_UNCERT.allFields⟩,
  ⟨0x4000C038, 4, 1, Reg.PWR_WAKE_STEP.allFields⟩,
  ⟨0x4000C040, 4, 1, Reg.PWR_EPOCH.allFields⟩,
  ⟨0x4000D000, 4, 1, Reg.BST_CFG.allFields⟩,
  ⟨0x4000D004, 4, 1, Reg.BST_STAT.allFields⟩,
  ⟨0x4000D008, 4, 1, Reg.BST_MEM_LAST.allFields⟩,
  ⟨0x4000D00C, 4, 1, Reg.BST_DIS_LO.allFields⟩,
  ⟨0x4000D010, 4, 1, Reg.BST_DIS_HI.allFields⟩,
  ⟨0x4000D014, 4, 1, Reg.BST_TIME.allFields⟩,
  ⟨0x4000E000, 4, 1, Reg.WEAR_LIFE.allFields⟩,
  ⟨0x4000E010, 4, 3, Reg.WEAR_SLICE.allFields⟩,
  ⟨0x4000E020, 4, 1, Reg.WEAR_MRAM.allFields⟩,
  ⟨0x4000F000, 4, 1, Reg.BBX_CFG.allFields⟩,
  ⟨0x4000F010, 4, 4, Reg.BBX_RATE.allFields⟩,
  ⟨0x4000F020, 4, 1, Reg.BBX_FAB.allFields⟩,
  ⟨0x4000F030, 4, 1, Reg.BBX_STAT.allFields⟩,
  ⟨0x4000F040, 4, 4, Reg.BBX_DROP.allFields⟩,
  ⟨0x4000F050, 4, 4, Reg.BBX_CAP_STAT.allFields⟩,
  ⟨0x40010000, 4, 1, Reg.LCS_STATE.allFields⟩]

/-- Part 3 of the register table, by rising address. -/
def regTable3 : List RegRow := [
  ⟨0x40010004, 4, 1, Reg.LCS_UID_LO.allFields⟩,
  ⟨0x40010008, 4, 1, Reg.LCS_UID_HI.allFields⟩,
  ⟨0x4001000C, 4, 1, Reg.LCS_SVN.allFields⟩,
  ⟨0x40010010, 4, 1, Reg.LCS_IMG.allFields⟩,
  ⟨0x40010014, 4, 1, Reg.LCS_IMG_PTR.allFields⟩,
  ⟨0x40010018, 4, 1, Reg.LCS_IMG_DATA.allFields⟩,
  ⟨0x4001001C, 4, 1, Reg.LCS_ROT_PROG.allFields⟩,
  ⟨0x40010020, 4, 1, Reg.LCS_CERT_CTL.allFields⟩,
  ⟨0x40010024, 4, 1, Reg.LCS_KEY_CTL.allFields⟩,
  ⟨0x40010030, 4, 4, Reg.LCS_KEY_DATA.allFields⟩,
  ⟨0x40010080, 4, 32, Reg.LCS_CERT.allFields⟩,
  ⟨0x40011000, 4, 1, Reg.DBG_CTL.allFields⟩,
  ⟨0x40011004, 4, 1, Reg.DBG_STAT.allFields⟩,
  ⟨0x40011010, 4, 4, Reg.DBG_CHAL.allFields⟩,
  ⟨0x40011040, 4, 16, Reg.DBG_RESP.allFields⟩,
  ⟨0x48000000, 4, 2, Reg.CTB_ACT.allFields⟩,
  ⟨0x48000008, 4, 1, Reg.CTB_STAT.allFields⟩,
  ⟨0x48000010, 4, 1, Reg.CTB_TIME_LO.allFields⟩,
  ⟨0x48000014, 4, 1, Reg.CTB_TIME_HI.allFields⟩,
  ⟨0x48001000, 4, 2, Reg.PWM_CFG.allFields⟩,
  ⟨0x48001008, 4, 2, Reg.PWM_DT.allFields⟩,
  ⟨0x48001010, 4, 2, Reg.PWM_LIMIT.allFields⟩,
  ⟨0x48001018, 4, 2, Reg.PWM_STAT.allFields⟩,
  ⟨0x48001020, 4, 1, Reg.PWM_SHARE.allFields⟩,
  ⟨0x48002000, 4, 2, Reg.GDV_CFG.allFields⟩,
  ⟨0x48002008, 4, 2, Reg.GDV_STAT.allFields⟩,
  ⟨0x48002010, 4, 2, Reg.GDV_SEG.allFields⟩,
  ⟨0x48003000, 4, 1, Reg.MFE_CFG.allFields⟩,
  ⟨0x48003004, 4, 1, Reg.MFE_VCFG.allFields⟩,
  ⟨0x48003008, 4, 1, Reg.MFE_STAT.allFields⟩,
  ⟨0x4800300C, 4, 1, Reg.MFE_SPARE.allFields⟩,
  ⟨0x48003010, 4, 1, Reg.MFE_TEMP.allFields⟩,
  ⟨0x48004000, 4, 2, Reg.POS_CFG.allFields⟩,
  ⟨0x48004008, 4, 2, Reg.POS_IDX_CFG.allFields⟩,
  ⟨0x48004010, 4, 2, Reg.POS_IDX_REF.allFields⟩,
  ⟨0x48004018, 4, 2, Reg.POS_SPD_CFG.allFields⟩,
  ⟨0x48004020, 4, 2, Reg.POS_ABS_CFG.allFields⟩,
  ⟨0x48004028, 4, 1, Reg.POS_ABZ_CFG.allFields⟩,
  ⟨0x4800402C, 4, 1, Reg.POS_PRB_CFG.allFields⟩,
  ⟨0x48004030, 4, 2, Reg.POS_STAT.allFields⟩]

/-- Part 4 of the register table, by rising address. -/
def regTable4 : List RegRow := [
  ⟨0x48004038, 4, 2, Reg.POS_IDX_STAT.allFields⟩,
  ⟨0x48004040, 4, 3, Reg.POS_TRK_STAT.allFields⟩,
  ⟨0x4800404C, 4, 1, Reg.POS_SPARE.allFields⟩,
  ⟨0x48005000, 4, 4, Reg.SNT_CFG.allFields⟩,
  ⟨0x48005010, 4, 1, Reg.SNT_STAT.allFields⟩,
  ⟨0x48006000, 4, 8, Reg.SIO_IN_CFG.allFields⟩,
  ⟨0x48006020, 4, 1, Reg.SIO_STAT.allFields⟩,
  ⟨0x48006024, 4, 1, Reg.SIO_RAW.allFields⟩,
  ⟨0x48006028, 4, 1, Reg.SIO_DISC_CNT.allFields⟩,
  ⟨0x48007000, 4, 2, Reg.SBC_CFG.allFields⟩,
  ⟨0x48007008, 4, 1, Reg.SBC_TEST_CFG.allFields⟩,
  ⟨0x48007010, 4, 2, Reg.SBC_STAT.allFields⟩,
  ⟨0x48008000, 4, 2, Reg.PHY_CFG.allFields⟩,
  ⟨0x48008008, 4, 2, Reg.PHY_STAT.allFields⟩,
  ⟨0x48009000, 4, 1, Reg.JMC_CFG.allFields⟩,
  ⟨0x48009004, 4, 1, Reg.JMC_ADDR.allFields⟩,
  ⟨0x48009008, 4, 1, Reg.JMC_WV_SEL.allFields⟩,
  ⟨0x4800900C, 4, 1, Reg.JMC_WINVIOL.allFields⟩,
  ⟨0x48009010, 4, 2, Reg.JMC_CNT.allFields⟩,
  ⟨0x48009018, 4, 1, Reg.JMC_GUARD.allFields⟩,
  ⟨0x48009020, 4, 1, Reg.JMC_TBL_IDX.allFields⟩,
  ⟨0x48009024, 4, 1, Reg.JMC_TBL_LO.allFields⟩,
  ⟨0x48009028, 4, 1, Reg.JMC_TBL_HI.allFields⟩,
  ⟨0x48009030, 4, 1, Reg.JMC_AUTH.allFields⟩,
  ⟨0x48009034, 4, 2, Reg.JMC_AUTH_CNT.allFields⟩,
  ⟨0x4800A000, 4, 16, Reg.FQ_CFG.allFields⟩,
  ⟨0x4800A040, 4, 1, Reg.FQ_CTL.allFields⟩,
  ⟨0x4800A080, 4, 16, Reg.FQ_STAT.allFields⟩,
  ⟨0x4800A0C0, 4, 16, Reg.FQ_GAPCNT.allFields⟩,
  ⟨0x4800B000, 4, 1, Reg.CMPS_ID.allFields⟩,
  ⟨0x4800B004, 4, 1, Reg.CMPS_SW.allFields⟩,
  ⟨0x4800B010, 4, 2, Reg.CMPS_PORT.allFields⟩,
  ⟨0x4800B018, 4, 1, Reg.CMPS_REL.allFields⟩,
  ⟨0x4800B01C, 4, 1, Reg.CMPS_EVQ.allFields⟩,
  ⟨0x4C000000, 4, 1, Reg.WIT_ID.allFields⟩,
  ⟨0x4C000004, 4, 1, Reg.WIT_STAT.allFields⟩,
  ⟨0x4C000008, 4, 1, Reg.WIT_SW.allFields⟩,
  ⟨0x4C00000C, 4, 1, Reg.WIT_MASK.allFields⟩,
  ⟨0x4C000010, 4, 4, Reg.WIT_HB.allFields⟩,
  ⟨0x4C000020, 4, 1, Reg.WIT_VOTE.allFields⟩]

/-- Part 5 of the register table, by rising address. -/
def regTable5 : List RegRow := [
  ⟨0x4C000024, 4, 1, Reg.WIT_JSEQ.allFields⟩,
  ⟨0x4C000028, 4, 1, Reg.WIT_RET_LO.allFields⟩,
  ⟨0x4C00002C, 4, 1, Reg.WIT_RET_HI.allFields⟩,
  ⟨0x4C000030, 4, 1, Reg.WIT_EPOCH.allFields⟩,
  ⟨0x4C000038, 4, 1, Reg.WIT_VAULT.allFields⟩,
  ⟨0x4C000040, 4, 1, Reg.WIT_BIST.allFields⟩,
  ⟨0x4C000044, 4, 1, Reg.WIT_WAKE.allFields⟩,
  ⟨0x4C000080, 4, 16, Reg.WIT_SUMM.allFields⟩]

/-- Every register of the lane, companion and witness ranges. -/
def regTable : List RegRow := regTable0 ++ regTable1 ++ regTable2 ++ regTable3 ++ regTable4 ++ regTable5

/-- Whether address `a` is a register of row `r`. -/
def RegRow.covers (r : RegRow) (a : Nat) : Bool :=
  r.base ≤ a && (a - r.base) % r.stride == 0 && (a - r.base) / r.stride < r.count

/-- The row that holds address `a`; `none` where the offset holds no register (R27). -/
def regRowAt (a : Nat) : Option RegRow := regTable.find? (·.covers a)

/-- The fields of the register at address `a`; empty where there is none. -/
def fieldsAt (a : Nat) : List Fld :=
  match regRowAt a with
  | none => []
  | some r => r.flds ((a - r.base) / r.stride)

end Sys2Proof.Machine
end

