-- ==== Sys2Proof/Machine/Sparse.lean ====
section
/-!
DEFINITION. Sparse maps as plain data: a list of key and value pairs in rising key order that never lists a key whose
value is the default. Chord SRAM, register fields, register files and every other keyed store of the model use them.
-/
namespace Sys2Proof.Machine

/-- A sparse map from `Nat` keys to values of `V`. -/
abbrev Sp (V : Type) := List (Nat × V)

/-- The value listed for key `k`, if any. -/
def Sparse.look {V : Type} : Sp V → Nat → Option V
  | [], _ => none
  | (a, v) :: t, k => if a = k then some v else Sparse.look t k

/-- The map without key `k`. -/
def Sparse.del {V : Type} : Sp V → Nat → Sp V
  | [], _ => []
  | (a, v) :: t, k => if a = k then Sparse.del t k else (a, v) :: Sparse.del t k

/-- The map with a pair put before the first larger key. -/
def Sparse.ins {V : Type} : Sp V → Nat → V → Sp V
  | [], k, v => [(k, v)]
  | (a, w) :: t, k, v => if k < a then (k, v) :: (a, w) :: t else (a, w) :: Sparse.ins t k v

/-- The value at key `k`, where an unlisted key reads `d`. -/
def Sparse.get {V : Type} (d : V) (m : Sp V) (k : Nat) : V := (Sparse.look m k).getD d

/-- The map with key `k` holding `v`; a key that holds the default is not listed. -/
def Sparse.set {V : Type} [DecidableEq V] (d : V) (m : Sp V) (k : Nat) (v : V) : Sp V :=
  if v = d then Sparse.del m k else Sparse.ins (Sparse.del m k) k v

/-- The map with key `k` listed as `v`, whatever `v` is (for maps without a default). -/
def Sparse.put {V : Type} (m : Sp V) (k : Nat) (v : V) : Sp V := Sparse.ins (Sparse.del m k) k v

/-- The canonical form: keys strictly rising, and no entry equal to the default. -/
def Sparse.wf {V : Type} [DecidableEq V] (d : V) : Sp V → Bool
  | [] => true
  | [(_, v)] => decide (v ≠ d)
  | (a, v) :: (b, w) :: t => decide (v ≠ d) && decide (a < b) && Sparse.wf d ((b, w) :: t)

/-- The values of the register fields that differ from their reset values, by field key. -/
abbrev RegMap := Sp Nat

/-- The key of a field: its register's address and its lowest bit. -/
def Fld.key (f : Fld) : Nat := f.addr * 32 + f.lo

/-- The largest value a field holds. -/
def Fld.max (f : Fld) : Nat := 2 ^ (f.hi + 1 - f.lo) - 1

/-- The value of field `f`. -/
def RegMap.get (m : RegMap) (f : Fld) : Nat := Sparse.get f.reset m f.key

/-- The map with field `f` holding `v`, cut to the field's width. -/
def RegMap.set (m : RegMap) (f : Fld) (v : Nat) : RegMap :=
  Sparse.set f.reset m f.key (v % 2 ^ (f.hi + 1 - f.lo))

/-- The map with field `f` counted up by `n`, saturating. -/
def RegMap.addSat (m : RegMap) (f : Fld) (n : Nat) : RegMap :=
  RegMap.set m f (min (RegMap.get m f + n) f.max)

/-- The 32-bit word a read of the register at address `a` returns: its fields, with WO and reserved fields 0 (R8). -/
def RegMap.word (m : RegMap) (a : Nat) : Nat :=
  (fieldsAt a).foldl (fun w f => if f.acc = .wo then w else w + RegMap.get m f * 2 ^ f.lo) 0

/-- The part of word `w` that falls in field `f`. -/
def Fld.of (f : Fld) (w : Nat) : Nat := w / 2 ^ f.lo % 2 ^ (f.hi + 1 - f.lo)

end Sys2Proof.Machine
end

