-- ==== Sys2Proof/Machine/State.lean ====
section
/-!
DEFINITION. The state of the TH96 as plain data: Chord SRAM of the four lanes, the four lane dies, the three companions,
the witness, and the queue of waiting commands. Each field names the rule of spec/ that gives it. Registers are held
field by field in a register map (Regs.lean); what is not a register field stands in a field of its own.
-/
namespace Sys2Proof.Machine

/-- Why a command ends in a fault. No command of this model does: every row of the table has an effect on every state,
so no definition raises one. Safe: a fault stops the run. -/
inductive Fault where
  /-- Raised by nothing; kept so that the type is not empty. Safe. -/
  | halted
deriving DecidableEq, Repr

/-- Why a command is refused. -/
inductive Refusal where
  /-- Raised by an arm of `exec` whose command has no meaning yet. Safe: the run stops. -/
  | notModelled (mnemonic : String)
deriving DecidableEq, Repr

/-! ### Chord SRAM (R330 to R337) -/

/-- What a read has found wrong with a stored word, and what stays wrong with it until it is written afresh. -/
inductive WordCond where
  /-- One bit in error; a correcting write-back is due (R335). -/
  | corr (bit : Nat)
  /-- Decodes UNCORRECTABLE (R332). -/
  | uncorr
  /-- Decodes ADDRESS (R332). -/
  | addr
  /-- Holds the poison code (R337). -/
  | poison
deriving DecidableEq, Repr

/-- The Chord SRAM of one lane: its bytes, and the condition of the words that do not decode clean, by word index. -/
structure LaneMem where
  cells : List Host.Cell := []
  cond  : Sp WordCond := []
deriving DecidableEq, Repr

/-- The Chord SRAM of the four lanes. -/
structure Mems where
  a : LaneMem := {}
  b : LaneMem := {}
  c : LaneMem := {}
  d : LaneMem := {}
deriving DecidableEq, Repr

/-! ### Events and the recorder (R403 to R412, R443) -/

/-- An event record (R443). -/
structure Evt where
  time   : Nat
  id     : Nat
  lane   : Nat
  sev    : Nat
  approx : Bool
  epoch  : Nat
  data   : Nat
deriving DecidableEq, Repr

/-- Items a lane holds for one of its event or log rings (R328): oldest first, and the loss not yet reported. -/
structure RingHold where
  evts     : List Evt := []
  recs     : List JRec := []
  gapCause : Nat := 0
  gapCnt   : Nat := 0
  dseq     : Nat := 0
deriving DecidableEq, Repr

/-- A capsule (R406): header fields, and the parts taken at the freeze. -/
structure Capsule where
  /-- 0 EMPTY, 1 COMMITTED, 2 UNUSABLE. -/
  state      : Nat := 0
  frozen     : Bool := false
  bodyDone   : Bool := false
  first      : Bool := false
  sent       : Bool := false
  holdup     : Bool := false
  postClosed : Bool := false
  refreshed  : Bool := false
  torn       : Bool := false
  dl         : Nat := 0
  trigger    : Option Evt := none
  serial     : Nat := 0
  safetyCnt  : Nat := 0
  postLost   : Nat := 0
  writeHours : Nat := 0
  writeEpoch : Nat := 0
  lstate     : Nat := 0
  image      : Nat := 0
  regs       : RegMap := []
  compRegs   : RegMap := []
  hist       : List Evt := []
  inputs     : List (List Byte) := []
  hbs        : List Heartbeat := []
  beacons    : List Beacon := []
  journal    : List JRec := []
  post       : List Evt := []
deriving DecidableEq, Repr

/-- The incident recorder of one lane. -/
structure Recorder where
  /-- History ring of 1,024 records, newest first (R404). -/
  hist    : List Evt := []
  /-- Open coalescing groups: opener and count (R403). -/
  groups  : List (Evt × Nat) := []
  /-- Tokens taken from the bucket of each severity (R404); a full bucket has none taken. -/
  used    : Sp Nat := []
  evtq    : RingHold := {}
  logq    : RingHold := {}
  trcq    : RingHold := {}
  /-- Records of the journal page being filled, newest first, and the time of the first (R408). -/
  page    : List Evt := []
  pageT   : Nat := 0
  /-- Journal pages written, by page number, the service clock and epoch at the write, and the next page to write (R408,
  R413). -/
  pages   : Sp (List Evt) := []
  pageAge : Sp (Nat × Nat) := []
  nextPg  : Nat := 0
  /-- Journal records refused since the last marker, by severity (R404). -/
  jrnGap  : Sp Nat := []
  /-- Fabric pending records, oldest first, and losses not yet marked, by severity: refused and full (R404, R405). -/
  fab     : List Evt := []
  fabRate : Sp Nat := []
  fabFull : Sp Nat := []
  /-- Diagnostic records placed in the TX slots of the cycle (R405), oldest first. -/
  fabSent : List Evt := []
  /-- The cycle after the one whose places were allocated last (R405). -/
  fabAt   : Nat := 0
  /-- Capsules 1 to 4 (R406). -/
  caps    : Sp Capsule := []
  /-- Capsule of the open post-trigger window and the instant it ends (R407). -/
  win     : Option (Nat × Nat) := none
  serial  : Nat := 0
  /-- The latest 32 INPUT copies, newest first (R406). -/
  inputs  : List (List Byte) := []
  /-- Lane time of the latest token refill (R404), and the reference time of the latest freeze (R407). -/
  refill  : Nat := 0
  frozeAt : Nat := 0
deriving DecidableEq, Repr

/-! ### The Chord engine (R37 to R125) -/

/-- A physical register (R107): 72 bits of value, the 4-bit representation tag, and the parity bit over both. -/
structure PReg where
  val : BitVec 72 := 0
  tag : BitVec 4 := 0
  par : Bool := false
deriving DecidableEq, Repr

/-- One register context: the physical register file by index 0 to 127, the predicate file by index 0 to 15, and the program
counter (R37, R38, R107). An unlisted register holds what an entry gives it, the value 0 in either copy. In split mode
half-engine 1 has gN at index 127 − N (`mirror`, R124). -/
structure Ctx where
  file   : Sp PReg := []
  pfile  : Sp Bool := []
  pc     : BitVec 22 := 0
  mirror : Bool := false
deriving DecidableEq, Repr

/-- The six sticky flags of a task (R47, R49). -/
structure Flags where
  sat : Bool := false
  nv  : Bool := false
  dz  : Bool := false
  of  : Bool := false
  uf  : Bool := false
  nx  : Bool := false
deriving DecidableEq, Repr

/-- An activation of a task: waiting, running or pre-empted (R71, R72). -/
structure Run where
  task  : Nat
  /-- Activation instant t_A in ticks of the companion (R82). -/
  tA    : Nat
  /-- Activation index (R485). -/
  idx   : Nat
  /-- Rotation index in use (R109). -/
  rot   : Nat := 0
  /-- SAMPLE_TIME of its sample block (R68). -/
  key   : Nat := 0
  /-- The setpoint in force at t_A (R68, R102), and whether its sample block is still on its way (R23, R75). -/
  sp    : Dword := 0
  waits : Bool := false
  /-- Registers of a pre-empted activation; none while it has not started or is running. -/
  saved : Option Ctx := none
deriving DecidableEq, Repr

/-- One instruction stream of the engine: the whole engine in checked mode, one half-engine in split mode (R124). -/
structure Half where
  ctx   : Ctx := {}
  run   : Option Run := none
  ready : List Run := []
  /-- Bank groups held by a locked sequence, and its loads and stores so far (R59). -/
  locks : List Nat := []
  /-- Lane time at which each of them was granted (R348). -/
  lockAt : Sp Nat := []
  beats : Nat := 0
  /-- Groups whose held grant the arbiter ended: the next access there ends with LOCK_ORDER (R348). -/
  ended : List Nat := []
deriving DecidableEq, Repr

/-- A store-buffer entry of a candidate run: word index, data and byte mask (R93). -/
structure SbEnt where
  word : Nat
  data : BitVec 64
  mask : BitVec 8
deriving DecidableEq, Repr

/-- A candidate bank (R93): the value it runs, its registers, flags and store buffer. -/
structure Bank where
  value   : Dword := 0
  empty   : Bool := true
  started : Bool := false
  sealed  : Bool := false
  staged  : Bool := false
  rot     : Nat := 0
  ctx     : Ctx := {}
  flags   : Flags := {}
  sbuf    : List SbEnt := []
deriving DecidableEq, Repr

/-- An entry of the sliding windows of R121: its time and its location, if it has one. -/
structure CmpRec where
  time : Nat
  loc  : Option Nat
deriving DecidableEq, Repr

/-- An output block (R69). -/
structure OutBlock where
  dutyU  : Nat := 0
  dutyV  : Nat := 0
  dutyW  : Nat := 0
  enable : Bool := false
  iLimit : Nat := 0
  sbcReq : Nat := 0
  fabOut : List Byte := []
deriving DecidableEq, Repr

/-- A sealed output block on its way to the companion (R61, R69): bridge, instant of the seal, end of its control
period's reload, and the block. -/
structure Release where
  bridge : Nat
  task   : Nat
  tA     : Nat
  tSeal  : Nat
  key    : Nat
  out    : OutBlock
deriving DecidableEq, Repr

/-- The Chord engine of one lane. -/
structure Engine where
  h0      : Half := {}
  h1      : Half := {}
  banks   : Sp Bank := []
  /-- A speculation window is open (R89). -/
  winOpen : Bool := false
  /-- Staging deadline of the open window, in T_corr ticks (R89). -/
  deadline : Nat := 0
  /-- The picked candidate, until its echo starts or the setpoint slot ends (R104). -/
  picked  : Option Nat := none
  /-- The two latest exact commanded setpoints (R90). -/
  s1      : Option Dword := none
  s2      : Option Dword := none
  /-- The setpoint in force and the exact value that follows a picked one (R102). -/
  spForce : Dword := 0
  spNext  : Option Dword := none
  /-- Tasks that have had their activation with the picked value (R102). -/
  spSeen  : Sp Bool := []
  /-- Smallest slack and activations since the latest depth evaluation, and whether every window staged all (R97). -/
  wSlack  : Option Nat := none
  wCount  : Nat := 0
  wStaged : Bool := true
  /-- Depth in force in the window that is open (R91, R98). -/
  depth   : Nat := 0
  /-- Sliding windows of compare events, newest first (R121). -/
  cmps    : List CmpRec := []
  /-- Activations since the latest periodic injection, and the next bit (R123). -/
  injCnt  : Nat := 0
  injNext : Nat := 0
  /-- Sealed output blocks not yet held by the companion. -/
  outbox  : List Release := []
  /-- Tasks that have been activated since READY; lane D loads its copies at the first activation (R291). -/
  begun   : Sp Bool := []
deriving DecidableEq, Repr

/-! ### Companion dies (R13 to R17, R126 to R210) -/

/-- The positions of a handover switch (R13). There is no fourth position. -/
inductive SwPos where
  | primary | spare | opened
deriving DecidableEq, Repr

/-- What the companion latches at a PWM centre for one bridge and the lane port delivers (R23, R68, R145, R159, R193,
R201). -/
structure Samples where
  tC       : Nat := 0
  iU       : Int := 0
  iV       : Int := 0
  iW       : Int := 0
  iStat    : Nat := 0
  vBr      : Nat := 0
  vU       : Nat := 0
  vV       : Nat := 0
  vW       : Nat := 0
  pos      : Nat := 0
  posQual  : Nat := 0
  spdQual  : Nat := 0
  spd      : Int := 0
  gain     : Nat := 0
  mask     : Nat := 0
  boost    : Nat := 0
  iCap     : Nat := 0
  boostLeft : Nat := 0
  drvStat  : Nat := 0
  brs0     : Int := 0
  brs1     : Int := 0
  aux      : List Nat := []
  tCmp     : Int := 0
  measStat : Nat := 0
  sent     : List Nat := []
  esm      : List Nat := []
  angle    : Nat := 0
  posDt    : Int := 0
  absAngle : Nat := 0
  absStat  : Nat := 0
  idxDev   : Int := 0
  spdWin   : Nat := 0
  prbTime  : List Nat := []
  prbPos   : List Nat := []
  prbStat  : List Nat := []
  sio      : List Nat := []
  sbcStat  : List Nat := []
  sioTime  : Nat := 0
deriving DecidableEq, Repr

/-- A winding mask of one motor set as it reaches a companion (R144): arrival, driven windings, handover bit, and whether
a lane wrote it. -/
structure MaskMsg where
  at_  : Nat
  mask : Nat
  ho   : Bool
  src  : Nat
deriving DecidableEq, Repr

/-- A spare that isolates the channel behind a failing sum check (R164): the spare, the phase it shadows, and the centres
compared and found different at that phase. -/
structure Isolation where
  spare : Nat
  phase : Nat := 0
  seen  : Nat := 0
  diffs : Nat := 0
deriving DecidableEq, Repr

/-- One bridge of a companion: PWM unit, gate drivers, release check and boost account (R126 to R150). -/
structure Bridge where
  /-- The output block held since its release, whether it awaits a reload, and the reload it was meant for (R87). -/
  held     : OutBlock := {}
  fresh    : Bool := false
  heldAt   : Nat := 0
  meantFor : Nat := 0
  /-- The block in force since the latest reload (R134), and the T_corr of that reload point. -/
  live     : OutBlock := {}
  reloadAt : Nat := 0
  /-- The high interval of each phase in force, in steps of 312.5 ps before and after the peak (R131 to R134), and that of the
  period before. -/
  phases   : List (Nat × Nat) := []
  prevPhases : List (Nat × Nat) := []
  /-- T_corr, in steps of 312.5 ps, at which the bridge last began to drive its gates (R132, R136). -/
  onFrom   : Nat := 0
  /-- The current limit was reached in the running period and in the previous one (R139, R145). -/
  limNow   : Bool := false
  limPrev  : Bool := false
  /-- Gates off until the next reload by the current limit (R139). -/
  cut      : Bool := false
  /-- Gates off after a fault or supply condition until a reload that follows a release with ENABLE = 1 (R136). -/
  waitRel  : Bool := false
  /-- A release with ENABLE = 1 has arrived since the condition ended. -/
  relSeen  : Bool := false
  /-- T_corr of the latched faults of the latest second, and the instants at which DESAT and HWOC were last set (R137). -/
  faults   : List Nat := []
  setDesat : Nat := 0
  setHwoc  : Nat := 0
  /-- Boost account in 1 ms units taken from full, in ticks (R141). -/
  acctUsed : Nat := 0
  /-- Largest phase-current magnitude of the running period (R141). -/
  peakI    : Nat := 0
  iCap     : Nat := 0
  /-- The winding is joining under R149. -/
  joining  : Bool := false
  /-- The release that ends joining has reached the witness, and when (R149). -/
  joinRel  : Option Nat := none
  /-- Instant of the latest centre and the samples latched there. -/
  lastC    : Nat := 0
  samples  : Samples := {}
  /-- The masks that arrived for this bridge, newest first (R144). -/
  masks    : List MaskMsg := []
  /-- The latest activation of the control task has released, or is already counted as missing (R17). -/
  released : Bool := true
  /-- The activation of the latest centre has fired (R23, R71). -/
  actDone  : Bool := true
  /-- The next centre is the t_C0 of this bridge in a handover: lane D's samples come one period later (R149). -/
  skipC    : Bool := false
  /-- All six gates off without a break since this instant (R162). -/
  gatesOffAt : Option Nat := some 0
  /-- Reference time at which PWM and measurement last restarted (R361). -/
  restartAt : Nat := 0
  /-- Centres in a row at which the sum check failed, and the isolation that runs (R164). -/
  sumRun   : Nat := 0
  iso      : Option Isolation := none
deriving DecidableEq, Repr

/-- A modulator of the measurement front end (R161 to R165): its offset in 1/16 unit, its gain error in 1/10,000, whether
it still settles, and the instant from which a whole window counts. -/
structure ModState where
  offset   : Int := 0
  gain     : Int := 0
  settling : Bool := false
  since    : Nat := 0
deriving DecidableEq, Repr

/-- A SENT receiver (R167 to R169). -/
structure SentCh where
  data    : Nat := 0
  status  : Nat := 0
  /-- The instant of the latest accepted message. -/
  lastAt  : Nat := 0
  lastCal : Nat := 0
  rejects : List Nat := []
  /-- Status-nibble bits 3 and 2 of the messages of the running serial message, newest first. -/
  serial  : List Nat := []
  esm     : Nat := 0
deriving DecidableEq, Repr

/-- A sin/cos track (R174 to R178): the latest angle within the line, run lengths of the checks and the estimates. -/
structure Track where
  started  : Bool := false
  angle    : Nat := 0
  /-- The latest angle that converter pair S read at this pair, if it has read one since it was connected; a reading of S in the
  running check outside 0.3 to 1.5 Vpp or with a jump; and samples in a row at which the shadow differed (R178). -/
  sAngle   : Option Nat := none
  sBad     : Bool := false
  devRun   : Nat := 0
  warnRun  : Nat := 0
  okRun    : Nat := 0
  badRun   : Nat := 0
  jump     : Bool := false
  /-- Samples left of a running track check (R178). -/
  check    : Option Nat := none
  /-- Lines of movement while learning, the instant of the latest line, and the learned corrections in units of 2^-20 of
  amplitude, of 1, and of a radian (R175). -/
  moved    : Nat := 0
  lineAt   : Nat := 0
  offS     : Int := 0
  offC     : Int := 0
  ratio    : Int := 0
  phase    : Int := 0
deriving DecidableEq, Repr

/-- The direction seen by the speed qualifier (R189). -/
inductive Dir where
  | none | up | down
deriving DecidableEq, Repr

/-- A position channel (R170 to R192). -/
structure PosCh where
  /-- The count, as an unwrapped integer and modulo 2^32 when read. -/
  pos      : Int := 0
  /-- The channel is homed, or initialised from a valid absolute track without index (R181). -/
  homed    : Bool := false
  started  : Bool := false
  misRun   : Nat := 0
  /-- Count at the latest index edge or MISSING decision (R183). -/
  idxFrom  : Int := 0
  /-- An index edge since the latest latch (R185). -/
  idxBetween : Bool := false
  /-- t_P of the latest centre's sample, in T_corr and in ticks of the companion's own counter (R174, R188). -/
  latch    : Nat := 0
  latchT   : Int := 0
  /-- T_corr of the latest index edge that counted, the step it made, and whether that step was the first of its speed window
  (R185, R188). -/
  edgeAt   : Nat := 0
  edgeBy   : Int := 0
  edgeFirst : Bool := false
  /-- After a position fault POS follows the absolute track (R184). -/
  absMode  : Bool := false
  absAngle : Nat := 0
  plausRun : Nat := 0
  plausOk  : Nat := 0
  /-- Speed window: centres so far, start count and start time, length of the latest, result and qualifier (R188, R189). -/
  winN     : Nat := 0
  winPos   : Int := 0
  winT     : Int := 0
  winLen   : Nat := 0
  spd      : Int := 0
  spdQ     : Nat := 0
  winCorr  : Bool := false
  winSw    : Bool := false
  spdCorr  : Bool := false
  spdSat   : Bool := false
  dir      : Dir := .none
  x        : Int := 0
  r        : Int := 0
  run      : Nat := 0
  quiet    : Bool := true
  flipped  : Bool := false
  wasStill : Bool := false
  /-- The two latest grid samples: times and counts (R174, R186). -/
  t0       : Nat := 0
  c0       : Int := 0
  t1       : Nat := 0
  c1       : Int := 0
deriving DecidableEq, Repr

/-- A probe edge (R186): tick count of the crossing, whether the grid sample after it has come, interpolated count, whether it
rose, and the DOUBT bit. -/
structure PrbEdge where
  time   : Nat := 0
  settled : Bool := false
  pos    : Int := 0
  rising : Bool := false
  doubt  : Bool := false
deriving DecidableEq, Repr

/-- A probe (R186, R187): the edges that may still be delivered, newest first, and the selected edges since the previous
delivery that it no longer holds; what was delivered last, and whether each bridge's next block shows it as NEW. -/
structure Probe where
  held   : List PrbEdge := []
  edges  : Nat := 0
  out    : PrbEdge := {}
  outN   : Nat := 0
  new0   : Bool := false
  new1   : Bool := false
deriving DecidableEq, Repr

/-- The measurement front end and the position front end of one companion. -/
structure Front where
  /-- Modulators 0 to 5 of the channels and 6, 7 for S0, S1. -/
  mods     : Sp ModState := []
  /-- PWM periods of the channel that each free spare shadows, and centres in a row at which it differed (R164). -/
  shadowN  : Sp Nat := []
  shadowRun : Sp Nat := []
  calibrated : Bool := false
  /-- SAR channels that calibration reported invalid: bridge supplies 0, 1, phase voltages 2 to 7, auxiliary inputs 8 to
  11 (R161). -/
  sarBad   : List Nat := []
  t0       : Int := 0
  t1       : Int := 0
  /-- The two temperature readings have differed by more than 8 °C since this instant; they disagree; and both have been
  discarded (R160). -/
  tempAt   : Option Nat := none
  tDis     : Bool := false
  tUnk     : Bool := false
  brsOpen  : Sp Bool := []
  sent     : Sp SentCh := []
  tracks   : Sp Track := []
  chans    : Sp PosCh := []
  probes   : Sp Probe := []
  /-- A and B levels accepted by the quadrature decoder (R179). -/
  abzA     : Bool := false
  abzB     : Bool := false
  /-- The instant at which converter pair S began its present shadow (R178). -/
  shadowT  : Nat := 0
deriving DecidableEq, Repr

/-- One dual-contact input (R194 to R199): the tick at which its mismatch run began and its run of agreement at rest. -/
structure SioIn where
  a      : Bool := false
  b      : Bool := false
  t1     : Option Nat := none
  rest   : Nat := 0
deriving DecidableEq, Repr

/-- One holding-brake output (R202 to R208): the owner's latest request, the last state, and its tests. -/
structure SbcOut where
  /-- Latest request of the owner in effect, as in R204. -/
  req     : Nat := 0
  /-- State the output follows, as in R203. -/
  state   : Nat := 0
  /-- Pull-in running and its start (R203). -/
  pullAt  : Option Nat := none
  chopping : Bool := false
  relAt   : Nat := 0
  /-- Instant of entry to APPLIED, and that of the latest switch-on (R208). -/
  appAt   : Nat := 0
  onAt    : Nat := 0
  /-- Dark test running: 0 high side, 1 low side; the side of the next, and the start of the latest (R207). -/
  dark    : Option Nat := none
  darkSide : Nat := 0
  darkAt  : Nat := 0
  /-- Held state persists until a request other than KEEP of the adopting lane (R206). -/
  keepHeld : Bool := false
deriving DecidableEq, Repr


/-! ### Redundancy (R260 to R297) -/

/-- The lane states of R260. -/
inductive LaneSt where
  | off | boot | calib | selftest | ready | active | suspect | retired | minimal | spareCold | spareWaking
deriving DecidableEq, Repr

/-- A copy sent to lane D (R291): its source lane, its seal's SAMPLE_TIME, and what it holds. -/
structure Copy where
  src    : Nat
  key    : Nat
  /-- The partition whose window it is; none for the lane context. -/
  part   : Option Nat
  bytes  : List Byte
  s1     : Option Dword
  s2     : Option Dword
  force  : Dword
  next   : Option Dword
  dl     : Nat
  jseq   : Nat
  epoch  : Nat
deriving DecidableEq, Repr

/-- A key under vote: the first report of each lane (R268): lane, digest, EVID bit and count. -/
structure VoteKey where
  key   : Nat
  at_   : Nat
  reps  : List (Nat × Nat × Bool × Nat)
deriving DecidableEq, Repr

/-- What one lane knows of the others (R263 to R274), and its journal copy (R286). -/
structure Rdn where
  /-- Latest valid heartbeat of each lane, and when each lane was last heard on path X and path Y. -/
  hb       : Sp Heartbeat := []
  hbX      : Sp Nat := []
  hbY      : Sp Nat := []
  /-- Intervals in a row that miss a lane's heartbeat on a path while it arrives on the other, and intervals in a row
  without a miss (R265). -/
  missX    : Sp Nat := []
  missY    : Sp Nat := []
  okX      : Sp Nat := []
  okY      : Sp Nat := []
  failX    : Sp Bool := []
  failY    : Sp Bool := []
  beacon   : Option Beacon := none
  beaconY  : Option Nat := none
  beaconC  : Option Nat := none
  beaconYFail : Bool := false
  beaconCFail : Bool := false
  /-- The same counts for the beacon on its two routes, and intervals in a row that miss it on both (R265, R272). -/
  bcMissY  : Nat := 0
  bcMissC  : Nat := 0
  bcOkY    : Nat := 0
  bcOkC    : Nat := 0
  bcLost   : Nat := 0
  hbHist   : List Heartbeat := []
  bcHist   : List Beacon := []
  hbSeq    : Nat := 0
  sent     : Option Heartbeat := none
  status   : Option StatusWord := none
  key      : Nat := 0
  digest   : Nat := 0
  /-- A compare event or corrected ECC error since the previous key (R263 EVID). -/
  evid     : Bool := false
  /-- The same for the span that ended with the latest key. -/
  evidKey  : Bool := false
  journal  : List JRec := []
  /-- ACCUSE: lanes accused by the lane's own vote and lanes it judges lost (R273). -/
  accuse   : Nat := 0
  judged   : Nat := 0
  /-- The cause for which each judged lane is judged lost. -/
  why      : Sp Nat := []
  /-- Accusations read in heartbeats: accused, accuser, instant (R273). -/
  accs     : List (Nat × Nat × Nat) := []
  /-- Keys under this lane's own vote, and the highest key it has evaluated (R268, R273). -/
  votes    : List VoteKey := []
  voted    : Nat := 0
  /-- Majority accusations seen, by lane and time (R273). -/
  seen     : List (Nat × Nat) := []
  disagree : Nat := 0
  unheard  : Nat := 0
  cause    : Nat := 0
  suspectAt : Nat := 0
  /-- The master sends copies to lane D (R291). -/
  xferring : Bool := false
  copies   : List Copy := []
  xferRdy  : Bool := false
  /-- The level has reached DL2 without a waking lane D in this power-on (R36). -/
  dusk     : Bool := false
deriving DecidableEq, Repr



/-! ### The fabric (R211 to R259, R349 to R356) -/

/-- A view of a spare slot (R254). -/
inductive SpareSt where
  | free
  | claiming (node k : Nat)
  | claimed (node : Nat)
deriving DecidableEq, Repr

/-- One spare slot as a node sees it: its state, the senders heard in it this cycle, those of accepted frames and of accepted
CLAIMs, cycles without a frame accepted from its owner (R254), and whether it was FREE for the whole previous cycle (R255). -/
structure SpareView where
  st      : SpareSt := .free
  senders : List Nat := []
  got     : List Nat := []
  claims  : List Nat := []
  quiet   : Nat := 0
  freeFor : Nat := 0
  dirty   : Bool := false
deriving DecidableEq, Repr

/-- One claim of this node (R255). State 0 none, 1 CLAIMING, 2 CLAIMED, 3 failed. -/
structure Claim where
  st      : Nat := 0
  slot    : Nat := 0
  clean   : Nat := 0
  attempt : Nat := 0
  sent    : Bool := false
  backoff : Nat := 0
  waitFree : Bool := false
  tried   : List Nat := []
deriving DecidableEq, Repr

/-- A status record accepted from another node (R216), with the cycle in which it was accepted. -/
structure StatRec where
  cycle   : Nat
  dl      : Nat
  flags   : Nat
  lane    : Nat
  lstate  : Nat
  time    : Nat
  epoch   : Nat
deriving DecidableEq, Repr

/-- A frame the node has started: kind, slot, cycle, network, and the bytes from the
destination address to the FCS (R212 to R214, R230). -/
structure TxFrame where
  kind    : Nat
  slot    : Nat
  cycle   : Nat
  netY    : Bool
  at_     : Nat
  bytes   : List Byte
deriving DecidableEq, Repr

/-- An ET frame waiting to be sent (R237): kind, destination node and payload. -/
structure EtFrame where
  kind    : Nat
  node    : Nat
  payload : List Byte
deriving DecidableEq, Repr

/-- The Jaloft upper layer of one lane (R218 to R259). -/
structure Fab where
  /-- Full cycle number of the running cycle. -/
  cycle    : Nat := 0
  /-- Sync deviations of the cycle by RX SYNC slot, on X and on Y, in tick/32 (R225). -/
  devX     : Sp Int := []
  devY     : Sp Int := []
  sentSync : Bool := false
  missed   : Nat := 0
  corrDone : Bool := false
  /-- Listen timer start, first cycle of an attempt, backoff and hold-off starts (R243). -/
  listenAt : Nat := 0
  csFrom   : Option Nat := none
  backAt   : Nat := 0
  holdAt   : Nat := 0
  /-- A LOST decision or a membership stop since the node last entered CS_SEND or ACTIVE (R238). -/
  lost     : Bool := false
  /-- Observation in INTEG (R246, R247). -/
  adopted  : Nat := 0
  obsFrom  : Nat := 0
  slewing  : Bool := false
  syncSeen : Bool := false
  syncViol : Bool := false
  corrOk   : Bool := false
  badRun   : Nat := 0
  noSync   : Nat := 0
  /-- Slots accepted this cycle as 2 × slot + network, and the first payload accepted in each (R226, R228). -/
  accepted : List Nat := []
  payloads : Sp (List Byte) := []
  /-- DATA_ACT slots of this cycle that brought their task a source event (R222, R482). -/
  acts     : List Nat := []
  /-- Nodes accepted in the running cycle and the latest membership vector (R249). -/
  heard    : List Nat := []
  vector   : List Nat := []
  sentTT   : Bool := false
  sentPrev : Bool := false
  judged   : Bool := true
  /-- Siblings whose frame was accepted in the running and in the latest cycle: bits for CA, CB, CC (R250). -/
  sibNow   : Nat := 0
  sibPrev  : Nat := 0
  spares   : Sp SpareView := []
  claims   : Sp Claim := []
  /-- Cycles in a row that judge the networks (R256): quiet, good, frames accepted this cycle. -/
  quietX   : Nat := 0
  quietY   : Nat := 0
  goodX    : Nat := 0
  goodY    : Nat := 0
  cntX     : Nat := 0
  cntY     : Nat := 0
  /-- FABRIC_OUT released by each task, how often, and the count each TX slot last sent (R232). -/
  fabOut   : Sp (List Byte) := []
  relCnt   : Sp Nat := []
  usedCnt  : Sp Nat := []
  /-- ET frames held, oldest first, and frames sent this cycle (R237). -/
  etq      : List EtFrame := []
  etSent   : Nat := 0
  status   : Sp StatRec := []
  /-- The records accepted in the latest complete cycle (R273, R274). -/
  statusPrev : Sp StatRec := []
  /-- A setpoint was accepted in the setpoint slot of this cycle (R103). -/
  spSeen   : Bool := false
  /-- The setpoint slot of this cycle is over (R103). -/
  spOver   : Bool := false
  /-- TX slots of this cycle that have passed (R230). -/
  txDone   : List Nat := []
deriving DecidableEq, Repr

/-- A word of a packing queue (R349). -/
structure FqWord where
  gap   : Bool
  start : Bool
  last  : Bool
  cnt   : Nat
  data  : Nat
deriving DecidableEq, Repr

/-- One packing queue (R349 to R354). -/
structure Fq where
  words   : List FqWord := []
  /-- Bytes in the packing register, and whether an item is open in the queue. -/
  pack    : List Byte := []
  inItem  : Bool := false
  /-- The first word of the open item has not been written yet. -/
  first   : Bool := true
  /-- When its latest byte arrived (R353). -/
  lastAt  : Nat := 0
  /-- The producer's current item is discarded up to its next start. -/
  skip    : Bool := false
  /-- A gap marker waits: its cause and count. -/
  gapPend : Option (Nat × Nat) := none
deriving DecidableEq, Repr

/-- The lower fabric layer of one companion (R212 to R235, R257 to R259). -/
structure Lower where
  /-- The schedule table, as 64-bit entries by slot (R219). -/
  table    : Sp Nat := []
  /-- Window violations by 2 × node + network (R227). -/
  winviol  : Sp Nat := []
  keys     : Sp (BitVec 128) := []
  /-- Candidate values sent by the lane and staged FABRIC_OUTs (R91, R95). -/
  candVal  : Sp Dword := []
  candDepth : Nat := 0
  staged   : Sp (List Byte) := []
  /-- Command classes the lane has marked legal (R99), as a list of class values. -/
  legal    : List Nat := []
  /-- The latest frames started, newest first (R230, R235). -/
  tx       : List TxFrame := []
  /-- The instants of the model's clock, in tenths of a tick, from which each port may start its next frame: 12 byte times
  after the end of its latest (R212). -/
  freeX    : Nat := 0
  freeY    : Nat := 0
  queues   : Sp Fq := []
  /-- Correction not yet applied, in tick/32 (R225, R130). -/
  slew     : Int := 0
  /-- Rate correction in force, in ppb, and the fraction not yet applied (R225). -/
  rate     : Int := 0
  frac     : Int := 0
  /-- A correction and a rate computed and not yet in force: from the next cycle start (R225). -/
  nextCorr : Int := 0
  nextRate : Option Int := none
  /-- T_corr is still the time restored at the latest wake: no fabric time was adopted since (R372). -/
  restored : Bool := false
deriving DecidableEq, Repr


/-! ### Host rings and the remote window protocol (R298 to R328) -/

/-- What an RWP request is for (R310): the RCA read, a fetch of command descriptors, a descriptor write, a device-word
write. -/
inductive ReqFor where
  | rca
  | fetch (ring : Nat) (idx : Nat) (n : Nat)
  | desc (ring : Nat) (idx : Nat)
  | devWord (ring : Nat) (idx : Nat)
deriving DecidableEq, Repr

/-- An RWP request of a lane (R307 to R310). -/
structure Req where
  what : ReqFor
  addr : Nat
  len  : Nat
  data : List Byte := []
  tag  : Nat := 0
  try_ : Nat := 0
  /-- Full cycle number of the latest send. -/
  sent : Nat := 0
  gen  : Nat := 0
deriving DecidableEq, Repr

/-- A fetched command descriptor (R314) with its ring and the generation it was fetched under. -/
structure Cmd where
  ring : Nat
  gen  : Nat
  idx  : Nat
  raw  : List Byte
deriving DecidableEq, Repr

/-- A READ_REGS command that waits for the end of a witness access (R29, R319): the bytes read so far, the mask of the words
not read, the number and address of the word it waits for, the addresses after it, and the instant the access began. -/
structure RegsRead where
  cmd   : Cmd
  bytes : List Byte
  mask  : Nat
  word  : Nat
  addr  : Nat
  left  : List Nat
  at_   : Nat
deriving DecidableEq, Repr

/-- A forwarded APP command (R323). -/
structure AppCmd where
  ring   : Nat
  gen    : Nat
  opcode : Nat
  flags  : Nat
  seq    : Nat
  tag    : List Byte
  args   : List Byte
  src    : LaneId
  tApp   : Nat
  /-- The forward reached this lane after T_app (R323). -/
  late   : Bool := false
deriving DecidableEq, Repr

/-- The command block of R320 in force, and the tasks that have not yet seen it as NEW. -/
structure CmdBlock where
  seq    : Nat := 0
  opcode : Nat := 0
  ring   : Nat := 0
  args   : List Byte := []
  newFor : Nat := 0
  tApp   : Nat := 0
deriving DecidableEq, Repr

/-- An APP command that a lane applies at its next activation, or has applied. -/
structure AppDue where
  app  : AppCmd
  cmd  : Option Cmd := none
  key  : Option Nat := none
deriving DecidableEq, Repr

/-- A completion that is decided and not yet acknowledged (R321, R324, R327): the ring and index of its command, and its
CPLQ index. -/
structure Cpl where
  ring   : Nat
  cmdIdx : Nat
  idx    : Nat
deriving DecidableEq, Repr

/-- The ring engine of one lane. -/
structure RingEng where
  out     : List Req := []
  /-- Requests that wait to be sent, oldest first. -/
  wait    : List Req := []
  /-- Fetched command descriptors not decided, oldest first (R321, R327). -/
  cmds    : List Cmd := []
  /-- Expected CMD_SEQ of each CMDQ; none before the first descriptor (R322). -/
  expect  : Sp Nat := []
  /-- CMDQs whose commands a new serving lane resumes (R325), and whether the next RCA read sets its indices. -/
  resume  : Sp Bool := []
  joining : Bool := true
  /-- The APP command forwarded and not yet decided at T_app (R321, R323). -/
  app     : Option (Cmd × AppCmd) := none
  /-- APP commands whose T_app has passed: their command in the serving lane, and the SAMPLE_TIME of the first activation
  that has seen them as NEW (R315, R320, R323, R324). -/
  due     : List AppDue := []
  /-- A POWER_REQ under vote, and one whose completion must be acknowledged before the entry (R324, R362). -/
  power   : Option Cmd := none
  /-- A READ_REGS command that waits for a witness access to end (R29). -/
  regsRd  : Option RegsRead := none
  /-- Completions not acknowledged. -/
  cpls    : List Cpl := []
  /-- Doorbell indices last accepted: the consumer's for the rings the device writes, the producer's of each CMDQ (R302). -/
  host    : Sp Nat := []
  /-- Index of each CMDQ up to which fetches have been sent. -/
  fetched : Sp Nat := []
  /-- Descriptor writes not yet covered by an acknowledged device word (R303, R311), and those that wait for a
  generation change to settle, by ring. -/
  uncov   : List Req := []
  redo    : Sp (List Req) := []
  /-- Device words last sent, by ring (R311, R325). -/
  words   : Sp Nat := []
  /-- The cycle of the latest poll, and an extra read that a WAKE_DB frame asked for (R305, R306). -/
  polled  : Option Nat := none
  extra   : Option Nat := none
  /-- Reference time of the latest accepted response (R310). -/
  lastRsp : Nat := 0
  block   : CmdBlock := {}
  /-- The command block before it, which a task sees until its first activation from T_app on (R320). -/
  prevBlk : CmdBlock := {}
  /-- Address and length of the latest ended request of each tag (R309). -/
  ended   : Sp (Nat × Nat) := []
  /-- APPLY_TIME recorded with the last applied command of each CMDQ (R325). -/
  applyT  : Sp Nat := []
  /-- Forwards received and waiting for their T_app (R323). -/
  fwd     : List AppCmd := []
deriving DecidableEq, Repr

/-! ### Start, wear, life cycle and power (R357 to R427) -/

/-- The fuses of a lane (R376, R414, R418): the five life-cycle bits, device UID, root slots by their hash, revoked
slots, rollback counter, stepping, and repairs blown under R384. -/
structure Fuses where
  life    : Nat := 1
  uid     : Nat := 0
  rot     : Sp Nat := []
  revoked : Nat := 0
  svn     : Nat := 0
  stepL   : Nat := 2
  stepN   : Nat := 0
  repairs : RegMap := []
  /-- The two copies of a fuse word disagree, as the latest fuse load found (R376). -/
  bad     : Bool := false
deriving DecidableEq, Repr

/-- The wear record (R398): fields of the lane and of its companion that it reloads, slice baselines, and the service
clock in whole hours, in weighted hours (units of 2^-20 h), and the epoch of its latest unknown gap (R400). -/
structure WearRec where
  gen      : Nat := 0
  regs     : RegMap := []
  comp     : RegMap := []
  base     : Sp Nat := []
  hours    : Nat := 0
  weighted : Nat := 0
  gap      : Option Nat := none
  sectors  : Sp Nat := []
deriving DecidableEq, Repr

/-- The MRAM of a lane besides its capsules and journal (R395 to R398): image slots as words by slot × 98,304 + word,
wrapped fabric keys, the wear record in use and its two copies, and the age of what R413 refreshes. -/
structure Mram where
  img      : Sp Nat := []
  /-- Image slots whose region was lost (R397). -/
  imgLost  : Nat := 0
  keys     : Sp (BitVec 128) := []
  wear     : WearRec := {}
  copies   : Sp WearRec := []
  /-- A change not yet written, and since when (R398). -/
  dirty    : Option Nat := none
  trimsLost : Bool := false
  /-- Copies of the wear record whose sectors are lost, a bit each (R397). -/
  wearLost : Nat := 0
  /-- Words, by offset / 8, that a move to a spare sector copied as poisoned (R396). -/
  poison   : List Nat := []
  /-- Words corrected since the latest refresh, by logical sector (R396). -/
  corr     : Sp (List Nat) := []
  pageLost : Sp Bool := []
  /-- Service clock in hours at the latest write of the image slots (0, 1) and the trims (2), and the epoch. -/
  wroteAt  : Sp Nat := []
  wroteEp  : Sp Nat := []
  /-- The item a refresh rewrites and its sectors done (R413). -/
  refresh  : Option (Nat × Nat) := none
  stepAt   : Nat := 0
  /-- Image write in progress (R422). -/
  writing  : Bool := false
deriving DecidableEq, Repr

/-- How far a lane's start has come (R375): t_S of the attempt and of the first attempt, and the steps done. -/
structure StartSt where
  tS      : Option Nat := none
  tS0     : Option Nat := none
  mbist   : Bool := false
  mbistAt : Nat := 0
  init    : Bool := false
  reqAt   : Option Nat := none
  slotAt  : Option Nat := none
  lbist   : Bool := false
  /-- The injection test passed and READY waits for the hold-up charge (R463). -/
  inj     : Bool := false
  witless : Bool := false
  /-- Bring-in or proof of lane D: 0 none, 1 PROOF, 2 BRING_IN. -/
  purpose : Nat := 0
  /-- The lane counted at t_D (R389, R391). -/
  counted : Bool := false
  /-- Setup of the image in use, and its security version (R421). -/
  img     : Option Setup := none
  svn     : Nat := 0
  /-- Instant at which continuous clean ACTIVE operation began (R387). -/
  cleanAt : Option Nat := none
deriving DecidableEq, Repr

/-- Life-cycle and debug state of a lane (R417, R423, R427). -/
structure Sec where
  certAt   : Option Nat := none
  submitAt : Option Nat := none
  /-- Debug nonces loaded so far, whether the present one has been used, and the end of the open session. -/
  nonces   : Nat := 0
  used     : Bool := true
  ends     : Option Nat := none
deriving DecidableEq, Repr

/-- The TAP of a lane (R425): instruction loaded, boundary register, and what the selected data register held as the instruction
was loaded. -/
structure Tap where
  ir    : Nat := 2
  bsr   : Nat := 0
  dr    : Nat := 0
deriving DecidableEq, Repr

/-- The latest access at a lane's service SPI port (R433, R434): its status byte once it ended, and its data. -/
structure SpiSt where
  status : Option Nat := none
  data   : Nat := 0
deriving DecidableEq, Repr

/-- A witness access that runs over path Y (R29): address, whether the SPI port asked, and since when. -/
structure XAcc where
  addr : Nat
  spi  : Bool
  at_  : Nat
deriving DecidableEq, Repr

/-- A repair copy (R336, R337): the bank group, element (1 column, 2 row, 3 bank), logical bank, physical bank it
switches to, and since when. -/
structure RepairJob where
  kind : Nat
  bank : Nat
  phys : Nat
  elem : Nat
  at_  : Nat
deriving DecidableEq, Repr

/-- The scrubber and repair state of a lane's Chord SRAM (R333 to R337), and held grants (R348). -/
structure MemSt where
  /-- Paced scrub reads made in each bank group so far (R334). -/
  paced  : Sp Nat := []
  /-- Words whose read and write-back are due (R335). -/
  due    : List Nat := []
  /-- Corrected errors of the latest 3,600 s: time, word index, bit (R333). -/
  recent : List (Nat × Nat × Nat) := []
  jobs   : List RepairJob := []
  /-- Bits of columns taken by spares, as bank × 128 + column; rows as bank × 128 + row. -/
  cols   : List Nat := []
  rows   : List Nat := []
  /-- RSEQ of the newest record of each receive area (R355). -/
  rseq   : Sp Nat := []
deriving DecidableEq, Repr

/-- A vote on a power state (R362): the requesting lane, the command, the state, its start, and the voters that have
answered with the least block code each refused with (0 for none). Voter 4 is the witness. -/
structure Vote where
  lane    : LaneId
  cmd     : Cmd
  target  : Nat
  at_     : Nat
  answers : Sp Nat := []
  /-- Voters whose answer has reached the requesting lane. -/
  got     : List Nat := []
deriving DecidableEq, Repr

/-- The power manager (R357 to R373). -/
structure Power where
  /-- State of R357; OFF until VAON_W powers on. -/
  state  : Nat := 4
  vote   : Option Vote := none
  /-- A passed vote whose completion is not yet acknowledged: target, lane, CPLQ index. -/
  passed : Option (Nat × LaneId × Nat) := none
  /-- The level at which it passed, and the lanes that were lost then, as bits (R363). -/
  passDl : Nat := 4
  passLost : Nat := 0
  /-- t_K and the target of an entry to SLEEP or OFF (R364). -/
  tK     : Option (Nat × Nat) := none
  /-- A match or another wake is decided and the device has not started yet (R365, R369). -/
  wakeAt : Option Nat := none
  src    : Nat := 0
  addr   : Nat := 0
  /-- Lanes that have still to raise TIME_DISCONT of the latest start (R373). -/
  discont : List LaneId := []
deriving DecidableEq, Repr


/-! ### The dies -/

/-- One lane die. -/
structure Lane where
  powered : Bool := false
  /-- The lane's own state (R260); LCTL_STATUS.STATE reads it. -/
  st      : LaneSt := .off
  regs    : RegMap := []
  /-- HI registers latched by a read of their LO register, by accessor and address (R432). -/
  latch   : Sp Nat := []
  /-- Latest T_corr the lane received (R444). -/
  lastT   : Nat := 0
  epoch   : Nat := 0
  /-- The SHA-256 of the active image as a number whose least byte is byte 0 (R263, R406). -/
  image   : Nat := 0
  eng     : Engine := {}
  bbx     : Recorder := {}
  rdn     : Rdn := {}
  fab     : Fab := {}
  ring    : RingEng := {}
  fuses   : Fuses := {}
  mram    : Mram := {}
  start   : StartSt := {}
  sec     : Sec := {}
  tap     : Tap := {}
  spi     : SpiSt := {}
  xacc    : Option XAcc := none
  mem     : MemSt := {}
  /-- Conditions that a monitor has timed: supply out of limits, HUP below 10.7 V, and what the service flag marks
  (R276, R400, R401, R463). -/
  service : Bool := false
  hupLow  : Bool := false
  /-- The diagnosis buffer of memory BIST (R384). -/
  diag    : List BistFault := []
deriving DecidableEq, Repr

/-- One companion die. -/
structure Comp where
  powered : Bool := false
  /-- The crystal runs and the timebase is locked: the tick counter counts (R6, R370). -/
  running : Bool := false
  /-- The tick counter, and T_corr minus it in tick/32 (R218, R225). -/
  ticks   : Nat := 0
  ofs32   : Int := 0
  regs    : RegMap := []
  latch   : Sp Nat := []
  /-- The handover switch (R13). -/
  sw      : SwPos := .primary
  /-- Quarantine of the primary and of the spare port (R148, R150). -/
  quarP   : Bool := false
  quarS   : Bool := false
  /-- The handover hold of R15 and the instant the switch opened. -/
  hoRun   : Bool := false
  openAt  : Nat := 0
  holdExp : Bool := false
  /-- RWL fields are locked (R438). -/
  locked  : Bool := false
  /-- The companion has powered up beside a running witness whose record of its switch differs, and the switch-control handshake
  has yet to resume: its pad groups stay held (R13, R366). -/
  handshake : Bool := false
  b0      : Bridge := {}
  b1      : Bridge := {}
  front   : Front := {}
  sio     : Sp SioIn := []
  sioTime : Nat := 0
  sbc     : Sp SbcOut := []
  /-- A T_CMP above 160 °C has turned the bridges off (R461). -/
  overtemp : Bool := false
  lower   : Lower := {}
  /-- Event records held for the next lane that adopts the companion, oldest first, and those lost (R444). -/
  evq     : List Evt := []
  evLost  : Nat := 0
  /-- Pad groups held: bits 1 GATE, 2 SBC, 3 EXC of R366. -/
  pads    : Nat := 14
  /-- Instant at which the supplies became good, and a calibration run since power-up (R379). -/
  goodAt  : Option Nat := none
  calRun  : Bool := false
deriving DecidableEq, Repr

/-- The bring-in of lane D that the witness runs (R290): its target companion, or none while held hot (R281), when the
loss was decided, and how far it has come. -/
structure BringIn where
  target  : Option CompId
  tL      : Nat
  masterAt : Nat
  good    : Bool := false
  loaded  : Bool := false
  ready   : Bool := false
  /-- By task: what its fabric events that failed to occur add to the limit on t_X, in ticks (R482). -/
  late    : Sp Nat := []
  tX      : Option Nat := none
  opened  : Bool := false
deriving DecidableEq, Repr

/-- The witness die and its vault (R264 to R290). -/
structure Wit where
  /-- The companion for which the loss being decided starts lane D (R205, R290). -/
  dueD    : Option CompId := none
  powered : Bool := false
  regs    : RegMap := []
  latch   : Sp Nat := []
  /-- Retention count (R372). -/
  ret     : Nat := 0
  hbAt    : Sp Nat := []
  stAt    : Sp Nat := []
  hb      : Sp Heartbeat := []
  /-- Intervals in a row that miss a lane's heartbeat on path Y while its status word arrives, and the links failed so
  (R265). -/
  missY   : Sp Nat := []
  hbFail  : Sp Bool := []
  votes   : List VoteKey := []
  voted   : Nat := 0
  disagree : Nat := 0
  cause   : Sp Nat := []
  journal : List JRec := []
  bring   : Option BringIn := none
  beaconSeq : Nat := 0
  beacon  : Option Beacon := none
  /-- The vault copy of the image, the proof record (result, failing step, digest, retention count at its end). -/
  image   : Option Setup := none
  proof   : Nat := 0
  proofStep : Nat := 0
  proofDigest : Nat := 0
  proofAt : Nat := 0
  summs   : Sp Capsule := []
  /-- The life-cycle area: certificate words; fabric keys that lane D has still to take, `none` for an erased one; wear entries of
  lane D for the primary lanes (R399, R417, R427). -/
  cert    : List Nat := []
  keys    : Sp (Option (BitVec 128)) := []
  wear    : Sp RegMap := []
  /-- T_entry, N_entry of the latest SLEEP entry, whether the mark of a lost count stands in the vault (R364, R371). -/
  tEntry  : Nat := 0
  nEntry  : Nat := 0
  nWake   : Nat := 0
  retMark : Bool := true
  retRun  : Bool := false
  /-- The start in progress found the retention count lost (R373). -/
  lostStart : Bool := false
  /-- Gating of lanes A to C and the companions released (R374). -/
  release : Bool := false
  /-- Requests for the logic BIST slot in order, and the grant running since (R381). -/
  bistQ   : List LaneId := []
  bistAt  : Nat := 0
  /-- The start decision has been taken, and the device is ready (R389 to R391). -/
  decided : Bool := false
  readyAt : Option Nat := none
  copying : Option (Nat × LaneId) := none
  /-- A proof wake of lane D runs: key-on or not, and since when (R295, R296). -/
  proving : Option (Bool × Nat) := none
  /-- A key-on proof has yet to run or runs (R296, R392). -/
  keyProof : Bool := false
  /-- The FLT_N stage: the witness logic's request and the latched requests of the lanes (R32). -/
  fltW    : Bool := true
  dusk    : Bool := false
  fltL    : Sp Bool := []
deriving DecidableEq, Repr

/-- The dies of the part apart from Chord SRAM. -/
structure Dev where
  /-- The instant at which the present command acts, in ticks since power was applied. -/
  clk : Nat := 0
  lA  : Lane := {}
  lB  : Lane := {}
  lC  : Lane := {}
  lD  : Lane := {}
  cA  : Comp := {}
  cB  : Comp := {}
  cC  : Comp := {}
  wit : Wit := {}
  pwr : Power := {}
deriving DecidableEq, Repr

/-- The state of the TH96: time in ticks since power was applied (the model's own reference for the instants that
commands carry), the Chord SRAMs, the dies, and the commands that wait, first in first out. -/
structure State where
  now     : Nat
  mems    : Mems
  dev     : Dev
  pending : List Instr
deriving DecidableEq, Repr

/-- The part right after VAON_W and every other supply has been off: nothing powered, every register at its table's
reset value, Chord SRAM with nothing listed, no command waiting. It is a TH96-A1 as delivered, without fabric keys (R10; the
log's entry on the ordering code: DESIGN CHOICE). -/
def State.reset : State := { now := 0, mems := {}, dev := {}, pending := [] }

end Sys2Proof.Machine
end

