-- ==== Sys2Proof/Machine/Ops.lean ====
section
/-!
DEFINITION. The named operations over the state: the dies by name, register fields, Chord SRAM bytes and words, time,
and the adoption of companions. Every command meaning is written over these.
-/
namespace Sys2Proof.Machine

/-! ### Names and places -/

/-- Lane number, 0 A to 3 D. -/
def laneIdx : LaneId → Nat
  | .A => 0 | .B => 1 | .C => 2 | .D => 3

/-- The lane of a number, D for every number above 2. -/
def laneOf : Nat → LaneId
  | 0 => .A | 1 => .B | 2 => .C | _ => .D

/-- The lanes in index order. -/
def allLanes : List LaneId := [.A, .B, .C, .D]

/-- Companion number, 0 CA to 2 CC. -/
def compIdx : CompId → Nat
  | .CA => 0 | .CB => 1 | .CC => 2

/-- The companion of a number, CC for every number above 1. -/
def compOf : Nat → CompId
  | 0 => .CA | 1 => .CB | _ => .CC

/-- The companions in index order. -/
def allComps : List CompId := [.CA, .CB, .CC]

/-- The lane on a companion's primary port (R13). -/
def homeLane : CompId → LaneId
  | .CA => .A | .CB => .B | .CC => .C

/-- The companion on a lane's primary port; lane D has none. -/
def homeComp : LaneId → Option CompId
  | .A => some .CA | .B => some .CB | .C => some .CC | .D => none

/-- The other companions of the part (R250). -/
def siblings (c : CompId) : List CompId := allComps.filter (· ≠ c)

/-- 1 for true. -/
def bit (b : Bool) : Nat := if b then 1 else 0

/-- Bit `i` of `v`. -/
def hasBit (v i : Nat) : Bool := v / 2 ^ i % 2 == 1

/-- `v` with bit `i` set to `b`. -/
def putBit (v i : Nat) (b : Bool) : Nat :=
  if hasBit v i = b then v else if b then v + 2 ^ i else v - 2 ^ i

/-- The number whose bit `i` is `f i`, for `i < n`. -/
def bitsOf (n : Nat) (f : Nat → Bool) : Nat :=
  (List.range n).foldl (fun a i => if f i then a + 2 ^ i else a) 0

/-- An integer as an `n`-bit two's-complement number. -/
def enc (n : Nat) (x : Int) : Nat := (x % (2 ^ n : Int)).toNat

/-- An `n`-bit two's-complement number as an integer. -/
def dec (n : Nat) (v : Nat) : Int := if v < 2 ^ (n - 1) then (v : Int) else (v : Int) - 2 ^ n

/-- An integer clamped to `lo … hi`. -/
def clampI (lo hi x : Int) : Int := if x < lo then lo else if hi < x then hi else x

/-- A sparse map with the value at a key changed. -/
def Sparse.upd {V : Type} [DecidableEq V] (d : V) (m : Sp V) (k : Nat) (f : V → V) : Sp V :=
  Sparse.set d m k (f (Sparse.get d m k))

/-! ### Quotients whose rounding no rule states -/

/-- A quotient rounded either way where it is not exact: which way is open (`Config.roundsUp`). -/
def openDiv (place : Nat) (num den : Int) : Int :=
  num / den + (if num % den = 0 then 0 else (bit (Config.roundsUp place num den) : Int))

/-- A quotient rounded to the nearest integer; at a tie which way is open. -/
def openNear (place : Nat) (num den : Int) : Int :=
  let q := num / den
  let r := num % den
  if 2 * r < den then q else if den < 2 * r then q + 1 else q + (bit (Config.roundsUp place num den) : Int)

/-! ### Dies -/

/-- A lane of the part. -/
def Dev.lane (d : Dev) : LaneId → Lane
  | .A => d.lA | .B => d.lB | .C => d.lC | .D => d.lD

/-- The part with one lane replaced. -/
def Dev.setLane (d : Dev) : LaneId → Lane → Dev
  | .A, x => { d with lA := x }
  | .B, x => { d with lB := x }
  | .C, x => { d with lC := x }
  | .D, x => { d with lD := x }

/-- The part with one lane changed. -/
def Dev.modLane (d : Dev) (l : LaneId) (f : Lane → Lane) : Dev := d.setLane l (f (d.lane l))

/-- A companion of the part. -/
def Dev.comp (d : Dev) : CompId → Comp
  | .CA => d.cA | .CB => d.cB | .CC => d.cC

/-- The part with one companion replaced. -/
def Dev.setComp (d : Dev) : CompId → Comp → Dev
  | .CA, x => { d with cA := x }
  | .CB, x => { d with cB := x }
  | .CC, x => { d with cC := x }

/-- The part with one companion changed. -/
def Dev.modComp (d : Dev) (c : CompId) (f : Comp → Comp) : Dev := d.setComp c (f (d.comp c))

/-- The part with the witness changed. -/
def Dev.modWit (d : Dev) (f : Wit → Wit) : Dev := { d with wit := f d.wit }

/-- The Chord SRAM of a lane. -/
def Mems.lane (m : Mems) : LaneId → LaneMem
  | .A => m.a | .B => m.b | .C => m.c | .D => m.d

/-- The Chord SRAMs with one lane's replaced. -/
def Mems.setLane (m : Mems) : LaneId → LaneMem → Mems
  | .A, x => { m with a := x }
  | .B, x => { m with b := x }
  | .C, x => { m with c := x }
  | .D, x => { m with d := x }

/-- A bridge of a companion: B1 for `false`, B2 for `true`. -/
def Comp.bridge (c : Comp) (b : Bool) : Bridge := if b then c.b1 else c.b0

/-- The companion with one bridge changed. -/
def Comp.modBridge (c : Comp) (b : Bool) (f : Bridge → Bridge) : Comp :=
  if b then { c with b1 := f c.b1 } else { c with b0 := f c.b0 }

/-! ### Register fields -/

/-- A field of a lane register. -/
def Lane.rd (l : Lane) (f : Fld) : Nat := l.regs.get f
/-- The lane with a register field written. -/
def Lane.wr (l : Lane) (f : Fld) (v : Nat) : Lane := { l with regs := l.regs.set f v }
/-- The lane with a counting field raised by one, saturating. -/
def Lane.inc (l : Lane) (f : Fld) : Lane := { l with regs := l.regs.addSat f 1 }
/-- A one-bit field of a lane register. -/
def Lane.flag (l : Lane) (f : Fld) : Bool := l.rd f == 1

/-- A field of a companion register. -/
def Comp.rd (c : Comp) (f : Fld) : Nat := c.regs.get f
/-- The companion with a register field written. -/
def Comp.wr (c : Comp) (f : Fld) (v : Nat) : Comp := { c with regs := c.regs.set f v }
/-- The companion with a counting field raised by one, saturating. -/
def Comp.inc (c : Comp) (f : Fld) : Comp := { c with regs := c.regs.addSat f 1 }
/-- A one-bit field of a companion register. -/
def Comp.flag (c : Comp) (f : Fld) : Bool := c.rd f == 1

/-- A field of a witness register. -/
def Wit.rd (w : Wit) (f : Fld) : Nat := w.regs.get f
/-- The witness with a register field written. -/
def Wit.wr (w : Wit) (f : Fld) (v : Nat) : Wit := { w with regs := w.regs.set f v }
/-- The witness with a counting field raised by one, saturating. -/
def Wit.inc (w : Wit) (f : Fld) : Wit := { w with regs := w.regs.addSat f 1 }
/-- A one-bit field of a witness register. -/
def Wit.flag (w : Wit) (f : Fld) : Bool := w.rd f == 1

/-- The part with a lane's register field written. -/
def Dev.wrL (d : Dev) (l : LaneId) (f : Fld) (v : Nat) : Dev := d.modLane l (·.wr f v)
/-- The part with a companion's register field written. -/
def Dev.wrC (d : Dev) (c : CompId) (f : Fld) (v : Nat) : Dev := d.modComp c (·.wr f v)
/-- The part with a lane's counting field raised. -/
def Dev.incL (d : Dev) (l : LaneId) (f : Fld) : Dev := d.modLane l (·.inc f)
/-- The part with a companion's counting field raised. -/
def Dev.incC (d : Dev) (c : CompId) (f : Fld) : Dev := d.modComp c (·.inc f)

/-- The part with a function applied for each element of a list. -/
def Dev.each {A : Type} (d : Dev) (xs : List A) (f : Dev → A → Dev) : Dev := xs.foldl f d

/-! ### Chord SRAM (R330, R331) -/

/-- What a byte of Chord SRAM reads as that nothing has written: 0 (the log's entry on unwritten memory). -/
def blankByte : Byte := 0

/-- A byte of Chord SRAM. -/
def LaneMem.byte (m : LaneMem) (a : Nat) : Byte := Sparse.get blankByte m.cells a

/-- Chord SRAM with one byte written. -/
def LaneMem.putByte (m : LaneMem) (a : Nat) (v : Byte) : LaneMem :=
  { m with cells := Sparse.set blankByte m.cells a v }

/-- `n` bytes from address `a`, lowest address first. -/
def LaneMem.bytes (m : LaneMem) (a n : Nat) : List Byte := (List.range n).map (fun i => m.byte (a + i))

/-- Chord SRAM with bytes written from address `a` up. -/
def LaneMem.putBytes (m : LaneMem) (a : Nat) : List Byte → LaneMem
  | [] => m
  | v :: t => (m.putByte a v).putBytes (a + 1) t

/-- A number from bytes in little-endian order (R7). -/
def leNat : List Byte → Nat
  | [] => 0
  | v :: t => v.toNat + 256 * leNat t

/-- The `n` bytes of a number in little-endian order. -/
def leBytes : Nat → Nat → List Byte
  | 0, _ => []
  | n + 1, v => BitVec.ofNat 8 v :: leBytes n (v / 256)

/-- A number from bytes in big-endian order. -/
def beNat (bs : List Byte) : Nat := bs.foldl (fun a v => a * 256 + v.toNat) 0

/-- The `n` bytes of a number in big-endian order. -/
def beBytes (n v : Nat) : List Byte := (leBytes n v).reverse

/-- A little-endian number of `n` bytes at address `a`. -/
def LaneMem.num (m : LaneMem) (a n : Nat) : Nat := leNat (m.bytes a n)

/-- Chord SRAM with whole 64-bit words written from address `a` up: fresh codes replace what was wrong with the words
(R331, R332). The bytes are filled with 0 to a whole word. -/
def LaneMem.putWords (m : LaneMem) (a : Nat) (bs : List Byte) : LaneMem :=
  let n := (bs.length + 7) / 8
  let m := m.putBytes a (bs ++ List.replicate (n * 8 - bs.length) 0)
  { m with cond := (List.range n).foldl (fun c i => Sparse.del c (a / 8 + i)) m.cond }

/-- The memories' canonical form: addresses strictly rising and no listed byte equal to what an unlisted one reads. -/
def Memory.wf (m : LaneMem) : Bool := Sparse.wf blankByte m.cells

/-- The canonical form of the Chord SRAM of every lane. -/
def Mems.wf (m : Mems) : Bool := Memory.wf m.a && Memory.wf m.b && Memory.wf m.c && Memory.wf m.d

/-! ### Time (R6, R218, R372) -/

/-- T_corr of a companion in tick/32: a 64-bit tick count (R6, R218, R370). -/
def Comp.tcorr32 (c : Comp) : Nat := (((c.ticks : Int) * 32 + c.ofs32) % 2 ^ 69).toNat

/-- T_corr of a companion in ticks. -/
def Comp.tcorr (c : Comp) : Nat := c.tcorr32 / 32

/-- A companion after `n` ticks: its 64-bit counter counts while its timebase runs, and the rate correction in ppb moves T_corr
by its share, in tick/32, with the remainder kept (R225). -/
def Comp.elapse (c : Comp) (n : Nat) : Comp :=
  if c.running then
    let acc : Int := c.lower.frac + c.lower.rate * n * 32
    { c with ticks := (c.ticks + n) % 2 ^ 64, ofs32 := c.ofs32 + acc / 1000000000
             lower := { c.lower with frac := acc % 1000000000 } }
  else c

/-- The witness when the reference moves from `t0` to `t1` ticks: the 48-bit retention counter counts 32,768 edges a
second while the oscillator runs (R371, R372). -/
def Wit.elapse (w : Wit) (t0 t1 : Nat) : Wit :=
  if w.powered && w.retRun then
    { w with ret := (w.ret + (t1 * 32768 / 100000000 - t0 * 32768 / 100000000)) % 2 ^ 48 }
  else w

/-- The part when the reference moves from `t0` to `t1`. -/
def Dev.elapse (d : Dev) (t0 t1 : Nat) : Dev :=
  { d with clk := t1, cA := d.cA.elapse (t1 - t0), cB := d.cB.elapse (t1 - t0), cC := d.cC.elapse (t1 - t0)
           wit := d.wit.elapse t0 t1 }

/-- The instant a command at `tm` acts: time never goes back. -/
def State.instant (s : State) (tm : Nat) : Nat := max s.now tm

/-- A command's effect at instant `tm` on the dies. -/
def State.act (s : State) (tm : Nat) (f : Nat → Dev → Dev) : Host.Outcome State Fault Refusal :=
  .next { s with now := s.instant tm, dev := f (s.instant tm) (s.dev.elapse s.now (s.instant tm)) }

/-- A command's effect at instant `tm` on the dies, which reads Chord SRAM. -/
def State.actR (s : State) (tm : Nat) (f : Nat → Mems → Dev → Dev) : Host.Outcome State Fault Refusal :=
  s.act tm (fun t d => f t s.mems d)

/-- A command's effect at instant `tm` on the dies and on Chord SRAM. -/
def State.actM (s : State) (tm : Nat) (f : Nat → Mems → Dev → Mems × Dev) : Host.Outcome State Fault Refusal :=
  let r := f (s.instant tm) s.mems (s.dev.elapse s.now (s.instant tm))
  .next { s with now := s.instant tm, mems := r.1, dev := r.2 }

/-- T_CMP of a companion in 1/16 °C: the higher of the two readings within −55 to 175 °C, none when both lie outside
(R160). -/
def Comp.tCmp (c : Comp) : Option Int :=
  let ok := fun (x : Int) => decide (-880 ≤ x) && decide (x ≤ 2800)
  match ok c.front.t0, ok c.front.t1 with
  | true, true => some (max c.front.t0 c.front.t1)
  | true, false => some c.front.t0
  | false, true => some c.front.t1
  | false, false => none

/-! ### Adoption (R13, R28, R148) -/

/-- The companion a lane has adopted (R28): its own while the switch is PRIMARY, for lane D the one in SPARE. -/
def Dev.adopted (d : Dev) (l : LaneId) : Option CompId :=
  match l with
  | .A => if d.cA.sw = .primary then some .CA else none
  | .B => if d.cB.sw = .primary then some .CB else none
  | .C => if d.cC.sw = .primary then some .CC else none
  | .D =>
    if d.cA.sw = .spare then some .CA
    else if d.cB.sw = .spare then some .CB
    else if d.cC.sw = .spare then some .CC
    else none

/-- The lane that a companion's switch selects (R13). -/
def Dev.selected (d : Dev) (c : CompId) : Option LaneId :=
  match (d.comp c).sw with
  | .primary => some (homeLane c)
  | .spare => some .D
  | .opened => none

/-- The lane that drives a companion: the one its switch selects, unless that port is quarantined (R148). -/
def Dev.driver (d : Dev) (c : CompId) : Option LaneId :=
  match (d.comp c).sw with
  | .primary => if (d.comp c).quarP then none else some (homeLane c)
  | .spare => if (d.comp c).quarS then none else some .D
  | .opened => none

/-- The code of a lane state (R260). -/
def laneStCode : LaneSt → Nat
  | .off => 0 | .boot => 1 | .calib => 2 | .selftest => 3 | .ready => 4 | .active => 5
  | .suspect => 6 | .retired => 7 | .minimal => 8 | .spareCold => 9 | .spareWaking => 10

/-- The code of a switch position (R13). -/
def swCode : SwPos → Nat
  | .primary => 0 | .spare => 1 | .opened => 2

/-- A lane is active when its state is ACTIVE and its companion's switch selects it (R30). -/
def Dev.isActive (d : Dev) (l : LaneId) : Bool := (d.lane l).st == .active && (d.adopted l).isSome

/-- The active lanes in index order. -/
def Dev.actives (d : Dev) : List LaneId := allLanes.filter d.isActive

/-- The lane time reference: T_corr of the adopted companion while it runs, else the latest T_corr received, which is
then approximate (R444). -/
def Dev.laneTime (d : Dev) (l : LaneId) : Nat × Bool :=
  match d.adopted l with
  | some c => if (d.comp c).running then ((d.comp c).tcorr, false) else ((d.lane l).lastT, true)
  | none => ((d.lane l).lastT, true)

/-- The lane whose recorder takes the witness's events: the recovery master's (R403). -/
def Dev.master (d : Dev) : Option LaneId :=
  if d.wit.powered && d.wit.flag Reg.WIT_STAT.MASTER_VALID then some (laneOf (d.wit.rd Reg.WIT_STAT.MASTER)) else none

end Sys2Proof.Machine
end

