-- ==== Sys2Proof/Machine/Events.lean ====
section
/-!
DEFINITION. Events on their way out (R403 to R407, R443 to R447): raising a record in a lane, a companion or the
witness, coalescing, admission, the journal page, the rings' held items, the fabric's pending list, and the freeze of a
capsule.
-/
namespace Sys2Proof.Machine

/-- Severities of R443. -/
def sevSafety : Nat := 0
def sevFault : Nat := 1
def sevDiag : Nat := 2
def sevTrace : Nat := 3

/-! ### The record (R443) -/

/-- The 16 bytes of an event record in memory (R443). -/
def Evt.bytes (e : Evt) : List Byte :=
  leBytes 6 (e.time % 2 ^ 48) ++ leBytes 1 e.id ++ leBytes 1 (e.lane % 4 + 4 * (e.sev % 4) + 16 * bit e.approx) ++
    leBytes 4 e.epoch ++ leBytes 4 (e.data % 2 ^ 32)

/-- The 16 bytes of an event record in a fabric diagnostic slot: the same fields, each big-endian (R443). -/
def Evt.wire (e : Evt) : List Byte :=
  beBytes 6 (e.time % 2 ^ 48) ++ leBytes 1 e.id ++ leBytes 1 (e.lane % 4 + 4 * (e.sev % 4) + 16 * bit e.approx) ++
    beBytes 4 e.epoch ++ beBytes 4 (e.data % 2 ^ 32)

/-- The gap marker that goes ahead of a record of the same severity: cause in [31:24], count in [23:0] (R404). -/
def gapEvt (e : Evt) (cause n : Nat) : Evt := { e with id := 113, data := cause * 2 ^ 24 + min n (2 ^ 24 - 1) }

/-! ### Held ring items (R328) -/

/-- A held ring with `n` items lost for a cause: the first cause since the previous descriptor stays (R328). -/
def RingHold.lose (h : RingHold) (cause n : Nat) : RingHold :=
  { h with gapCause := if h.gapCnt = 0 then cause else h.gapCause, gapCnt := h.gapCnt + n }

/-- Index of the gap counter of a ring: 0 EVTQ, 1 LOGQ, 2 TRCQ. -/
def Lane.ringLoses (l : Lane) (k n : Nat) : Lane := { l with regs := l.regs.addSat (Reg.RNG_GAP.COUNT k) n }

/-- An event record offered to EVTQ (`k` 0) or TRCQ (`k` 2): held while fewer than 64 items are, else the newest is
dropped, for a full ring or a lost host (R328). -/
def Lane.holdEvt (l : Lane) (k : Nat) (e : Evt) : Lane :=
  let h := if k = 2 then l.bbx.trcq else l.bbx.evtq
  let full := h.evts.length ≥ 64
  let h' := if full then h.lose (if l.flag Reg.RNG_STAT.HOST_LOST then 4 else 1) 1 else { h with evts := h.evts ++ [e] }
  let l := if full then l.ringLoses k 1 else l
  if k = 2 then { l with bbx := { l.bbx with trcq := h' } } else { l with bbx := { l.bbx with evtq := h' } }

/-- An event record that admission kept from EVTQ or TRCQ: lost with cause RATE (R404). -/
def Lane.rateEvt (l : Lane) (k : Nat) : Lane :=
  let l := l.ringLoses k 1
  if k = 2 then { l with bbx := { l.bbx with trcq := l.bbx.trcq.lose 3 1 } }
  else { l with bbx := { l.bbx with evtq := l.bbx.evtq.lose 3 1 } }

/-- A journal record offered to LOGQ (R328). -/
def Lane.holdLog (l : Lane) (r : JRec) : Lane :=
  let h := l.bbx.logq
  if h.recs.length ≥ 64 then { (l.ringLoses 1 1) with bbx := { l.bbx with logq := h.lose (if l.flag Reg.RNG_STAT.HOST_LOST then 4 else 1) 1 } }
  else { l with bbx := { l.bbx with logq := { h with recs := h.recs ++ [r] } } }

/-! ### Journal page (R404, R408) -/

/-- A record taken by the event journal, preceded by a marker of the records of its severity refused before it. -/
def Lane.journalEvt (l : Lane) (clk : Nat) (e : Evt) : Lane :=
  let n := Sparse.get 0 l.bbx.jrnGap e.sev
  let add := if n = 0 then [e] else [gapEvt e 3 n, e]
  { l with bbx := { l.bbx with page := l.bbx.page ++ add, jrnGap := Sparse.set 0 l.bbx.jrnGap e.sev 0
                               pageT := if l.bbx.page.isEmpty then clk else l.bbx.pageT } }

/-! ### Fabric pending list (R405) -/

/-- The greatest severity number (the lowest severity) among records. -/
def lowestSev (es : List Evt) : Nat := es.foldl (fun a e => max a e.sev) 0

/-- The list without its newest record of a severity. -/
def dropNewest (sev : Nat) (es : List Evt) : List Evt :=
  (es.reverse.eraseP (fun e => e.sev = sev)).reverse

/-- A record taken by the fabric path: with 128 pending, the newest record of the lowest severity present is dropped,
which may be this one (R405). -/
def Lane.fabEvt (l : Lane) (e : Evt) : Lane :=
  if l.bbx.fab.length < 128 then { l with bbx := { l.bbx with fab := l.bbx.fab ++ [e] } }
  else
    let all := l.bbx.fab ++ [e]
    let w := lowestSev all
    let l := { l with bbx := { l.bbx with fab := dropNewest w all, fabFull := Sparse.upd 0 l.bbx.fabFull w (· + 1) } }
    l.inc (Reg.BBX_DROP.FULL (w % 4))

/-- The pending count in BBX_STAT. -/
def Lane.fabStat (l : Lane) : Lane := l.wr Reg.BBX_STAT.PENDING l.bbx.fab.length

/-! ### The freeze (R406, R407) -/

/-- The status registers of the blocks a capsule's snapshot holds, from a lane's or a companion's register map. -/
def snapshot (m : RegMap) (blocks : List Nat) : RegMap :=
  m.filter (fun kv => blocks.contains (kv.1 / 32 / 4096) &&
    (fieldsAt (kv.1 / 32)).any (fun f => (f.acc == .ro || f.acc == .w1c) && f.key == kv.1))

/-- Lane blocks LCTL, CHE, CHX, MEM, ARB, RDN, XLK, PWR, BBX (R406). -/
def capsuleLaneBlocks : List Nat :=
  [0x40000, 0x40002, 0x40003, 0x40004, 0x40005, 0x4000B, 0x4000A, 0x4000C, 0x4000F]

/-- Companion blocks PWM, GDV, MFE, POS, SBC (R406). -/
def capsuleCompBlocks : List Nat := [0x48001, 0x48002, 0x48003, 0x48004, 0x48007]

/-- The capsule that a freeze takes: 1 while it is EMPTY, else the first EMPTY one of 2 to 4, else the one of 2 to 4 with
the oldest WRITE_HOURS; an unusable capsule is skipped (R397, R407). -/
def Recorder.freezePick (r : Recorder) : Option Nat :=
  let cap := fun k => Sparse.get {} r.caps k
  let isEmpty := fun k => (cap k).state == 0 && !(cap k).frozen
  if isEmpty 1 then some 1
  else match [2, 3, 4].filter isEmpty with
    | k :: _ => some k
    | [] => ([2, 3, 4].filter (fun k => (cap k).state != 2)).foldl
        (fun a k => match a with
          | none => some k
          | some b => if (cap k).writeHours < (cap b).writeHours then some k else some b) none

/-- The LSTATE of a lane: four bits for each lane (R216). -/
def Lane.lstate (l : Lane) : Nat := l.rd (Reg.RDN_STAT.LSTATE 0) + 16 * l.rd (Reg.RDN_STAT.LSTATE 1) +
  256 * l.rd (Reg.RDN_STAT.LSTATE 2) + 4096 * l.rd (Reg.RDN_STAT.LSTATE 3)

/-- A lane whose recorder freezes a capsule for a SAFETY record and opens the post-trigger window (R406, R407). -/
def Lane.freeze (l : Lane) (clk : Nat) (comp : RegMap) (e : Evt) : Lane :=
  match l.bbx.freezePick with
  | none => l
  | some k =>
    let r := l.bbx
    let c : Capsule :=
      { state := 0, frozen := true, first := k == 1, dl := l.rd Reg.RDN_STAT.DL, trigger := some e
        serial := r.serial + 1, lstate := l.lstate, image := l.image
        writeHours := l.mram.wear.hours, writeEpoch := l.epoch
        regs := snapshot l.regs capsuleLaneBlocks, compRegs := snapshot comp capsuleCompBlocks
        hist := r.hist.reverse, inputs := r.inputs.reverse, hbs := l.rdn.hbHist, beacons := l.rdn.bcHist
        journal := l.rdn.journal.take 128 }
    let l := { l with bbx := { r with caps := Sparse.set {} r.caps k c, serial := r.serial + 1, frozeAt := clk
                                      win := some (k, clk + l.rd Reg.BBX_CFG.POST_MS * 100000) } }
    ((((l.wr Reg.BBX_STAT.WINDOW 1).wr Reg.BBX_STAT.OPEN (k - 1)).wr Reg.BBX_STAT.COMMIT 1).wr
      (Reg.BBX_CAP_STAT.STATE (k - 1)) 0).wr (Reg.BBX_CAP_STAT.FIRST (k - 1)) (bit (k == 1))

/-- A record that the open post-trigger window takes: up to 1,024 in the section, the rest counted (R406, R407). -/
def Capsule.take (c : Capsule) (e : Evt) : Capsule :=
  let c := if e.sev = sevSafety then { c with safetyCnt := c.safetyCnt + 1 } else c
  if c.post.length < 1024 then { c with post := c.post ++ [e] } else { c with postLost := c.postLost + 1 }

/-! ### The paths after coalescing (R404) -/

/-- The history of the latest 1,024 records and the section of the open window take a record (R406). -/
def Lane.note (l : Lane) (e : Evt) : Lane :=
  let caps := match l.bbx.win with
    | some (k, _) => Sparse.upd {} l.bbx.caps k (·.take e)
    | none => l.bbx.caps
  { l with bbx := { l.bbx with hist := (e :: l.bbx.hist).take 1024, caps := caps } }

/-- Admission: SAFETY always, the others while their token bucket is not used up (R404). -/
def Lane.admits (l : Lane) (e : Evt) : Bool :=
  e.sev == sevSafety || decide (Sparse.get 0 l.bbx.used e.sev < l.rd (Reg.BBX_RATE.DEPTH e.sev))

/-- A record takes its token, or counts as refused (R404). -/
def Lane.spend (l : Lane) (e : Evt) : Lane :=
  if e.sev = sevSafety then l
  else if l.admits e then { l with bbx := { l.bbx with used := Sparse.upd 0 l.bbx.used e.sev (· + 1) } }
  else l.inc (Reg.BBX_DROP.RATE (e.sev % 4))

/-- The journal takes SAFETY and FAULT records and admitted DIAG ones; a refused DIAG one counts for its marker (R404). -/
def Lane.toJournal (l : Lane) (clk : Nat) (e : Evt) (adm : Bool) : Lane :=
  if e.sev = sevTrace then l
  else if e.sev ≤ sevFault || adm then l.journalEvt clk e
  else { l with bbx := { l.bbx with jrnGap := Sparse.upd 0 l.bbx.jrnGap e.sev (· + 1) } }

/-- The rings take an admitted record: TRACE in TRCQ, the others in EVTQ (R404). -/
def Lane.toRings (l : Lane) (e : Evt) (adm : Bool) : Lane :=
  if adm then l.holdEvt (if e.sev = sevTrace then 2 else 0) e else l.rateEvt (if e.sev = sevTrace then 2 else 0)

/-- The fabric path, while enabled, takes an admitted record; a refused one counts for its marker (R404, R405). -/
def Lane.toFabric (l : Lane) (e : Evt) (adm : Bool) : Lane :=
  if l.flag Reg.BBX_FAB.EN then
    if adm then (l.fabEvt e).fabStat else { l with bbx := { l.bbx with fabRate := Sparse.upd 0 l.bbx.fabRate e.sev (· + 1) } }
  else l

/-- A record of a lane passed on to its paths (R404): history, post-trigger section, admission by the token bucket,
journal, rings and fabric; then the freeze of R407. -/
def Lane.pass (l : Lane) (clk : Nat) (comp : RegMap) (e : Evt) : Lane :=
  let adm := l.admits e
  let r := ((((l.note e).spend e).toJournal clk e adm).toRings e adm).toFabric e adm
  if e.sev == sevSafety && l.bbx.win.isNone then r.freeze clk comp e else r

/-! ### Coalescing (R403) -/

/-- The EVT_REPEAT record of a group that closes with a count (R403). -/
def repeatEvt (g : Evt × Nat) : Evt :=
  { g.1 with time := g.1.time + 100000, id := 112, data := g.1.id * 2 ^ 24 + min g.2 (2 ^ 24 - 1) }

/-- The coalescing groups whose window has ended at lane time `now` are closed, each with its EVT_REPEAT record (R403). -/
def Lane.closeGroups (l : Lane) (clk : Nat) (comp : RegMap) (now : Nat) : Lane :=
  let done := l.bbx.groups.filter (fun g => g.1.time + 100000 ≤ now)
  let l := { l with bbx := { l.bbx with groups := l.bbx.groups.filter (fun g => now < g.1.time + 100000) } }
  let l := (done.filter (fun g => g.2 ≠ 0)).foldl (fun l g => l.pass clk comp (repeatEvt g)) l
  l.wr Reg.BBX_STAT.GROUPS l.bbx.groups.length

/-- A record offered to coalescing: counted in its open group, or passed on, opening a group while fewer than 32 are
open (R403). -/
def Lane.coalesce (l : Lane) (clk : Nat) (comp : RegMap) (e : Evt) : Lane :=
  let same := fun (g : Evt × Nat) => g.1.id == e.id && g.1.lane == e.lane && g.1.data == e.data &&
    decide (e.time < g.1.time + 100000)
  if l.bbx.groups.any same then
    { l with bbx := { l.bbx with groups := l.bbx.groups.map (fun g => if same g then (g.1, g.2 + 1) else g) } }
  else
    let l := if l.bbx.groups.length < 32 then { l with bbx := { l.bbx with groups := l.bbx.groups ++ [(e, 0)] } } else l
    (l.wr Reg.BBX_STAT.GROUPS l.bbx.groups.length).pass clk comp e

/-! ### Raising (R443 to R447) -/

/-- The event registers after a record is raised: latest record, its severity, the count and the seen bit. -/
def Lane.evtRegs (l : Lane) (e : Evt) : Lane :=
  let l := ((l.wr Reg.EVT_STAT.LAST_ID e.id).wr Reg.EVT_STAT.LAST_SEV e.sev).inc (Reg.EVT_CNT.COUNT (e.sev % 4))
  let l := [0, 1, 2, 3].foldl (fun l i => l.wr (Reg.EVT_LAST.WORD i) (leNat e.bytes / 2 ^ (32 * i))) l
  if e.id < 128 then l.wr (Reg.EVT_SEEN.SEEN (e.id / 32) (e.id % 32)) 1 else l

/-- The register map of a lane's adopted companion; empty where there is none. -/
def Dev.compRegs (d : Dev) (l : LaneId) : RegMap :=
  match d.adopted l with
  | some c => (d.comp c).regs
  | none => []

/-- The power state becomes `st` in every powered lane's PWR_STATE (R357). -/
def Dev.setPower (d : Dev) (st : Nat) : Dev :=
  ({ d with pwr := { d.pwr with state := st } }).each (allLanes.filter (fun l => (d.lane l).powered))
    (fun d l => d.wrL l Reg.PWR_STATE.STATE st)

/-- A return from DOZE to RUN (R361, R369): its source in PWR_WAKE_STAT, and PWM and measurement restart. -/
def Dev.wakeDoze (d : Dev) (src addr : Nat) : Dev :=
  if d.pwr.state = 2 then
    let d := d.setPower 0
    let d := d.each (allLanes.filter (fun l => (d.lane l).powered)) (fun d l => d.modLane l (fun x =>
      (x.wr Reg.PWR_WAKE_STAT.SRC src).wr Reg.PWR_WAKE_STAT.ADDR addr))
    d.each allComps (fun d c => d.modComp c (fun x => { x with b0 := { x.b0 with restartAt := d.clk }
                                                               b1 := { x.b1 with restartAt := d.clk } }))
  else d

/-- The part after a powered lane records an event that is already made up; a SAFETY or FAULT event ends DOZE (R369). -/
def Dev.record (d : Dev) (l : LaneId) (e : Evt) : Dev :=
  let x := d.lane l
  if x.powered then
    let comp := d.compRegs l
    let d := d.setLane l (((x.evtRegs e).closeGroups d.clk comp (d.laneTime l).1).coalesce d.clk comp e)
    if e.sev ≤ sevFault then d.wakeDoze 6 0 else d
  else d

/-- The part after a lane raises an event (R443, R444): only a powered lane records one. -/
def Dev.raise (d : Dev) (l : LaneId) (id sev data : Nat) : Dev :=
  let t := d.laneTime l
  d.record l { time := t.1, id := id, lane := laneIdx l, sev := sev, approx := t.2, epoch := (d.lane l).epoch
               data := data }

/-- The common part of the data of companion events (R446). -/
def commonPart (c : CompId) (b : Bool) : Nat := compIdx c * 2 ^ 30 + bit b * 2 ^ 29

/-- The part after a companion raises an event: in the lane that drives it, or held for the next one that adopts it, up
to 16 records, keeping the oldest (R444). -/
def Dev.raiseC (d : Dev) (c : CompId) (b : Bool) (id sev data : Nat) : Dev :=
  let x := d.comp c
  let w := commonPart c b + data
  match d.driver c with
  | some l =>
    d.record l { time := x.tcorr, id := id, lane := laneIdx l, sev := sev, approx := false
                 epoch := (d.lane l).epoch, data := w }
  | none =>
    if x.evq.length < 16 then
      let e : Evt := { time := x.tcorr, id := id, lane := 0, sev := sev, approx := false, epoch := 0, data := w }
      d.setComp c ({ x with evq := x.evq ++ [e] }.wr Reg.CMPS_EVQ.HELD (x.evq.length + 1))
    else d.setComp c ({ x with evLost := x.evLost + 1 }.inc Reg.CMPS_EVQ.LOST)

/-- The part after a companion delivers its held records to the lane that now drives it, followed by an EVT_GAP record
that counts those it could not hold (R444). -/
def Dev.deliverHeld (d : Dev) (c : CompId) : Dev :=
  match d.driver c with
  | none => d
  | some l =>
    if (d.lane l).powered then
      let x := d.comp c
      let d := d.setComp c ({ x with evq := [], evLost := 0 }.wr Reg.CMPS_EVQ.HELD 0)
      let d := x.evq.foldl (fun d e => d.record l { e with lane := laneIdx l, epoch := (d.lane l).epoch }) d
      if x.evLost = 0 then d
      else
        (d.raise l 113 sevDiag (1 * 2 ^ 24 + min x.evLost (2 ^ 24 - 1))).wrL l Reg.EVT_STAT.COMP_GAP 1
    else d

/-- The part after the witness raises an event: it reaches the recorder of the recovery master over path Y. -/
def Dev.raiseW (d : Dev) (id sev data : Nat) : Dev :=
  match d.master with
  | some l => d.raise l id sev data
  | none => d

/-- The part after every powered lane raises an event. -/
def Dev.raiseAll (d : Dev) (id sev data : Nat) : Dev := d.each allLanes (fun d l => d.raise l id sev data)

/-- A lane that has still to raise TIME_DISCONT of the latest start does so once it can record it (R373). -/
def Dev.discont (d : Dev) (l : LaneId) : Dev :=
  if d.pwr.discont.contains l then
    ({ d with pwr := { d.pwr with discont := d.pwr.discont.erase l } }).raise l 109 sevFault (d.wit.rd Reg.WIT_EPOCH.EPOCH)
  else d

end Sys2Proof.Machine
end

