-- ==== Sys2Proof/Machine/Settle.lean ====
section
/-!
DEFINITION. What follows at once from a companion's inputs, whatever command changed them (R136, R205, R299): whether a bridge
drives, the state of the holding-brake outputs, and the serving lane of the host rings.
-/
namespace Sys2Proof.Machine

/-- The level of the device that a companion acts on (R205): the witness's while it runs, else the best of the active
lanes. -/
def Dev.level (d : Dev) : Nat :=
  if d.wit.powered then d.wit.rd Reg.WIT_STAT.DL
  else (d.actives.map (fun l => (d.lane l).rd Reg.RDN_STAT.DL)).foldl min 4

/-- Gates off by the release check (R17). -/
def offFld (b : Bool) : Fld := if b then Reg.CMPS_REL.OFF_B2 else Reg.CMPS_REL.OFF_B1

/-- A supply condition of R136 stands at a bridge, the companion's overtemperature included (R461). -/
def Comp.supplyBad (x : Comp) (b : Bool) : Bool :=
  x.flag (Reg.GDV_STAT.VDRV_UV (bit b)) || x.flag (Reg.GDV_STAT.VBR_UV (bit b)) || x.flag (Reg.GDV_STAT.VBR_OV (bit b)) ||
    x.overtemp

/-- A latched fault or the lockout keeps a bridge off (R137, R138). -/
def Comp.faulted (x : Comp) (b : Bool) : Bool :=
  x.flag (Reg.GDV_STAT.DESAT (bit b)) || x.flag (Reg.GDV_STAT.HWOC (bit b)) || x.flag (Reg.GDV_STAT.LOCKOUT (bit b))

/-- The bridge drives its gates (R14, R17, R135 to R137, R148, R357, R366): the PWM unit runs with ENABLE = 1 in force and
nothing of R136 holds it off. -/
def Dev.driving (d : Dev) (c : CompId) (b : Bool) : Bool :=
  let x := d.comp c
  let y := x.bridge b
  x.powered && x.running && x.flag (Reg.PWM_CFG.EN (bit b)) && y.live.enable && !y.cut && !y.waitRel && !x.faulted b &&
    !x.supplyBad b && !x.flag (offFld b) && (d.driver c).isSome && d.level != 4 && decide (d.pwr.state ≤ 1) &&
    !hasBit x.pads 1

/-- The instant since which all six gates of a bridge are off without a break (R162), and that at which it began to drive
them (R132). -/
def Dev.noteGates (d : Dev) (c : CompId) (b : Bool) : Dev :=
  let g := d.driving c b
  d.modComp c (fun x => x.modBridge b (fun y =>
    { y with gatesOffAt := if g then none else some (y.gatesOffAt.getD d.clk)
             onFrom := if g && y.gatesOffAt.isSome then x.tcorr32 else y.onFrom }))

/-! ### Holding-brake outputs (R15, R203 to R206) -/

/-- Holding-brake output `j` of a companion. -/
def Comp.out (x : Comp) (j : Nat) : SbcOut := Sparse.get ({} : SbcOut) x.sbc j

/-- The companion with one holding-brake output changed. -/
def Comp.modOut (x : Comp) (j : Nat) (f : SbcOut → SbcOut) : Comp :=
  { x with sbc := Sparse.set ({} : SbcOut) x.sbc j (f (x.out j)) }

/-- The witness has lane D starting for a companion (R205), or the loss being decided starts it (R290). -/
def Dev.dStarting (d : Dev) (c : CompId) : Bool :=
  d.wit.dueD == some c || match d.wit.bring with
  | some b => b.target == some c
  | none => false

/-- A linked input demands the application of output `j` (R200). -/
def Comp.linked (x : Comp) (j : Nat) : Bool :=
  (List.range 8).any (fun i => x.flag (Reg.SIO_STAT.DEMAND i) && hasBit (x.rd (Reg.SIO_IN_CFG.SBC_LINK i)) j)

/-- The row of R205 that holds for output `j`. A state held for lane D counts under row 3, as CMPS_SW.HOLD shows it, while lane
D drives (R206, R209). -/
def Dev.sbcRow (d : Dev) (c : CompId) (j : Nat) : Nat :=
  let x := d.comp c
  if !x.powered || hasBit x.pads 2 || decide (3 ≤ d.pwr.state) || !x.flag (Reg.SBC_CFG.EN j) || x.flag (Reg.SBC_STAT.FAULT j)
  then 1
  else if x.linked j then 2
  else if (x.hoRun && !x.holdExp) || (x.sw == .primary && x.quarP && d.dStarting c) ||
      (x.sw == .spare && !x.quarS && (x.out j).keepHeld) then 3
  else if x.sw == .opened || (x.sw == .primary && x.quarP) || (x.sw == .spare && x.quarS) || d.level == 4 then 4
  else 5

/-- The state that a row of R205 gives output `j`. -/
def Comp.sbcNew (x : Comp) (row j : Nat) : Nat :=
  let o := x.out j
  if row ≤ 2 then 0
  else if row = 3 then o.state
  else if row = 4 then (if x.flag (Reg.SBC_CFG.FAIL j) then o.state else 0)
  else o.req

/-- The cause that a row of R205 reports (R209). -/
def sbcCause (row : Nat) : Nat :=
  if row = 1 then 3 else if row = 2 then 2 else if row ≤ 4 then 1 else 0

/-- An output goes to a state (R203, R204, R207): pull-in runs on coming from APPLIED only, and APPLIED ends a test. -/
def SbcOut.goTo (o : SbcOut) (st clk : Nat) : SbcOut :=
  if st = o.state then o
  else if st = 0 then { o with state := 0, pullAt := none, chopping := false, dark := none, appAt := clk }
  else if st = 1 then { o with state := 1, pullAt := none, chopping := false, relAt := clk, onAt := clk }
  else if o.state = 0 then { o with state := st, pullAt := some clk, chopping := false, relAt := clk, onAt := clk }
  else { o with state := st, pullAt := none, chopping := true, relAt := clk }

/-- One output follows R205, with SBC_STAT. -/
def Dev.settleOut (d : Dev) (c : CompId) (j : Nat) : Dev :=
  let row := d.sbcRow c j
  d.modComp c (fun x =>
    let st := x.sbcNew row j
    ((x.modOut j (·.goTo st d.clk)).wr (Reg.SBC_STAT.STATE j) st).wr
      (Reg.SBC_STAT.CAUSE j) (sbcCause row))

/-- CMPS_SW.HOLD and its copy in the witness: row 3 holds, or lane D has not yet asked for a change (R206). -/
def Dev.settleHold (d : Dev) (c : CompId) : Dev :=
  let h := [0, 1].any (fun j => d.sbcRow c j == 3 || ((d.comp c).out j).keepHeld)
  let d := d.wrC c Reg.CMPS_SW.HOLD (bit h)
  if d.wit.powered then d.modWit (·.wr (Reg.WIT_SW.HOLD (compIdx c)) (bit h)) else d

/-- A companion's gates and holding-brake outputs settle after a change of their inputs. -/
def Dev.settleComp (d : Dev) (c : CompId) : Dev :=
  if (d.comp c).powered then
    (((((d.noteGates c false).noteGates c true).settleOut c 0).settleOut c 1).settleHold c)
  else d

/-! ### Serving (R299, R313) -/

/-- The serving lane (R299). -/
def Dev.servingLane (d : Dev) : Option LaneId :=
  match d.master with
  | some l => some l
  | none =>
    match allLanes.find? (fun l => (d.lane l).powered && (d.lane l).st == .active) with
    | some l => some l
    | none => allLanes.find? (fun l => (d.lane l).powered && ((d.lane l).st == .ready || (d.lane l).st == .minimal) &&
        (d.lane l).rd Reg.JLF_START_STAT.PHASE == 5)

/-- A lane in a state in which its ring engine keeps requests outstanding (R313). -/
def Lane.ringState (x : Lane) : Bool := x.st == .active || x.st == .ready || x.st == .minimal

/-- A lane that leaves ACTIVE, READY or MINIMAL abandons its requests (R313). -/
def Lane.abandon (x : Lane) : Lane :=
  if x.ringState || (x.ring.out.isEmpty && x.ring.wait.isEmpty) then x
  else { x with ring := { x.ring with out := [], wait := [] } }.wr Reg.RWP_STAT.OUT 0

/-- A passed power request, or one that is being voted on, of a lane that ceases to serve is abandoned. -/
def Dev.dropPower (d : Dev) (l : LaneId) : Dev :=
  let p := d.pwr
  let passed := match p.passed with
    | some v => if v.2.1 = l then none else p.passed
    | none => none
  if p.vote.any (fun v => v.lane == l) then
    ({ d with pwr := { p with passed := passed, vote := none } }).modLane l (fun x =>
      (x.wr Reg.PWR_STATE.REQ 7).wr Reg.PWR_STATE.VOTING 0)
  else { d with pwr := { p with passed := passed } }

/-- A request that only the serving lane makes (R298): a fetch, or a write to a command ring or CPLQ. -/
def Req.ofServing (q : Req) : Bool :=
  match q.what with
  | .rca => false
  | .fetch _ _ _ => true
  | .desc r _ => decide (r ≤ 4)
  | .devWord r _ => decide (r ≤ 4)

/-- A ring engine that begins or ceases to serve (R298, R299): what it has fetched and not yet completed is dropped, and so
are the requests that belong to the serving lane. -/
def RingEng.join (r : RingEng) (on : Bool) : RingEng :=
  { r with joining := on, cmds := [], app := none, power := none, regsRd := none
           due := r.due.map (fun u => { u with cmd := none }), expect := [], fetched := [], cpls := []
           out := r.out.filter (fun q => !q.ofServing), wait := r.wait.filter (fun q => !q.ofServing)
           uncov := r.uncov.filter (fun q => !q.ofServing), redo := Sparse.del r.redo 4 }

/-- RNG_STAT.SERVING of a lane follows the serving lane. -/
def Dev.serveLane (d : Dev) (l : LaneId) (on : Bool) : Dev :=
  if (d.lane l).flag Reg.RNG_STAT.SERVING = on then d
  else (d.dropPower l).modLane l (fun x =>
    ({ x with ring := x.ring.join on }.wr Reg.RNG_STAT.SERVING (bit on)).wr Reg.RWP_STAT.OUT (x.ring.join on).out.length)

/-- RNG_STAT.SERVING of every powered lane; a lane that begins to serve resumes from the RCA (R299, R325). -/
def Dev.serving (d : Dev) : Dev :=
  let s := d.servingLane
  d.each (allLanes.filter (fun l => (d.lane l).powered)) (fun d l =>
    (d.modLane l Lane.abandon).serveLane l (s == some l && (d.lane l).flag Reg.RNG_CFG.EN))

/-- Every companion settles, and the serving lane is shown. -/
def Dev.settle (d : Dev) : Dev := (d.each allComps Dev.settleComp).serving

end Sys2Proof.Machine
end

