-- ==== Sys2Proof/Machine/Recovery.lean ====
section
/-!
DEFINITION. Lane states, levels, winding masks, the journal and the common actions of a decided loss (R30 to R36, R144,
R148, R260 to R287), shared by every command that can lose a lane.
-/
namespace Sys2Proof.Machine

/-! ### Candidates and legality (R99, R104, R326) -/

/-- The candidates of a lane that hold a run. -/
def Engine.live (e : Engine) : List Nat := (List.range 4).filter (fun k => !(Sparse.get {} e.banks k).empty)

/-- A lane with some candidates squashed: their banks, store buffers and staged results are gone and SQUASH counts
each (R104, R105). -/
def Lane.squash (l : Lane) (ks : List Nat) : Lane :=
  let gone := ks.filter (fun k => l.eng.live.contains k)
  let banks := gone.foldl (fun b k => Sparse.del b k) l.eng.banks
  let l := { l with regs := l.regs.addSat (Reg.CHE_SPEC_CNT.COUNT 5) gone.length, eng := { l.eng with banks := banks } }
  gone.foldl (fun l k => (l.wr (Reg.CHE_SPEC_STAT.BUSY k) 0).wr (Reg.CHE_SPEC_STAT.STAGED k) 0) l

/-- The part with some candidates of a lane squashed, in its companion too. -/
def Dev.squash (d : Dev) (l : LaneId) (ks : List Nat) : Dev :=
  let d := d.modLane l (·.squash ks)
  match d.adopted l with
  | some c => d.modComp c (fun x => { x with lower := { x.lower with
      staged := ks.foldl (fun m k => Sparse.del m k) x.lower.staged } })
  | none => d

/-- A window ends with the candidate values the companion held: a non-empty candidate below the depth in force that was
not staged counts against the depth (R89, R97). A window that a later seal restarts under R95 counts as a window of its
own (DESIGN CHOICE, log 111). -/
def Lane.closeWin (l : Lane) (vals : Sp Dword) : Lane :=
  if l.eng.winOpen then
    let all := vals.all (fun kv => decide (l.eng.depth ≤ kv.1) || (Sparse.get {} l.eng.banks kv.1).staged)
    { l with eng := { l.eng with winOpen := false, wStaged := l.eng.wStaged && all } }
  else l

/-- The candidate values that a lane's companion holds (R91). -/
def Dev.candVals (d : Dev) (l : LaneId) : Sp Dword :=
  match d.adopted l with
  | some c => (d.comp c).lower.candVal
  | none => []

/-- The window of a lane ends. -/
def Dev.closeWin (d : Dev) (l : LaneId) : Dev := d.modLane l (·.closeWin (d.candVals l))

/-- The part with every candidate of a lane squashed, its values withdrawn from the companion (R104). -/
def Dev.squashAll (d : Dev) (l : LaneId) : Dev :=
  let d := (d.closeWin l).squash l [0, 1, 2, 3]
  let d := d.modLane l (fun x => { x with eng := { x.eng with picked := none } })
  match d.adopted l with
  | some c => d.modComp c (fun x => { x with lower := { x.lower with candVal := [], candDepth := 0 } })
  | none => d

/-- The setpoint classes legal for a lane's companion: DRIVE and SAFE_STOP at DL0 to DL2, SAFE_STOP alone at DL3, none
unless the lane is ACTIVE (R326). -/
def Lane.legalClasses (l : Lane) : List Nat :=
  if l.st = .active then
    if l.rd Reg.RDN_STAT.DL ≤ 2 then [1, 2] else if l.rd Reg.RDN_STAT.DL = 3 then [2] else []
  else []

/-- A lane marks the legal setpoint classes in the companion it drives (R99, R326). -/
def Dev.markLegal (d : Dev) (l : LaneId) : Dev :=
  match d.adopted l with
  | some c => d.modComp c (fun x => { x with lower := { x.lower with legal := (d.lane l).legalClasses } })
  | none => d

/-- A stream whose run has ended: every held group is released (R59, R62). -/
def Half.clear (h : Half) : Half := { h with run := none, locks := [], beats := 0, ended := [] }

/-- A half-engine on which every activation of a task without SAFESTOP has ended (R73). -/
def Half.onlySafe (h : Half) (safe : Nat → Bool) : Half :=
  match h.run with
  | some r =>
    if safe r.task then { h with ready := h.ready.filter (fun x => safe x.task) }
    else { h.clear with ready := h.ready.filter (fun x => safe x.task) }
  | none => { h with ready := h.ready.filter (fun x => safe x.task) }

/-- A lane on which DL3 has been decided (R73): tasks with SAFESTOP = 0 end without release. -/
def Lane.nightTasks (l : Lane) : Lane :=
  let safe := fun n => l.flag (Reg.CHE_TASK_CFG.SAFESTOP n)
  { l with eng := { l.eng with h0 := l.eng.h0.onlySafe safe, h1 := l.eng.h1.onlySafe safe } }

/-! ### States as the lanes and the witness see them -/

/-- A lane's view of lane `i` (R260), with its READY bit (R393). -/
def Lane.see (l : Lane) (i code : Nat) : Lane :=
  (l.wr (Reg.RDN_STAT.LSTATE i) code).wr (Reg.LCTL_STATUS.READY i) (bit (code == 4 || code == 5))

/-- A lane enters a state: its own registers show it. -/
def Dev.setSt (d : Dev) (l : LaneId) (st : LaneSt) : Dev :=
  let d := d.modLane l (fun x => (({ x with st := st }.wr Reg.LCTL_STATUS.STATE (laneStCode st)).see (laneIdx l)
    (laneStCode st)))
  d.markLegal l

/-- The witness's decided state of a lane, and the view of every powered lane that is not witnessless. -/
def Dev.decideState (d : Dev) (l : LaneId) (code : Nat) : Dev :=
  let d := if d.wit.powered then d.modWit (·.wr (Reg.WIT_STAT.LSTATE (laneIdx l)) code) else d
  d.each allLanes (fun d r => if (d.lane r).powered && !(d.lane r).flag Reg.RDN_STAT.WITNESSLESS then
    d.modLane r (·.see (laneIdx l) code) else d)

/-- A cause of the transmit guardian begins or ends (R229): the start of a block counts and raises JLF_GUARD. -/
def Dev.guard (d : Dev) (c : CompId) (cause : Nat) (on : Bool) : Dev :=
  let old := (d.comp c).rd Reg.JMC_GUARD.CAUSE
  let new := putBit old cause on
  if new = old then d
  else
    let d := d.modComp c (fun x => (x.wr Reg.JMC_GUARD.CAUSE new).wr Reg.JMC_GUARD.BLOCKED (bit (new != 0)))
    if old = 0 then (d.incC c Reg.JMC_GUARD.BLOCK_CNT).raiseC c false 66 sevFault new else d

/-- The powered lane that drives a companion's node (R18, R22). -/
def Dev.nodeLane (d : Dev) (c : CompId) : Option LaneId :=
  match d.driver c with
  | some l => if (d.lane l).powered && (d.comp c).powered then some l else none
  | none => none

/-- The fabric phase of a lane and the synchronisation state it shows (R238). -/
def Lane.phase5 (l : Lane) (phase sync : Nat) : Lane := (l.wr Reg.JLF_START_STAT.PHASE phase).wr Reg.JSY_STAT.STATE sync

/-- What follows when a switch, a quarantine or an adoption has changed: NO_COMP of every lane (R28, R448), causes 0 and 2
of the guardian of a node without a lane (R229), and phase OFF of a lane without a node (R238). -/
def Dev.noComp (d : Dev) : Dev :=
  let d := d.each allLanes (fun d l =>
    let has := match d.adopted l with
      | some c => if (d.comp c).sw = .primary then !(d.comp c).quarP else true
      | none => false
    d.wrL l Reg.LCTL_STATUS.NO_COMP (bit (!has)))
  let d := d.each (allComps.filter (fun c => (d.comp c).powered)) (fun d c =>
    if (d.nodeLane c).isSome then d.guard c 2 false else (d.guard c 2 true).guard c 0 true)
  d.each (allLanes.filter (fun l => (d.lane l).powered && !(allComps.any (fun c => d.driver c == some l))))
    (fun d l => d.modLane l (·.phase5 0 0))

/-- The companion registers that a lane reaches (R448): those of its adopted companion, unless it is a primary lane
whose port is quarantined. -/
def Dev.reaches (d : Dev) (l : LaneId) : Option CompId :=
  match d.adopted l with
  | some c => if (d.comp c).sw = .primary && (d.comp c).quarP then none else some c
  | none => none

/-! ### The journal (R284 to R286) -/

/-- A lane takes a journal record: its own copy, LOGQ, and RDN_JOURNAL (R286). -/
def Dev.takeJournal (d : Dev) (l : LaneId) (r : JRec) : Dev :=
  if (d.lane l).powered then
    let d := d.modLane l (fun x =>
      ({ x with rdn := { x.rdn with journal := (r :: x.rdn.journal).take 128 } }.wr Reg.RDN_JSEQ.JSEQ r.jseq).holdLog r)
    d.raise l 85 sevDiag (r.step + 256 * r.status + 1024 * (r.jseq % 2 ^ 22))
  else d

/-- T_corr as the companions that run hold it: the first that runs (R6). -/
def Dev.tcorrAny (d : Dev) : Nat :=
  match allComps.filter (fun c => (d.comp c).running) with
  | c :: _ => (d.comp c).tcorr
  | [] => 0

/-- One journal record written by the witness (`none`) or by a lane: to the vault while the witness runs, and to the
writing lane's own copy (R286); with its number. -/
def Dev.jwrite (d : Dev) (by_ : Option LaneId) (status step target arg : Nat) : Dev × Nat :=
  let last := if d.wit.powered then d.wit.rd Reg.WIT_JSEQ.JSEQ
    else match by_ with
      | some l => (d.lane l).rd Reg.RDN_JSEQ.JSEQ
      | none => 0
  let epoch := if d.wit.powered then d.wit.rd Reg.WIT_EPOCH.EPOCH
    else match by_ with
      | some l => (d.lane l).epoch
      | none => 0
  let r : JRec := { jseq := (last + 1) % 2 ^ 32, step := step, status := status
                    by_ := match by_ with
                      | some l => laneIdx l
                      | none => 0
                    byWit := by_.isNone, target := target, time := d.tcorrAny, arg := arg, epoch := epoch }
  let d := if d.wit.powered then
      d.modWit (fun w => { w with journal := (r :: w.journal).take 2048 }.wr Reg.WIT_JSEQ.JSEQ r.jseq)
    else d
  (match by_ with
    | some l => d.takeJournal l r
    | none => d, r.jseq)

/-- A step journalled in its three stages: BEGUN, the step, DONE (R286). -/
def Dev.jstep (d : Dev) (by_ : Option LaneId) (step target arg : Nat) (f : Dev → Dev) : Dev :=
  ((f (d.jwrite by_ 0 step target arg).1).jwrite by_ 1 step target arg).1

/-! ### Levels (R30 to R36) -/

/-- Both cross-link paths of the device are failed, as a powered lane sees it (R279). -/
def Dev.pathsFailed (d : Dev) : Bool :=
  allLanes.any (fun l => (d.lane l).powered && (d.lane l).flag Reg.XLK_STAT.PATH_X_FAIL &&
    (d.lane l).flag Reg.XLK_STAT.PATH_Y_FAIL)

/-- Lane D is available (R30, R279, R289): SPARE_COLD, latest proof passed on the vault image, witness running, image
complete, and not both cross-link paths failed. -/
def Dev.dAvail (d : Dev) : Bool :=
  d.wit.powered && d.wit.rd (Reg.WIT_STAT.LSTATE 3) == 9 && d.wit.proof == 1 && d.wit.flag Reg.WIT_VAULT.IMG_OK &&
    d.wit.image.map Setup.digest == some d.wit.proofDigest && !d.pathsFailed

/-- The level that a count of states gives, by whether lane D is available or waking (R31). -/
def countLevel (lst : Nat → Nat) (dAvail waking : Bool) : Nat :=
  let n := ((List.range 4).filter (fun i => lst i == 5)).length
  if n ≥ 3 then (if dAvail then 0 else 1)
  else if n = 2 then (if waking then 1 else 2)
  else if n = 1 then 3
  else 4

/-- The count held to the improvements R36 allows: none to DL0 once it was left, none above DL2 once reached without a
waking lane D. -/
def settleLevel (cur : Nat) (dusk : Bool) (lvl : Nat) : Nat :=
  if dusk then max 2 lvl else if 1 ≤ cur then max 1 lvl else lvl

/-- The level reached DL2 without a waking lane D (R36). -/
def duskNow (dusk waking : Bool) (lvl : Nat) : Bool := dusk || (decide (2 ≤ lvl) && !waking)

/-- Lane D counts as waking: SPARE_WAKING, or a position missing at the start decision waits for its key-on proof (R31,
R392). -/
def Dev.dWaking (d : Dev) : Bool :=
  d.wit.rd (Reg.WIT_STAT.LSTATE 3) == 10 ||
    (d.wit.keyProof && d.wit.decided && [LaneId.A, .B, .C].any (fun l => !(d.lane l).start.counted))

/-- D_AVAIL of every powered lane (R30, R272). -/
def Dev.showAvail (d : Dev) : Dev :=
  d.each (allLanes.filter (fun l => (d.lane l).powered)) (fun d l =>
    d.wrL l Reg.RDN_STAT.D_AVAIL (bit (d.dAvail && !(d.lane l).flag Reg.RDN_STAT.WITNESSLESS)))

/-- The present level of FLT_N as its stage drives it: high while the stage has supply and no request stands (R32,
R475). -/
def Wit.fltHigh (w : Wit) : Bool := w.powered && !w.fltW && (List.range 4).all (fun l => !Sparse.get false w.fltL l)

/-- The FLT_N stage after its requests changed, with WIT_FLT when the ball moved (R32). -/
def Dev.flt (d : Dev) : Dev :=
  let hi := d.wit.fltHigh
  if d.wit.rd Reg.WIT_STAT.FLT = bit hi then d
  else (d.modWit (·.wr Reg.WIT_STAT.FLT (bit hi))).raiseW 141 sevDiag (bit hi)

/-- The service flag of a lane (R33). -/
def Dev.serviceFlag (d : Dev) (l : LaneId) : Dev :=
  d.modLane l (fun x => { x with service := true }.wr Reg.RDN_STAT.SERVICE 1)

/-- A lane's level in force becomes `new`: RDN_LEVEL, the service flag from DL1 on, the squash and the task rule of
DL3, the legal classes, and in witnessless mode its request to the FLT_N stage (R31, R32, R73, R104). -/
def Dev.laneLevel (d : Dev) (l : LaneId) (new : Nat) : Dev :=
  let old := (d.lane l).rd Reg.RDN_STAT.DL
  if new = old then d
  else
    let d := d.wrL l Reg.RDN_STAT.DL new
    let d := d.raise l 81 (if old < new then sevFault else sevDiag) (new + 16 * old)
    let d := if 1 ≤ new then d.serviceFlag l else d
    let d := if new = 3 then (d.squashAll l).modLane l Lane.nightTasks else d
    let d := d.markLegal l
    if (d.lane l).flag Reg.RDN_STAT.WITNESSLESS then
      let low := decide (3 ≤ new) || d.wit.flag Reg.WIT_STAT.DEV_MINIMAL
      (d.modWit (fun w => { w with fltL := Sparse.set false w.fltL (laneIdx l) low })).flt
    else d

/-- The witness's level becomes `new`, and with it its request to the FLT_N stage. -/
def Dev.witLevel (d : Dev) (new : Nat) : Dev :=
  let d := d.modWit (fun w => { (w.wr Reg.WIT_STAT.DL new) with fltW := decide (3 ≤ new) || w.flag Reg.WIT_STAT.DEV_MINIMAL })
  d.flt

/-- A lane settles the level by its own view of the states, without lane D, which counts as consumed even while it wakes (R34,
R272, R279). -/
def Dev.ownLevel (d : Dev) (l : LaneId) : Dev :=
  let x := d.lane l
  let lst := fun i => x.rd (Reg.RDN_STAT.LSTATE i)
  let new := settleLevel (x.rd Reg.RDN_STAT.DL) x.rdn.dusk (countLevel lst false false)
  let d := d.modLane l (fun x => { x with rdn := { x.rdn with dusk := duskNow x.rdn.dusk (lst 3 == 10) new } })
  d.laneLevel l new

/-- Every redundancy manager re-evaluates the level (R34): the witness by its decided states, the lanes with it, and each
witnessless lane by its own view. -/
def Dev.reLevel (d : Dev) : Dev :=
  let lst := fun i => d.wit.rd (Reg.WIT_STAT.LSTATE i)
  let new := settleLevel (d.wit.rd Reg.WIT_STAT.DL) d.wit.dusk (countLevel lst d.dAvail d.dWaking)
  let d := if d.wit.powered then
      (d.modWit (fun w => { w with dusk := duskNow w.dusk d.dWaking new })).witLevel new
    else d
  (d.each allLanes (fun d l =>
    if !(d.lane l).powered then d
    else if (d.lane l).flag Reg.RDN_STAT.WITNESSLESS then d.ownLevel l
    else if d.wit.powered then
      (d.modLane l (fun x => { x with rdn := { x.rdn with dusk := d.wit.dusk } })).laneLevel l new
    else d)).showAvail.settle

/-! ### Winding masks (R143, R144) -/

/-- Whether a bridge of a companion is locked out. -/
def Comp.lockedOut (c : Comp) (b : Bool) : Bool := c.flag (Reg.GDV_STAT.LOCKOUT (bit b))

/-- A winding is driven (R143). -/
def Dev.winding (d : Dev) (c : CompId) (b : Bool) : Bool :=
  match d.selected c with
  | some l => (d.lane l).st == .active && !(d.comp c).lockedOut b && !((d.comp c).bridge b).joining
  | none => false

/-- A handover is in progress at a companion for motor set `b` (R145, R149). -/
def Dev.handover (d : Dev) (c : CompId) (b : Bool) : Bool := (d.comp c).hoRun || ((d.comp c).bridge b).joining

/-- The mask of motor set `b` and its handover bit (R143, R149). -/
def Dev.mask (d : Dev) (b : Bool) : Nat × Bool :=
  (bitsOf 3 (fun i => d.winding (compOf i) b), allComps.any (fun c => d.handover c b))

/-- A mask reaches a companion: the newest comes first; what no centre can latch any more is dropped (R144). -/
def Bridge.putMask (b : Bridge) (m : MaskMsg) : Bridge :=
  match b.masks with
  | x :: _ => if x.mask = m.mask ∧ x.ho = m.ho ∧ x.src = m.src then b else { b with masks := (m :: b.masks).take 16 }
  | [] => { b with masks := [m] }

/-- The mask a centre at `t` latches: the newest that was present 100 ns before (R144). -/
def Bridge.latchMask (b : Bridge) (t : Nat) : MaskMsg :=
  ((b.masks.filter (fun m => m.at_ + 10 ≤ t)).head?).getD ⟨0, 0, false, 0⟩

/-- A companion receives the masks of both sets. -/
def Dev.putMasks (d : Dev) (c : CompId) (m0 m1 : Nat × Bool) (src : Nat) : Dev :=
  d.modComp c (fun x => (x.modBridge false (·.putMask ⟨d.clk, m0.1, m0.2, src⟩)).modBridge true
    (·.putMask ⟨d.clk, m1.1, m1.2, src⟩))

/-- The masks by a witnessless lane's own view of the lane states (R144, R274): every position whose selected lane it
holds ACTIVE, whose bridge is not locked out and does not join (R138, R143). -/
def Dev.viewMask (d : Dev) (l : LaneId) (b : Bool) : Nat × Bool :=
  (bitsOf 3 (fun i => match d.selected (compOf i) with
    | some r => (d.lane l).rd (Reg.RDN_STAT.LSTATE (laneIdx r)) == 5 &&
        !(d.comp (compOf i)).lockedOut b && !((d.comp (compOf i)).bridge b).joining
    | none => false), allComps.any (fun c => d.handover c b))

/-- The masks are computed afresh and sent (R144): by the witness to all three companions, and by each active lane in
witnessless mode or UNLINKED operation to its own (R272, R274). -/
def Dev.sendMasks (d : Dev) : Dev :=
  let m0 := d.mask false
  let m1 := d.mask true
  let w := d.wit
  let same := w.rd Reg.WIT_MASK.MASK_B1 == m0.1 && w.rd Reg.WIT_MASK.MASK_B2 == m1.1 &&
    w.rd Reg.WIT_MASK.HO_B1 == bit m0.2 && w.rd Reg.WIT_MASK.HO_B2 == bit m1.2
  let d := if w.powered then
      let d := d.modWit (fun w => (((w.wr Reg.WIT_MASK.MASK_B1 m0.1).wr Reg.WIT_MASK.HO_B1 (bit m0.2)).wr
        Reg.WIT_MASK.MASK_B2 m1.1).wr Reg.WIT_MASK.HO_B2 (bit m1.2))
      let d := d.each (allComps.filter (fun c => (d.comp c).powered)) (fun d c => d.putMasks c m0 m1 0)
      if same then d else d.raiseW 135 sevTrace (m0.1 + 16 * m1.1)
    else d
  d.each (allLanes.filter (fun l => (d.lane l).st == .active && ((d.lane l).flag Reg.RDN_STAT.WITNESSLESS ||
      (d.lane l).flag Reg.RDN_STAT.UNLINKED)))
    (fun d l => match d.adopted l with
      | some c => d.putMasks c (d.viewMask l false) (d.viewMask l true) 1
      | none => d)

/-! ### Switches and quarantine (R13 to R16, R148) -/

/-- A bridge that nothing drives any more: no block held or in force. -/
def Bridge.dropOutputs (b : Bridge) : Bridge :=
  { b with held := { b.held with enable := false }, fresh := false, live := { b.live with enable := false } }

/-- The witness moves a handover switch (R13). -/
def Dev.setSw (d : Dev) (c : CompId) (p : SwPos) : Dev :=
  let d := d.modComp c (fun x =>
    (({ x with sw := p }.wr Reg.CMPS_SW.POS (swCode p)).inc Reg.CMPS_SW.CHG_CNT).wr Reg.CMPS_SW.LANE
      (if p = SwPos.spare then 3 else laneIdx (homeLane c)))
  let d := d.modWit (·.wr (Reg.WIT_SW.POS (compIdx c)) (swCode p))
  (d.raiseW 133 sevDiag (compIdx c + 4 * swCode p)).noComp.settle

/-- A companion's primary port is quarantined: its gates are off and it ignores that port (R148). -/
def Dev.quarantine (d : Dev) (c : CompId) : Dev :=
  if (d.comp c).quarP then d
  else
    let d := d.modComp c (fun x =>
      ({ x with quarP := true, b0 := x.b0.dropOutputs, b1 := x.b1.dropOutputs }).wr Reg.CMPS_SW.QUAR 1)
    let d := if d.wit.powered then d.modWit (·.wr (Reg.WIT_SW.QUAR (compIdx c)) 1) else d
    (d.raiseW 134 sevDiag (compIdx c)).noComp.settle

/-- Both ports of a companion that lane D drove are quarantined and its switch is OPEN (R150). -/
def Dev.quarantineBoth (d : Dev) (c : CompId) : Dev :=
  let d := d.quarantine c
  let d := d.modComp c (fun x => { x with quarS := true, hoRun := false, b0 := x.b0.dropOutputs, b1 := x.b1.dropOutputs })
  (d.setSw c .opened).modComp c (fun x => x.modBridge false (fun b => { b with joining := false }) |>.modBridge true
    (fun b => { b with joining := false }))

/-! ### Recovery master and lane D (R279 to R283, R290) -/

/-- The witness appoints the lowest-indexed ACTIVE lane as recovery master (R283). -/
def Dev.appoint (d : Dev) : Dev :=
  if !d.wit.powered then d
  else
    let best := (List.range 4).find? (fun i => d.wit.rd (Reg.WIT_STAT.LSTATE i) == 5)
    let same := match best with
      | some i => d.wit.flag Reg.WIT_STAT.MASTER_VALID && d.wit.rd Reg.WIT_STAT.MASTER == i
      | none => !d.wit.flag Reg.WIT_STAT.MASTER_VALID
    if same then d
    else
      let i := best.getD 0
      let d := d.modWit (fun w => { (w.wr Reg.WIT_STAT.MASTER i).wr Reg.WIT_STAT.MASTER_VALID (bit best.isSome) with
        bring := w.bring.map (fun b => { b with masterAt := d.clk, late := [] }) })
      d.raiseW 137 sevDiag (i + 4 * bit best.isSome)

/-- What a lane die keeps through a reset: its fuses and its MRAM with capsules, journal and wear record (R395). -/
def Lane.fresh (l : Lane) (cause purpose : Nat) (st : LaneSt) : Lane :=
  let x : Lane := { powered := true, st := st, fuses := l.fuses, mram := l.mram, service := false
                    bbx := { caps := l.bbx.caps, pages := l.bbx.pages, pageAge := l.bbx.pageAge, nextPg := l.bbx.nextPg
                             serial := l.bbx.serial } }
  ((x.wr Reg.LCTL_RESET_CAUSE.CAUSE cause).wr Reg.LCTL_RESET_CAUSE.PURPOSE purpose).wr Reg.LCTL_STATUS.STATE
    (laneStCode st)

/-- A lane whose start runs. -/
def Lane.inStart (l : Lane) : Bool := l.st == .boot || l.st == .calib || l.st == .selftest

/-- What is left of a lane die without power. -/
def Lane.off (l : Lane) (st : LaneSt) : Lane :=
  { powered := false, st := st, fuses := l.fuses, mram := l.mram
    bbx := { caps := l.bbx.caps, pages := l.bbx.pages, pageAge := l.bbx.pageAge, nextPg := l.bbx.nextPg
             serial := l.bbx.serial } }

/-- The witness closes lane D's power switch for a proof (1) or a bring-in (2) (R20, R261). -/
def Dev.powerD (d : Dev) (purpose : Nat) : Dev :=
  let d := d.modWit (fun w => (w.wr Reg.WIT_STAT.D_PWR 1).wr Reg.WIT_STAT.D_PURPOSE purpose)
  let st : LaneSt := if purpose = 1 then .boot else .spareWaking
  let d := d.modLane .D (fun x => { x.fresh 4 purpose st with start := { purpose := purpose, tS := some d.clk } })
  let d := d.setSt .D st
  let d := d.decideState .D (laneStCode st)
  (d.discont .D).raiseW 136 sevDiag (1 + 2 * purpose)

/-- The witness opens lane D's power switch; lane D is left in a state (R261). -/
def Dev.unpowerD (d : Dev) (st : LaneSt) : Dev :=
  let p := d.wit.rd Reg.WIT_STAT.D_PURPOSE
  let d := d.modLane .D (·.off st)
  let d := d.modWit (fun w => (w.wr Reg.WIT_STAT.D_PWR 0).wr Reg.WIT_STAT.D_PURPOSE 0)
  let d := d.decideState .D (laneStCode st)
  d.raiseW 136 sevDiag (0 + 2 * p)

/-- D_HOT in every powered lane, and RDN_XFER.PHASE of lane D with it: HOT, or complete again (R281). -/
def Dev.hot (d : Dev) (on : Bool) : Dev :=
  (d.each (allLanes.filter (fun l => (d.lane l).powered)) (fun d l => d.wrL l Reg.RDN_STAT.D_HOT (bit on))).modLane .D
    (fun x => if on then x.wr Reg.RDN_XFER.PHASE 5 else if x.rd Reg.RDN_XFER.PHASE = 5 then x.wr Reg.RDN_XFER.PHASE 4 else x)

/-- The witness will wake lane D, or give it the companion it is held hot for, when a loss is decided (R280, R281). -/
def Dev.willWakeD (d : Dev) : Bool :=
  match d.wit.bring with
  | some b => d.wit.powered && b.target.isNone && d.wit.rd (Reg.WIT_STAT.LSTATE 3) == 10
  | none => d.dAvail

/-- The witness wakes lane D for a companion, or holds it hot where there is none (R280, R281, R290). A lane D that is
already held hot takes the companion; one that is neither available nor hot stays as it is. -/
def Dev.wakeD (d : Dev) (target : Option CompId) : Dev :=
  match d.wit.bring with
  | some b =>
    if d.wit.powered && b.target.isNone && d.wit.rd (Reg.WIT_STAT.LSTATE 3) == 10 then
      match target with
      | some c => (d.modWit (fun w => { w with bring := some { b with
            target := some c, tX := b.tX.map (fun _ => d.clk) } })).hot false
      | none => d
    else d
  | none =>
    if d.dAvail then
      d.jstep none 4 3 0 (fun d =>
        let d := d.modWit (fun w => { w with bring := some { target := target, tL := d.clk, masterAt := d.clk } })
        (d.powerD 2).modLane .D (·.wr Reg.RDN_XFER.PHASE 1))
    else d

/-! ### A decided loss (R266, R277) -/

/-- The severity with which lane `r` records the loss of lane `l` (R445): SAFETY in the lost lane itself and in the
recovery master, or in the lowest-indexed other ACTIVE lane where no other master is appointed. -/
def Dev.lossSev (d : Dev) (r l : LaneId) : Nat :=
  if r = l then sevSafety
  else
    match d.master with
    | some m =>
      if m = l then (if (d.actives.filter (· ≠ l)).head? = some r then sevSafety else sevFault)
      else if m = r then sevSafety else sevFault
    | none => if (d.actives.filter (· ≠ l)).head? = some r then sevSafety else sevFault

/-- The companion position that a lane drives or, for a primary lane, belongs to. -/
def Dev.position (d : Dev) (l : LaneId) : Option CompId :=
  match d.adopted l with
  | some c => some c
  | none => homeComp l

/-- The lost lane itself: SUSPECT with its cause, candidates squashed, state code decided (R261, R262). -/
def Dev.suspect (d : Dev) (l : LaneId) (cause : Nat) : Dev :=
  let d := d.squashAll l
  let d := d.setSt l .suspect
  let d := d.modLane l (fun x => { x with rdn := { x.rdn with cause := cause, suspectAt := d.clk } })
  d.decideState l 6

/-- RDN_LOSS of a lost lane in every powered lane (R277). -/
def Dev.lossRegs (d : Dev) (l : LaneId) (cause by_ jrec : Nat) : Dev :=
  d.each (allLanes.filter (fun r => (d.lane r).powered)) (fun d r => d.modLane r (fun x =>
    ((x.wr (Reg.RDN_LOSS.CAUSE (laneIdx l)) cause).wr (Reg.RDN_LOSS.BY (laneIdx l)) by_).wr
      (Reg.RDN_LOSS.JREC (laneIdx l)) jrec))

/-- RDN_LANE_LOST in every powered lane (R277, R445). -/
def Dev.lossEvents (d : Dev) (l : LaneId) (cause by_ : Nat) : Dev :=
  let sevs := (allLanes.filter (fun r => (d.lane r).powered)).map (fun r => (r, d.lossSev r l))
  d.each sevs (fun d rs => d.raise rs.1 80 rs.2 (laneIdx l + 256 * cause + 65536 * by_))

/-- The port side of a loss (R148): the primary port quarantined; for lane D, both ports and the switch OPEN. A primary
port is quarantined without a witness only where the lost lane reports it to its companion. -/
def Dev.lossPort (d : Dev) (l : LaneId) : Dev :=
  match l with
  | .D => match d.adopted .D with
    | some c => if d.wit.powered then d.quarantineBoth c else
        d.modComp c (fun x => { x with quarS := true, b0 := x.b0.dropOutputs, b1 := x.b1.dropOutputs })
    | none => d
  | _ => match homeComp l with
    | some c => if d.wit.powered || (d.lane l).powered then d.quarantine c else d
    | none => d

/-- DEVRDY (R393): the device is ready and not MINIMAL, and two counted lanes are READY or ACTIVE with nodes in fabric
phase ACTIVE. The ball, every lane's copy, and WIT_DEVRDY when it changes. -/
def Dev.devRdy (d : Dev) : Dev :=
  let up := allLanes.filter (fun l => (d.lane l).powered && (d.lane l).start.counted &&
    ((d.lane l).st == .ready || (d.lane l).st == .active) && (d.lane l).rd Reg.JLF_START_STAT.PHASE == 5)
  let on := d.wit.readyAt.isSome && !d.wit.flag Reg.WIT_STAT.DEV_MINIMAL && decide (2 ≤ up.length)
  let d := d.each (allLanes.filter (fun l => (d.lane l).powered)) (fun d l => d.wrL l Reg.LCTL_STATUS.DEVRDY (bit on))
  if d.wit.powered && d.wit.flag Reg.WIT_STAT.DEVRDY != on then
    (d.modWit (·.wr Reg.WIT_STAT.DEVRDY (bit on))).raiseW 142 sevDiag (bit on)
  else d

/-- The loss of a lane is decided, with its cause, by the witness (1), by the lanes' majority (2) or by the lane itself
(3): the common actions of R277. The steps QUARANTINE and D_FAIL are the witness's alone (R283, R285): without it the port side
is the companion's own (R148), and no record is written. Deciding the loss of a lane that is neither ACTIVE nor waking changes nothing. -/
def Dev.decideLoss (d : Dev) (l : LaneId) (cause by_ : Nat) : Dev :=
  let st := (d.lane l).st
  if st = .active ∨ st = .ready ∨ st = .spareWaking then
    let pos := d.position l
    let who : Option LaneId := if d.wit.powered then none else (if by_ = 3 then some l else (d.actives.filter (· ≠ l)).head?)
    let wasWaking := st == .spareWaking
    let wasActive := st == .active
    let r := d.jwrite who 0 1 (laneIdx l) cause
    let d := r.1
    let d := d.lossRegs l cause by_ r.2
    let d := d.raiseW 132 sevFault (laneIdx l + 256 * cause)
    let d := d.lossEvents l cause by_
    let d := d.suspect l cause
    let d := (d.jwrite who 1 1 (laneIdx l) cause).1
    let wakes := wasActive && l != .D && d.wit.powered
    let d := if wakes && cause != 10 && d.willWakeD then d.modWit (fun w => { w with dueD := pos }) else d
    let d := if d.wit.powered then d.jstep none 2 (laneIdx l) 0 (fun d => d.lossPort l) else d.lossPort l
    let d := d.jstep who 3 (laneIdx l) 0 Dev.sendMasks
    let d := if wasWaking then
        let fail := fun (d : Dev) => ((d.modWit (fun w => { w with bring := none })).hot false).modLane .D
          (fun x => x.wr Reg.RDN_XFER.PHASE 6)
        if d.wit.powered then d.jstep none 12 3 cause fail else fail d
      else d
    let d := d.appoint
    let d := if wakes then d.wakeD (if cause = 10 then none else pos) else d
    let d := d.modWit (fun w => { w with dueD := none })
    let d := d.jstep who 13 (laneIdx l) 0 Dev.reLevel
    d.sendMasks.devRdy.settle
  else d

end Sys2Proof.Machine
end

