-- ==== Sys2Proof/Machine/Recording.lean ====
section
/-!
DEFINITION. The incident recorder's and the wear monitor's commands (R395 to R413): coalescing windows, tokens,
post-trigger windows, commits, journal pages, summaries, refresh, the wear record, the service clock and cross-link
wires.
-/
namespace Sys2Proof.Machine

/-! ### MRAM sectors (R396, R397) -/

/-- The wear record has changed and must be written within 10 ms (R398). -/
def Lane.wearDirty (l : Lane) (clk : Nat) : Lane :=
  { l with mram := { l.mram with dirty := some (l.mram.dirty.getD clk) } }

/-- A failing sector of a lane (R33, R396, R397): moved to a spare while one is left, which sets the service flag, else its
region is lost: the slot, the capsule, the journal page `page` that was accessed, the trims, or the copy of the wear
record, whose loss is reported once both are lost. -/
def Dev.mramSwap (d : Dev) (l : LaneId) (sector page : Nat) : Dev :=
  let x := d.lane l
  let left := x.rd Reg.WEAR_MRAM.SPARES_LEFT
  if left ≠ 0 then
    let d := d.modLane l (fun x =>
      let m := { x.mram with wear := { x.mram.wear with sectors := Sparse.put x.mram.wear.sectors sector (64 - left) }
                             corr := Sparse.del x.mram.corr sector }
      (((({ x with mram := m }).wr Reg.WEAR_MRAM.SPARES_LEFT (left - 1)).wr Reg.WEAR_MRAM.LAST sector).wearDirty d.clk))
    (d.raise l 116 sevDiag sector).serviceFlag l
  else if sector < 192 then
    (d.modLane l (fun x => { x with mram := { x.mram with imgLost := putBit x.mram.imgLost (sector / 96) true } })).raise l
      117 sevFault sector
  else if sector < 256 then
    let k := (sector - 192) / 16
    (d.modLane l (fun x =>
      ({ x with bbx := { x.bbx with caps := Sparse.upd {} x.bbx.caps (k + 1) (fun c => { c with state := 2 }) } }).wr
        (Reg.BBX_CAP_STAT.STATE k) 2)).raise l 117 sevFault sector
  else if sector < 448 then
    (d.modLane l (fun x => { x with
      mram := { x.mram with pageLost := Sparse.set false x.mram.pageLost page true }
      bbx := { x.bbx with pageAge := Sparse.del x.bbx.pageAge page, pages := Sparse.del x.bbx.pages page } })).raise l
      117 sevDiag sector
  else if sector < 464 then
    (d.modLane l (fun x => { x with mram := { x.mram with trimsLost := true } })).raise l 117 sevFault sector
  else if sector < 480 then
    let d := d.modLane l (fun x =>
      { x with mram := { x.mram with wearLost := putBit x.mram.wearLost ((sector - 464) / 8) true } })
    if (d.lane l).mram.wearLost = 3 then d.raise l 117 sevFault sector else d
  else d

/-- What a read of a sector leads to (R396): a swap on a two-bit correction, or on the third word corrected since the
latest refresh. -/
def Dev.mramRead (d : Dev) (l : LaneId) (sector page : Nat) (r : MramRead) : Dev :=
  match r with
  | .clean => d
  | .uncorrectable _ => d
  | .double => (d.incL l Reg.WEAR_MRAM.CORR).mramSwap l sector page
  | .single w =>
    let ws := Sparse.get [] (d.lane l).mram.corr sector
    let ws := if ws.contains w then ws else w :: ws
    let d := (d.incL l Reg.WEAR_MRAM.CORR).modLane l (fun x =>
      { x with mram := { x.mram with corr := Sparse.set [] x.mram.corr sector ws } })
    if ws.length ≥ 3 then d.mramSwap l sector page else d

/-- The words of a sector that a move leaves poisoned: those its read found uncorrectable, while the sector went to a spare
(R396). -/
def Lane.poisonWord (l : Lane) (spares sector : Nat) (r : MramRead) : Lane :=
  match r with
  | .uncorrectable w =>
    if l.rd Reg.WEAR_MRAM.SPARES_LEFT = spares then l
    else { l with mram := { l.mram with poison := (sector * 512 + w % 512) :: l.mram.poison.erase (sector * 512 + w % 512) } }
  | _ => l

/-! ### Journal pages (R408) -/

/-- The next journal page at or after `p` that is not lost, among 768 (R397, R408). -/
def Lane.nextPage (l : Lane) (p : Nat) : Option Nat :=
  ((List.range 768).map (fun i => (p + i) % 768)).find? (fun q => !Sparse.get false l.mram.pageLost q)

/-- The oldest 63 buffered journal records are written as one page (R408). -/
def Lane.writePage (l : Lane) (clk : Nat) : Lane :=
  match l.nextPage l.bbx.nextPg with
  | none => l
  | some q =>
    let r := l.bbx
    { l with bbx := { r with pages := Sparse.set [] r.pages q (r.page.take 63), page := r.page.drop 63, pageT := clk
                             pageAge := Sparse.put r.pageAge q (l.mram.wear.hours, l.epoch)
                             nextPg := (q + 1) % 768 } }

/-! ### Wear record (R398) -/

/-- The registers that reload from the wear record, by address (R435 domain LW). -/
def wearLaneAddr (a : Nat) : Bool :=
  a == 0x4000000C || a == 0x40000010 || a == 0x40003004 || (decide (0x40004100 ≤ a) && decide (a < 0x40004200)) ||
  a == 0x4000A024 || a == 0x4000D00C || a == 0x4000D010 || a == 0x4000E000 || a == 0x4000E020

/-- The companion registers that reload from the wear record of the primary lane (R453 domain CW). -/
def wearCompAddr (a : Nat) : Bool :=
  a == 0x48002010 || a == 0x48002014 || a == 0x4800300C || a == 0x4800404C

/-- The fields of a register map at the addresses a predicate names. -/
def RegMap.pick (m : RegMap) (p : Nat → Bool) : RegMap := m.filter (fun kv => p (kv.1 / 32))

/-- A field of MFE_STAT that names a failed modulator: CH_FAIL and SPARE_FAIL (R163). -/
def modFailKey (k : Nat) : Bool := decide (0x48003008 * 32 + 18 ≤ k ∧ k ≤ 0x48003008 * 32 + 25)

/-- What the wear record keeps of a companion's registers (R163, R399): the spares in use, and every modulator that has ever
failed. -/
def RegMap.compWear (m old : RegMap) : RegMap :=
  (old.filter (fun kv => modFailKey kv.1)).foldl (fun m kv => Sparse.put m kv.1 kv.2)
    (m.filter (fun kv => wearCompAddr (kv.1 / 32) || modFailKey kv.1))

/-- A register map with the fields at the addresses of a predicate taken from another map. -/
def RegMap.load (m from_ : RegMap) (p : Nat → Bool) : RegMap :=
  (from_.filter (fun kv => p (kv.1 / 32))).foldl (fun m kv => Sparse.put m kv.1 kv.2) (m.filter (fun kv => !p (kv.1 / 32)))

/-- The copy of the wear record that is written next: that of the lower generation, or the one that is left (R397, R398). -/
def Lane.wearCopy (l : Lane) : Nat :=
  if hasBit l.mram.wearLost 0 then 1
  else if hasBit l.mram.wearLost 1 then 0
  else if (Sparse.get {} l.mram.copies 0).gen ≤ (Sparse.get {} l.mram.copies 1).gen then 0 else 1

/-- The wear monitor writes the copy of the lower generation with the next generation number (R398). -/
def Lane.writeWear (l : Lane) (comp : Option RegMap) : Lane :=
  let w := { l.mram.wear with gen := l.mram.wear.gen + 1, regs := l.regs.pick wearLaneAddr
                              comp := match comp with
                                | some m => m.compWear l.mram.wear.comp
                                | none => l.mram.wear.comp }
  { l with mram := { l.mram with wear := w, copies := Sparse.put l.mram.copies l.wearCopy w, dirty := none } }

/-- The companion registers a lane's wear record holds: those of its own companion while that has power (R399). -/
def Dev.wearComp (d : Dev) (l : LaneId) : Option RegMap :=
  match homeComp l with
  | some c => if (d.comp c).powered then some (d.comp c).regs else none
  | none => none

/-- The wear record of a lane is written now. -/
def Dev.writeWear (d : Dev) (l : LaneId) : Dev := d.modLane l (·.writeWear (d.wearComp l))

/-- A new entry of a companion's spares (R399): in its primary lane's record, and while lane D drives it in lane D's
record in the vault as well. -/
def Dev.wearEntry (d : Dev) (c : CompId) : Dev :=
  let h := homeLane c
  let d := if (d.lane h).powered then d.modLane h (·.wearDirty d.clk) else d
  if (d.comp c).sw = .spare then
    d.modWit (fun w =>
      { w with wear := Sparse.put w.wear (compIdx c) ((d.comp c).regs.compWear (Sparse.get [] w.wear (compIdx c))) })
  else d

/-! ### Post-trigger windows and commits (R407 to R411) -/

/-- The window of a lane closes: the section and the header are written (R407). -/
def Lane.closeWindow (l : Lane) : Lane :=
  match l.bbx.win with
  | none => l
  | some (k, _) =>
    ({ l with bbx := { l.bbx with win := none, caps := Sparse.upd {} l.bbx.caps k (fun c =>
        { c with postClosed := true, writeHours := l.mram.wear.hours, writeEpoch := l.epoch }) } }).wr Reg.BBX_STAT.WINDOW 0

/-- The capsule that a commit runs for: frozen and its body not yet written. -/
def Recorder.committing (r : Recorder) : Option Nat :=
  [1, 2, 3, 4].find? (fun k => (Sparse.get {} r.caps k).frozen && !(Sparse.get {} r.caps k).bodyDone)

/-- The frozen part of capsule `k` is committed (R408). -/
def Lane.commit (l : Lane) (k : Nat) (holdup : Bool) : Lane :=
  let c := Sparse.get {} l.bbx.caps k
  let c := { c with state := 1, frozen := false, bodyDone := true, holdup := holdup, torn := false
                    writeHours := l.mram.wear.hours, writeEpoch := l.epoch }
  let l := { l with bbx := { l.bbx with caps := Sparse.set {} l.bbx.caps k c } }
  ((((((l.wr Reg.BBX_STAT.COMMIT 0).wr (Reg.BBX_CAP_STAT.STATE (k - 1)) 1).wr (Reg.BBX_CAP_STAT.FIRST (k - 1))
    (bit c.first)).wr (Reg.BBX_CAP_STAT.HOLDUP (k - 1)) (bit holdup)).wr (Reg.BBX_CAP_STAT.TORN (k - 1)) 0).wr
    (Reg.BBX_CAP_STAT.SUMMARY (k - 1)) 0).wr (Reg.BBX_CAP_STAT.SERIAL (k - 1)) c.serial

/-- The summary of capsule `k` of a lane reaches the vault (R411): over the lane's own path Y, or over path X by the
recovery master; not in witnessless mode. -/
def Dev.sendSummary (d : Dev) (l : LaneId) (k : Nat) : Dev :=
  let x := d.lane l
  let ownY := !x.flag Reg.XLK_STAT.PATH_Y_FAIL
  let byMaster := match d.master with
    | some m => !x.flag Reg.XLK_STAT.PATH_X_FAIL && !(d.lane m).flag Reg.XLK_STAT.PATH_Y_FAIL
    | none => false
  if d.wit.powered && !x.flag Reg.RDN_STAT.WITNESSLESS && (ownY || byMaster) then
    let s := laneIdx l * 4 + (k - 1)
    let c := Sparse.get {} x.bbx.caps k
    let c := { c with hist := c.hist.drop (c.hist.length - 112), inputs := [], hbs := [], beacons := [], journal := []
                      post := [], regs := [], compRegs := [] }
    let d := d.modWit (fun w => ((({ w with summs := Sparse.put w.summs s c }).wr (Reg.WIT_SUMM.VALID s) 1).wr
      (Reg.WIT_SUMM.RELEASED s) 0).wr (Reg.WIT_SUMM.SERIAL s) c.serial)
    d.raiseW 144 sevTrace (laneIdx l + 4 * (k - 1))
  else d

/-- A lane commits what its recorder and its wear monitor hold: frozen parts, the open capsule's header with its records so far,
the journal buffer and pending wear-record changes (R20, R410). -/
def Dev.commitAll (d : Dev) (l : LaneId) (holdup : Bool) : Dev :=
  let d := d.modLane l (fun x =>
    let x := match x.bbx.committing with
      | some k => x.commit k holdup
      | none => x
    let x := match x.bbx.win with
      | some (k, _) => { x with bbx := { x.bbx with caps := Sparse.upd {} x.bbx.caps k (fun c =>
          { c with writeHours := x.mram.wear.hours, writeEpoch := x.epoch }) } }
      | none => x
    (List.range (x.bbx.page.length / 63 + 1)).foldl (fun x _ => if x.bbx.page.isEmpty then x else x.writePage d.clk) x)
  if (d.lane l).mram.dirty.isSome then d.writeWear l else d

/-- What hold-up energy commits after a lane's supply loss, with the recorder's requests first at the arbiter (R345, R410). -/
def Dev.holdupCommit (d : Dev) (l : LaneId) : Dev := (d.wrL l (Reg.ARB_PRIO.PRIO 7) 0).commitAll l true

/-- The witness opens lane D's power switch, once lane D has committed (R20, R261). -/
def Dev.openD (d : Dev) (st : LaneSt) : Dev := (d.commitAll .D false).unpowerD st

/-- A lane in SUSPECT whose capsule is committed, or whose 2 ms have passed, enters RETIRED; lane D's power switch then
opens (R261). -/
def Dev.retire (d : Dev) (l : LaneId) (committed : Bool) : Dev :=
  if (d.lane l).st = .suspect then
    let d := (d.setSt l .retired).decideState l 7
    if l = .D && committed && d.wit.powered then d.openD .retired else d
  else if l = .D && (d.lane l).st == .retired && (d.lane l).powered && committed && d.wit.powered then d.openD .retired
  else d

/-- Chord SRAM after a change of power: a lane that lost its supply has lost its content (R360). -/
def Mems.powerLoss (m : Mems) (d d' : Dev) : Mems :=
  { a := if d.lA.powered && !d'.lA.powered then {} else m.a
    b := if d.lB.powered && !d'.lB.powered then {} else m.b
    c := if d.lC.powered && !d'.lC.powered then {} else m.c
    d := if d.lD.powered && !d'.lD.powered then {} else m.d }

/-- A command's effect on the dies that may take power from a lane. -/
def State.actP (s : State) (tm : Nat) (f : Nat → Dev → Dev) : Host.Outcome State Fault Refusal :=
  s.actM tm (fun t m d => (m.powerLoss d (f t d), f t d))

/-! ### Commands -/

/-- COALESCE_WINDOW_END (R403): the groups whose window has ended close. -/
def execCoalesceWindowEnd (tm : Nat) (l : LaneId) (s : State) : Host.Outcome State Fault Refusal :=
  s.act tm (fun _ d =>
    if (d.lane l).powered then d.modLane l (·.closeGroups d.clk (d.compRegs l) (d.laneTime l).1) else d)

/-- A bucket after one refill: RATE tokens back, never more than DEPTH (R404). -/
def Lane.refillSev (l : Lane) (c : Nat) : Lane :=
  let used := Sparse.get 0 l.bbx.used c - l.rd (Reg.BBX_RATE.RATE c)
  { l with bbx := { l.bbx with used := Sparse.set 0 l.bbx.used c used } }

/-- TOKEN_REFILL (R404): at a multiple of 100,000 ticks of lane time, once, each bucket gains RATE tokens. -/
def execTokenRefill (tm : Nat) (l : LaneId) (s : State) : Host.Outcome State Fault Refusal :=
  s.act tm (fun _ d =>
    let now := (d.laneTime l).1
    let x := d.lane l
    if x.powered && now % 100000 == 0 && x.bbx.refill != now then
      d.setLane l ((((x.refillSev 1).refillSev 2).refillSev 3) |> fun x => { x with bbx := { x.bbx with refill := now } })
    else d)

/-- POST_WINDOW_END (R407): the post-trigger window ends once POST_MS has passed. -/
def execPostWindowEnd (tm : Nat) (l : LaneId) (s : State) : Host.Outcome State Fault Refusal :=
  s.act tm (fun t d =>
    match (d.lane l).bbx.win with
    | some (_, e) => if e ≤ t then d.modLane l Lane.closeWindow else d
    | none => d)

/-- CAPSULE_COMMIT_DONE (R408, R411, R261): the capsule is COMMITTED, its summary goes to the vault, and a SUSPECT lane
enters RETIRED. -/
def execCapsuleCommitDone (tm : Nat) (l : LaneId) (s : State) : Host.Outcome State Fault Refusal :=
  s.actP tm (fun _ d =>
    match (d.lane l).bbx.committing with
    | some k => (((d.modLane l (·.commit k false)).sendSummary l k).retire l true)
    | none => d)

/-- JOURNAL_PAGE_WRITE (R408): a full page, or one whose first record is 1 s old, goes to MRAM; a page whose write fails
its verify three times moves its sector (R396). -/
def execJournalPageWrite (tm : Nat) (l : LaneId) (bad : Bool) (s : State) : Host.Outcome State Fault Refusal :=
  s.act tm (fun t d =>
    let x := d.lane l
    if x.powered && (decide (63 ≤ x.bbx.page.length) || (!x.bbx.page.isEmpty && decide (x.bbx.pageT + 100000000 ≤ t))) then
      let d := if bad then
          match x.nextPage x.bbx.nextPg with
          | some q => d.mramSwap l (256 + q / 4) q
          | none => d
        else d
      d.modLane l (·.writePage t)
    else d)

/-- SUMMARY_ACK (R411): the witness acknowledges the summary of capsule `k`. -/
def execSummaryAck (tm : Nat) (l : LaneId) (k : Nat) (s : State) : Host.Outcome State Fault Refusal :=
  s.act tm (fun _ d =>
    let x := d.lane l
    let c := Sparse.get {} x.bbx.caps k
    let v := Sparse.get {} d.wit.summs (laneIdx l * 4 + (k - 1))
    if x.powered && decide (1 ≤ k) && decide (k ≤ 4) && c.state == 1 && d.wit.powered && v.serial == c.serial then
      d.modLane l (fun x => ({ x with bbx := { x.bbx with caps := Sparse.upd {} x.bbx.caps k (fun c =>
        { c with sent := true }) } }).wr (Reg.BBX_CAP_STAT.SUMMARY (k - 1)) 1)
    else d)

/-- A lane releases its first-fault capsule, and the matching vault summary is marked (R412); a capsule marked unusable
stays so (R397). -/
def Dev.clearCapsule (d : Dev) (l : LaneId) : Dev :=
  let d := d.modLane l (fun x =>
    if (Sparse.get {} x.bbx.caps 1).state == 2 then x else
    (({ x with bbx := { x.bbx with caps := Sparse.upd {} x.bbx.caps 1 (fun c => { c with state := 0, first := false }) } }).wr
      (Reg.BBX_CAP_STAT.STATE 0) 0).wr (Reg.BBX_CAP_STAT.FIRST 0) 0)
  if d.wit.powered && d.wit.flag (Reg.WIT_SUMM.VALID (laneIdx l * 4)) then
    d.modWit (·.wr (Reg.WIT_SUMM.RELEASED (laneIdx l * 4)) 1)
  else d

/-- CLEAR_CAPSULE_FORWARD (R412): a powered lane that receives the forward sets capsule 1 to EMPTY. -/
def execClearCapsuleForward (tm : Nat) (l : LaneId) (s : State) : Host.Outcome State Fault Refusal :=
  s.act tm (fun _ d => if (d.lane l).powered then d.clearCapsule l else d)

/-! ### Refresh (R413) -/

/-- Whether an item written at service clock `h` in epoch `e` is due for a refresh (R413). -/
def WearRec.due (w : WearRec) (h e : Nat) : Bool :=
  decide (h + 43830 ≤ w.hours) || (match w.gap with
    | some g => decide (e < g)
    | none => false)

/-- The next item due: 0 to 3 capsules, 0x10 + 256 × page a journal page, 0x20 and 0x21 the slots, 0x30 the trims; with
its sectors and its first sector (R395, R413). -/
def Lane.refreshDue (l : Lane) : Option (Nat × Nat) :=
  let w := l.mram.wear
  let caps := (List.range 4).filter (fun k => (Sparse.get {} l.bbx.caps (k + 1)).state == 1 &&
    w.due (Sparse.get {} l.bbx.caps (k + 1)).writeHours (Sparse.get {} l.bbx.caps (k + 1)).writeEpoch)
  let pages := l.bbx.pageAge.filter (fun p => w.due p.2.1 p.2.2)
  let slots := [0, 1].filter (fun i => w.due (Sparse.get 0 l.mram.wroteAt i) (Sparse.get 0 l.mram.wroteEp i))
  match caps with
  | k :: _ => some (k, 16)
  | [] => match pages with
    | p :: _ => some (0x10 + 256 * p.1, 1)
    | [] => match slots with
      | i :: _ => some (0x20 + i, 96)
      | [] => if w.due (Sparse.get 0 l.mram.wroteAt 2) (Sparse.get 0 l.mram.wroteEp 2) then some (0x30, 16) else none

/-- The sector of an item that has `left` sectors to go. -/
def refreshSector (item left : Nat) : Nat :=
  if item < 4 then 192 + 16 * item + (16 - left)
  else if item % 256 = 0x10 then 256 + item / 256 / 4
  else if item = 0x20 then 96 - left
  else if item = 0x21 then 192 - left
  else 448 + (16 - left)

/-- An item whose last sector has been rewritten: its age starts anew (R413). -/
def Lane.refreshed (l : Lane) (item : Nat) : Lane :=
  let h := l.mram.wear.hours
  let l := { l with mram := { l.mram with refresh := none } }.wr Reg.BBX_STAT.REFRESH 0
  if item < 4 then { l with bbx := { l.bbx with caps := Sparse.upd {} l.bbx.caps (item + 1) (fun c =>
      { c with refreshed := true, writeHours := h, writeEpoch := l.epoch }) } }
  else if item % 256 = 0x10 then { l with bbx := { l.bbx with pageAge := Sparse.put l.bbx.pageAge (item / 256) (h, l.epoch) } }
  else
    let i := if item = 0x20 then 0 else if item = 0x21 then 1 else 2
    { l with mram := { l.mram with wroteAt := Sparse.set 0 l.mram.wroteAt i h
                                   wroteEp := Sparse.set 0 l.mram.wroteEp i l.epoch } }

/-- A lane has finished its start: READY or later. -/
def Lane.started (l : Lane) : Bool := l.st == .ready || l.st == .active

/-- REFRESH_STEP (R413, R396): one 4 KiB sector of an aged item is rewritten; the first step of an item raises
BBX_REFRESH. -/
def execRefreshStep (tm : Nat) (l : LaneId) (x : MramRead) (bad : Bool) (s : State) : Host.Outcome State Fault Refusal :=
  s.act tm (fun t d =>
    let y := d.lane l
    if y.powered && y.started && decide (y.mram.stepAt + 1000000 ≤ t) then
      let start := match y.mram.refresh with
        | some it => some (it, false)
        | none => y.refreshDue.map (fun it => (it, true))
      match start with
      | none => d
      | some ((item, left), first) =>
        let d := if first then (d.wrL l Reg.BBX_STAT.REFRESH 1).raise l 115 sevDiag (item % 256) else d
        let sec := refreshSector item left
        let spares := y.rd Reg.WEAR_MRAM.SPARES_LEFT
        let d := d.mramRead l sec (item / 256) x
        let d := if bad then d.mramSwap l sec (item / 256) else d
        let d := d.modLane l (·.poisonWord spares sec x)
        d.modLane l (fun y =>
          let y := { y with mram := { y.mram with stepAt := t, corr := Sparse.del y.mram.corr sec
                                                  refresh := some (item, left - 1) } }
          if left ≤ 1 then y.refreshed item else y)
    else d)

/-! ### Wear (R398 to R402) -/

/-- WEAR_RECORD_WRITE (R398): a changed wear record is written; a write whose verify fails three times moves its sector. -/
def execWearRecordWrite (tm : Nat) (l : LaneId) (bad : Bool) (s : State) : Host.Outcome State Fault Refusal :=
  s.act tm (fun _ d =>
    if (d.lane l).powered && (d.lane l).mram.dirty.isSome then
      (if bad then d.mramSwap l (464 + 8 * (d.lane l).wearCopy) 0 else d).writeWear l
    else d)

/-- The weighted share of one hour at a junction temperature in 1/16 °C, in 2^-20 h: 2^((Tj - 125 °C)/10 °C) (R400). -/
def hourWeight (t : Int) : Nat :=
  let x := t - 2000
  if x % 160 = 0 then
    if 0 ≤ x then 2 ^ (20 + (x / 160).toNat) else 2 ^ (20 - ((-x) / 160).toNat)
  else Config.wearShare x

/-- The service clock of a lane by one powered hour, shown in WEAR_LIFE (R400). -/
def Lane.clockHour (l : Lane) (weight : Nat) : Lane :=
  let w := { l.mram.wear with hours := l.mram.wear.hours + 1, weighted := l.mram.wear.weighted + weight }
  let l := { l with mram := { l.mram with wear := w } }
  ((l.wr Reg.WEAR_LIFE.HOURS (min w.hours (2 ^ 21 - 1))).wr Reg.WEAR_LIFE.USED
    (min (w.weighted * 1000 / (100000 * 2 ^ 20)) 1000)).wr Reg.WEAR_LIFE.GAP (bit w.gap.isSome)

/-- The junction temperature a lane takes from its companion's T_CMP, in 1/16 °C; 125 °C where none is known (R160,
R400). -/
def Dev.laneTemp (d : Dev) (l : LaneId) : Int :=
  match d.adopted l with
  | some c => (d.comp c).tCmp.getD 2000
  | none => 2000

/-- SERVICE_CLOCK_HOUR (R400, R296): one more powered hour; at 90 % of the weighted life the service flag and WEAR_LIFE,
once; the proof's age with it. -/
def execServiceClockHour (tm : Nat) (l : LaneId) (s : State) : Host.Outcome State Fault Refusal :=
  s.act tm (fun t d =>
    let x := d.lane l
    if x.powered then
      let was := x.rd Reg.WEAR_LIFE.USED
      let d := d.setLane l ((x.clockHour (hourWeight (d.laneTemp l))).wearDirty t)
      let now := (d.lane l).rd Reg.WEAR_LIFE.USED
      let d := if was < 900 ∧ 900 ≤ now then (d.serviceFlag l).raise l 118 sevDiag now else d
      let d := if (d.lane l).rd Reg.RDN_PROOF.RESULT ≠ 0 then d.incL l Reg.RDN_PROOF.AGE else d
      if (d.lane l).rd Reg.RDN_CFG.PROOF_MAX < (d.lane l).rd Reg.RDN_PROOF.AGE then d.serviceFlag l else d
    else d)

/-- A path of a lane fails, or a beacon route: XLK_STAT, the coverage event XLK_PATH and the service flag (R33, R265).
`beacon` false: heartbeats on path X (`y` false) or Y; `beacon` true: the companion route (`y` false) or path Y. -/
def Dev.pathFailed (d : Dev) (l : LaneId) (beacon y : Bool) (lanes : Nat) : Dev :=
  let d := if beacon then d else d.wrL l (if y then Reg.XLK_STAT.PATH_Y_FAIL else Reg.XLK_STAT.PATH_X_FAIL) 1
  (d.raise l 87 sevFault (bit y + 2 * bit beacon + 4 * lanes)).serviceFlag l

/-- The lanes at the ends of a path X link, in the order of XLK_WIRE.DIRECT (R402). -/
def linkEnds (link : Nat) : List LaneId :=
  match link with
  | 0 => [.A, .B] | 1 => [.B, .C] | 2 => [.A, .C] | 3 => [.D, .A] | 4 => [.D, .B] | 5 => [.D, .C]
  | n => [laneOf (n - 6)]

/-- XLK_WIRE_FAIL (R402): the spare wire of a link of the lane replaces the failed one; with the spare in use the path
fails. Links 0 to 5 are path X, 6 to 9 the hub links of path Y. -/
def execXlkWireFail (tm : Nat) (l : LaneId) (link : Nat) (s : State) : Host.Outcome State Fault Refusal :=
  s.act tm (fun t d =>
    if (d.lane l).powered && decide (link < 10) && (linkEnds link).contains l then
      let f := if link < 6 then Reg.XLK_WIRE.DIRECT link else Reg.XLK_WIRE.HUB (link - 6)
      if (d.lane l).flag f then
        d.pathFailed l false (decide (6 ≤ link)) (bitsOf 4 (fun i => (linkEnds link).any (fun e => laneIdx e == i)))
      else (((d.wrL l f 1).modLane l (·.wearDirty t)).raise l 88 sevDiag link).serviceFlag l
    else d)

end Sys2Proof.Machine
end

