-- ==== Sys2Proof/Machine/RingOps.lean ====
section
/-!
DEFINITION. The ring engine (R298 to R317, R321, R325, R328): ring geometry, requests of the remote window protocol,
descriptors, completions, doorbells, generation changes and device words.
-/
namespace Sys2Proof.Machine

/-! ### Geometry (R298 to R301) -/

/-- RNG_BASE of ring `r`, 64-byte aligned (R300). -/
def Lane.ringBase (l : Lane) (r : Nat) : Nat := l.rd (Reg.RNG_BASE_LO.ADDR r) * 64 + l.rd (Reg.RNG_BASE_HI.ADDR r) * 2 ^ 32

/-- Entries of ring `r` (R300). -/
def Lane.entries (l : Lane) (r : Nat) : Nat := 2 ^ l.rd (Reg.RNG_SIZE.LOG r)

/-- Host address of entry `idx` of ring `r`, as lane `who` sees it (R300). -/
def Lane.entryAddr (l : Lane) (who : LaneId) (r idx : Nat) : Nat :=
  l.ringBase r + (if 5 ≤ r then laneIdx who * l.entries r * 64 else 0) + idx % l.entries r * 64

/-- Host address of the ring control area. -/
def Lane.rca (l : Lane) : Nat := l.rd Reg.RNG_RCA_LO.ADDR * 128 + l.rd Reg.RNG_RCA_HI.ADDR * 2 ^ 32

/-- Slot of ring `r` in the RCA (R301). -/
def rcaSlot (who : LaneId) (r : Nat) : Nat :=
  if r ≤ 4 then r else 8 + 4 * (r - 5) + laneIdx who

/-- The phase bit of a descriptor (R304). -/
def Lane.phase (l : Lane) (r idx : Nat) : Nat := (idx / l.entries r + 1) % 2

/-- A ring is stopped (R302). -/
def Lane.stopped (l : Lane) (r : Nat) : Bool := l.flag (Reg.RNG_STAT.STOPPED r)

/-- Entries of a device-written ring that the host has freed and the device has not used (R302, R328). -/
def Lane.free (l : Lane) (r : Nat) : Nat :=
  match Sparse.look l.ring.host r with
  | some h => l.entries r - (l.rd (Reg.RNG_IDX.IDX r) + 65536 - h) % 65536
  | none => 0

/-- The rings a lane serves now (R298): the command rings and CPLQ as serving lane, its own three always. -/
def Lane.serves (l : Lane) (r : Nat) : Bool :=
  l.flag Reg.RNG_CFG.EN && (decide (5 ≤ r) || l.flag Reg.RNG_STAT.SERVING)

/-! ### Requests (R307 to R310) -/

/-- The payload of a request frame (R307): big-endian header, then DATA. -/
def Req.payload (q : Req) : List Byte :=
  let op := match q.what with
    | .rca => 1
    | .fetch _ _ _ => 1
    | .desc _ _ => 2
    | .devWord _ _ => 2
  [BitVec.ofNat 8 op, BitVec.ofNat 8 q.tag, BitVec.ofNat 8 (q.try_ % 16), 0] ++ beBytes 8 q.addr ++ beBytes 2 q.len ++
    [0, 0] ++ q.data

/-- The ring a write request belongs to; 8 for reads. -/
def Req.ring (q : Req) : Nat :=
  match q.what with
  | .rca => 8
  | .fetch _ _ _ => 8
  | .desc r _ => r
  | .devWord r _ => r

/-- An ET_RWP frame handed to the fabric for the next ET segment (R237, R308). -/
def Lane.sendEt (l : Lane) (kind node : Nat) (payload : List Byte) : Lane :=
  { l with fab := { l.fab with etq := l.fab.etq ++ [⟨kind, node, payload⟩] } }

/-- The outstanding count in RWP_STAT. -/
def Lane.outStat (l : Lane) : Lane := l.wr Reg.RWP_STAT.OUT l.ring.out.length

/-- One request is sent: it takes the next tag (R308). -/
def Lane.sendReq (l : Lane) (q : Req) : Lane :=
  let tag := l.rd Reg.RWP_STAT.NEXT_TAG
  let q := { q with tag := tag, try_ := 0, sent := l.fab.cycle }
  let l := { l with ring := { l.ring with out := l.ring.out ++ [q] } }
  ((l.sendEt 6 (l.rd Reg.RWP_CFG.HOST_NODE) q.payload).wr Reg.RWP_STAT.NEXT_TAG (tag + 1)).outStat

/-- A write that has failed holds back later writes to its ring (R310), and a stopped device-written ring is not written
(R302). -/
def Lane.blocked (l : Lane) (q : Req) : Bool :=
  q.ring != 8 && ((decide (4 ≤ q.ring) && l.stopped q.ring) ||
    l.ring.out.any (fun o => o.ring == q.ring && decide (l.rd Reg.RWP_CFG.MAX_RETRY < o.try_)))

/-- Waiting requests are sent in order while fewer than MAX_OUT are outstanding (R308, R310). -/
def Lane.pumpN : Nat → Lane → Lane
  | 0, l => l
  | n + 1, l =>
    match l.ring.wait.findIdx? (fun q => !l.blocked q) with
    | none => l
    | some i =>
      match l.ring.wait[i]? with
      | none => l
      | some q =>
        if l.ring.out.length < l.rd Reg.RWP_CFG.MAX_OUT then
          Lane.pumpN n ({ l with ring := { l.ring with wait := l.ring.wait.eraseIdx i } }.sendReq q)
        else l

/-- Waiting requests are sent as far as MAX_OUT allows. -/
def Lane.pump (l : Lane) : Lane := l.pumpN 16

/-- A request takes its place behind the waiting ones. -/
def Lane.request (l : Lane) (q : Req) : Lane := { l with ring := { l.ring with wait := l.ring.wait ++ [q] } }

/-! ### Descriptors written by the device (R303, R304, R311, R316, R317) -/

/-- A descriptor with its phase bit (R304) for a device index: byte 3 of a completion, byte 1 of the others. -/
def Lane.withPhase (l : Lane) (r idx : Nat) (raw : List Byte) : List Byte :=
  raw.set (if r = 4 then 3 else 1) (BitVec.ofNat 8 (l.phase r idx))

/-- A descriptor of 64 bytes takes the next device index of its ring and is queued for writing; while a generation change
of the ring settles, it waits with the rewritten ones (R303). -/
def Lane.putDesc (l : Lane) (who : LaneId) (r : Nat) (raw : List Byte) : Lane :=
  let idx := l.rd (Reg.RNG_IDX.IDX r)
  let q : Req := { what := .desc r idx, addr := l.entryAddr who r idx, len := 64, data := l.withPhase r idx raw
                   gen := l.rd (Reg.RNG_IDX.GEN r) }
  let l := l.wr (Reg.RNG_IDX.IDX r) (idx + 1)
  let l := { l with ring := { l.ring with uncov := l.ring.uncov ++ [q] } }
  match Sparse.look l.ring.redo r with
  | some qs => { l with ring := { l.ring with redo := Sparse.put l.ring.redo r (qs ++ [q]) } }
  | none => l.request q

/-- An EVTQ or TRCQ descriptor (R316). -/
def RingHold.evtDesc (h : RingHold) (who : LaneId) (es : List Evt) : List Byte :=
  let b := [BitVec.ofNat 8 es.length, 0, BitVec.ofNat 8 (laneIdx who), BitVec.ofNat 8 (if h.gapCnt = 0 then 0 else h.gapCause)] ++
    leBytes 4 h.dseq ++ leBytes 4 h.gapCnt ++ leBytes 4 0 ++ es.flatMap Evt.bytes
  b ++ List.replicate (64 - b.length) 0

/-- CRC-32 of IEEE 802.3 over bytes: reflected, polynomial 0xEDB88320. -/
def crc32Byte (crc : BitVec 32) (v : Byte) : BitVec 32 :=
  (List.range 8).foldl (fun c _ => if c.getLsbD 0 then (c >>> 1) ^^^ 0xEDB88320#32 else c >>> 1) (crc ^^^ v.setWidth 32)

/-- CRC-32 of IEEE 802.3. -/
def crc32 (bs : List Byte) : BitVec 32 := ~~~ (bs.foldl crc32Byte 0xFFFFFFFF#32)

/-- The 32 bytes of a journal record (R284). -/
def JRec.bytes (r : JRec) : List Byte :=
  let b := leBytes 4 r.jseq ++ leBytes 1 r.step ++ leBytes 1 r.status ++ leBytes 1 (r.by_ % 4 + 4 * bit r.byWit) ++
    leBytes 1 (r.target % 4) ++ leBytes 8 r.time ++ leBytes 4 r.arg ++ leBytes 4 r.epoch ++ leBytes 4 0
  b ++ leBytes 4 (crc32 b).toNat

/-- A LOGQ descriptor (R317). -/
def RingHold.logDesc (h : RingHold) (who : LaneId) (rs : List JRec) : List Byte :=
  let b := [BitVec.ofNat 8 rs.length, 0, BitVec.ofNat 8 (laneIdx who), BitVec.ofNat 8 (if h.gapCnt = 0 then 0 else h.gapCause)] ++
    leBytes 4 h.dseq ++ leBytes 4 h.gapCnt ++ leBytes 4 0 ++ rs.flatMap JRec.bytes
  b ++ List.replicate (64 - b.length) 0

/-- The held items of one ring of a lane: 5 EVTQ, 6 LOGQ, 7 TRCQ. -/
def Recorder.hold (b : Recorder) (r : Nat) : RingHold := if r = 5 then b.evtq else if r = 6 then b.logq else b.trcq

/-- The lane with the held items of a ring replaced. -/
def Lane.setHold (l : Lane) (r : Nat) (h : RingHold) : Lane :=
  if r = 5 then { l with bbx := { l.bbx with evtq := h } }
  else if r = 6 then { l with bbx := { l.bbx with logq := h } }
  else { l with bbx := { l.bbx with trcq := h } }

/-- Items of ring `r` cannot be written now (R302, R328): the ring is not served, stopped or full, a write to it has failed,
or the host is lost. -/
def Lane.holdsBack (l : Lane) (r : Nat) : Bool :=
  !l.serves r || l.stopped r || l.free r == 0 || l.flag Reg.RNG_STAT.HOST_LOST || l.blocked { what := .desc r 0, addr := 0, len := 64 }

/-- Held items, or a loss not yet reported, go into descriptors while items can be written (R316, R317, R328). -/
def Lane.fillRing (who : LaneId) (r : Nat) : Nat → Lane → Lane
  | 0, l => l
  | n + 1, l =>
    let h := l.bbx.hold r
    if !l.holdsBack r && (!h.evts.isEmpty || !h.recs.isEmpty || decide (0 < h.gapCnt)) then
      let raw := if r = 6 then h.logDesc who (h.recs.take 1) else h.evtDesc who (h.evts.take 3)
      let h' := { h with evts := h.evts.drop 3, recs := h.recs.drop 1, gapCnt := 0, gapCause := 0, dseq := h.dseq + 1 }
      Lane.fillRing who r n ((l.setHold r h').putDesc who r raw)
    else l

/-- The lane's own rings take what they hold. -/
def Lane.fillRings (l : Lane) (who : LaneId) : Lane :=
  (Lane.fillRing who 7 64 (Lane.fillRing who 6 64 (Lane.fillRing who 5 64 l))).pump

/-! ### Device words (R301, R311, R325) -/

/-- The least index of the descriptors of ring `r` whose write is not acknowledged; the device index where none is. -/
def Lane.ackedIdx (l : Lane) (r : Nat) : Nat :=
  let pend := (l.ring.out ++ l.ring.wait ++ Sparse.get [] l.ring.redo r).filterMap (fun q => match q.what with
    | .desc r' i => if r' = r then some i else none
    | _ => none)
  match pend with
  | [] => l.rd (Reg.RNG_IDX.IDX r)
  | i :: t => t.foldl min i

/-- The consumer index of a CMDQ that acknowledged completions cover (R325). -/
def Lane.coveredIdx (l : Lane) (n : Nat) : Nat :=
  match l.ring.cpls.filter (fun c => c.ring == n) with
  | [] => l.rd (Reg.RNG_IDX.IDX n)
  | c :: t => t.foldl (fun a x => min a x.cmdIdx) c.cmdIdx

/-- The auxiliary word of a ring's RCA slot (R301). -/
def Lane.auxWord (l : Lane) (r : Nat) : Nat :=
  if r < 4 then l.rd (Reg.RNG_LAST_SEQ.SEQ r) else if r = 4 then 0 else l.rd (Reg.RNG_GAP.COUNT (r - 5))

/-- The device word of ring `r` is written when it has moved, unless a device-written ring is stopped or a generation
change of it has yet to settle (R302, R303, R311). -/
def Lane.putWord (l : Lane) (who : LaneId) (r : Nat) : Lane :=
  let idx := if r < 4 then l.coveredIdx r else l.ackedIdx r
  let w := idx % 65536 + 65536 * l.rd (Reg.RNG_IDX.GEN r)
  if l.serves r && Sparse.get 0 l.ring.words r != w && !(decide (4 ≤ r) && l.stopped r) &&
      (Sparse.look l.ring.redo r).isNone then
    let l := { l with ring := { l.ring with words := Sparse.set 0 l.ring.words r w } }
    l.request { what := .devWord r idx, addr := l.rca + 16 * rcaSlot who r + 8, len := 8
                data := leBytes 4 w ++ leBytes 4 (l.auxWord r), gen := l.rd (Reg.RNG_IDX.GEN r) }
  else l

/-! ### Completions (R315, R324) -/

/-- Fields of a command descriptor (R314). -/
def Cmd.opcode (c : Cmd) : Nat := ((c.raw.getD 0 0)).toNat
def Cmd.flags (c : Cmd) : Nat := ((c.raw.getD 1 0)).toNat
def Cmd.seq (c : Cmd) : Nat := leNat ((c.raw.drop 4).take 4)
def Cmd.tag (c : Cmd) : List Byte := (c.raw.drop 8).take 8
def Cmd.arg (c : Cmd) (off n : Nat) : List Byte := (c.raw.drop off).take n

/-- Completion codes of R324. -/
def codeOk : Nat := 0
def codePartial : Nat := 1
def codeState : Nat := 2
def codeFormat : Nat := 3
def codeRange : Nat := 4
def codeAuth : Nat := 5
def codeBusy : Nat := 6
def codeAborted : Nat := 7
def codeLocked : Nat := 8
def codeUnsupported : Nat := 9
def codeTimeout : Nat := 10

/-- The completion of a command (R315): 64 bytes, PHASE set when it takes its index. -/
def Lane.cplBytes (l : Lane) (c : Cmd) (code time lanes aux : Nat) (result : List Byte) : List Byte :=
  [BitVec.ofNat 8 c.opcode, BitVec.ofNat 8 code, BitVec.ofNat 8 c.ring, 0] ++ leBytes 4 c.seq ++ c.tag ++ leBytes 8 time ++
    [BitVec.ofNat 8 lanes, BitVec.ofNat 8 (l.rd Reg.RDN_STAT.DL)] ++ leBytes 2 aux ++ leBytes 4 l.epoch ++
    result ++ List.replicate (32 - result.length) 0

/-- A command is consumed with a completion (R322, R324): expected CMD_SEQ, consumer index, completion and device
word. -/
def Lane.complete (l : Lane) (who : LaneId) (c : Cmd) (code time lanes aux : Nat) (result : List Byte) : Lane :=
  let l := if code = codeState then l.inc (Reg.RNG_CMDQn_STATE_REFUSED.COUNT c.ring) else l
  let same := c.gen == l.rd (Reg.RNG_IDX.GEN c.ring)
  let l := if same then
      (l.wr (Reg.RNG_IDX.IDX c.ring) (c.idx + 1)) |> fun l =>
        { l with ring := { l.ring with expect := Sparse.put l.ring.expect c.ring ((c.seq + 1) % 2 ^ 32) } }
    else l
  let idx := l.rd (Reg.RNG_IDX.IDX 4)
  let l := if same then { l with ring := { l.ring with cpls := l.ring.cpls ++ [⟨c.ring, c.idx, idx⟩] } } else l
  (l.putDesc who 4 (l.cplBytes c code time lanes aux result)).pump

/-- A completion decided now by lane `l`: APPLY_TIME is T_corr (R315). -/
def Dev.complete (d : Dev) (l : LaneId) (c : Cmd) (code lanes aux : Nat) (result : List Byte) : Dev :=
  d.modLane l (·.complete l c code (d.laneTime l).1 lanes aux result)

/-! ### Doorbells and generations (R302, R303) -/

/-- A ring of a lane stops (R302). -/
def Lane.stopRing (l : Lane) (r : Nat) : Lane := l.wr (Reg.RNG_STAT.STOPPED r) 1

/-- The descriptors of ring `r` not covered by its device word, renumbered from index 0 of a new generation (R303). -/
def Lane.renumber (l : Lane) (who : LaneId) (r gen : Nat) : List Req :=
  let old := l.ring.uncov.filter (fun q => q.ring == r)
  (old.zip (List.range old.length)).map (fun qi =>
    { qi.1 with what := .desc r qi.2, addr := l.entryAddr who r qi.2, gen := gen, data := l.withPhase r qi.2 qi.1.data })

/-- A device-written ring takes a new generation (R303): index 0, STOPPED cleared, its uncovered descriptors set aside
for rewriting from index 0. -/
def Lane.newGenOut (l : Lane) (who : LaneId) (r gen : Nat) : Lane :=
  let qs := l.renumber who r gen
  let olds := (l.ring.uncov.filter (fun q => q.ring == r)).map (fun q => match q.what with
    | .desc _ i => i
    | _ => 0)
  let remap := fun (i : Nat) => ((olds.zip (List.range olds.length)).find? (fun p => p.1 == i)).map Prod.snd
  let l := (((l.wr (Reg.RNG_IDX.GEN r) gen).wr (Reg.RNG_IDX.IDX r) qs.length).wr (Reg.RNG_STAT.STOPPED r) 0)
  let ring := { l.ring with uncov := l.ring.uncov.filter (fun q => q.ring != r) ++ qs
                            wait := l.ring.wait.filter (fun q => q.ring != r)
                            redo := Sparse.put l.ring.redo r qs
                            cpls := if r = 4 then l.ring.cpls.map (fun c => { c with idx := (remap c.idx).getD c.idx })
                              else l.ring.cpls }
  { l with ring := ring }

/-- A CMDQ takes a new generation (R303): index 0; commands fetched and not applied complete ABORTED, and no lane applies
one that was forwarded (R329). -/
def Dev.newGenCmd (d : Dev) (l : LaneId) (n gen : Nat) : Dev :=
  let x := d.lane l
  let mine := x.ring.cmds.filter (fun c => c.ring == n)
  let app := match x.ring.app with
    | some (c, _) => if c.ring = n then [c] else []
    | none => []
  let reads := match x.ring.regsRd with
    | some a => if a.cmd.ring = n then [a.cmd] else []
    | none => []
  let d := d.setLane l ({ (((x.wr (Reg.RNG_IDX.GEN n) gen).wr (Reg.RNG_IDX.IDX n) 0).wr (Reg.RNG_STAT.STOPPED n) 0) with
    ring := { x.ring with cmds := x.ring.cmds.filter (fun c => c.ring != n), app := if app.isEmpty then x.ring.app else none
                          regsRd := if reads.isEmpty then x.ring.regsRd else none
                          expect := Sparse.del x.ring.expect n, fetched := Sparse.del x.ring.fetched n
                          resume := Sparse.del x.ring.resume n
                          cpls := x.ring.cpls.filter (fun c => c.ring != n) } })
  let d := d.each allLanes (fun d o => d.modLane o (fun x =>
    { x with ring := { x.ring with fwd := x.ring.fwd.filter (fun a => !(a.src == l && a.ring == n)) } }))
  d.each (app ++ reads ++ mine) (fun d c => d.complete l c codeAborted 0 0 [])

/-- GENERATION_CHANGE (R303): RNG_GEN is raised. -/
def Dev.newGen (d : Dev) (l : LaneId) (r gen : Nat) : Dev :=
  let place := fun (i : Nat) => ((d.lane l).ring.uncov.filter (fun q => q.ring == 4)).findIdx? (fun q => q.what == .desc 4 i)
  let d := match d.pwr.passed with
    | some (t, o, i) =>
      if r = 4 ∧ o = l then { d with pwr := { d.pwr with passed := some (t, o, (place i).getD i) } } else d
    | none => d
  let d := if r < 4 then d.newGenCmd l r gen else d.modLane l (·.newGenOut l r gen)
  d.raise l 8 sevDiag (r + 65536 * gen)

/-- One host word read from the RCA (R302, R303): a new generation, an index kept, or DOORBELL_ERROR. -/
def Dev.doorbell (d : Dev) (l : LaneId) (r word : Nat) : Dev :=
  let idx := word % 65536
  let gen := word / 65536
  let d := if gen ≠ (d.lane l).rd (Reg.RNG_IDX.GEN r) then d.newGen l r gen else d
  let x := d.lane l
  let dev := x.rd (Reg.RNG_IDX.IDX r)
  let dist := if r < 4 then (idx + 65536 - dev) % 65536 else (dev + 65536 - idx) % 65536
  if x.stopped r then d
  else if x.entries r < dist then (d.modLane l (·.stopRing r)).raise l 7 sevFault (r + 65536 * idx)
  else d.modLane l (fun x => { x with ring := { x.ring with host := Sparse.put x.ring.host r idx } })

/-- The doorbells that a lane reads from the 384 bytes of the RCA (R301, R305), its own rings' always and the command
rings' as serving lane; a new serving lane first resumes from the device words (R325). -/
def Dev.doorbells (d : Dev) (l : LaneId) (data : List Byte) : Dev :=
  let word := fun (off : Nat) => leNat ((data.drop off).take 4)
  let x := d.lane l
  let d := if x.flag Reg.RNG_STAT.SERVING && x.ring.joining then
      d.setLane l ((List.range 5).foldl (fun x r =>
        let w := word (16 * rcaSlot l r + 8)
        { ((x.wr (Reg.RNG_IDX.IDX r) (w % 65536)).wr (Reg.RNG_IDX.GEN r) (w / 65536)) with
          ring := { x.ring with joining := false, resume := if r < 4 then Sparse.put x.ring.resume r true else x.ring.resume
                                words := Sparse.set 0 x.ring.words r w } }) x)
    else d
  d.each ((List.range 8).filter (fun r => (d.lane l).serves r)) (fun d r => d.doorbell l r (word (16 * rcaSlot l r)))

/-! ### Fetching (R321) -/

/-- One READ_REQ for `n` descriptors of CMDQ `r` from index `idx`, none across the ring's end (R308, R321). -/
def Lane.fetchRun (l : Lane) (who : LaneId) (r idx n : Nat) : Lane :=
  let toEnd := l.entries r - idx % l.entries r
  let a := min n toEnd
  let l := l.request { what := .fetch r idx a, addr := l.entryAddr who r idx, len := 64 * a, gen := l.rd (Reg.RNG_IDX.GEN r) }
  let l := if a < n then
      l.request { what := .fetch r ((idx + a) % 65536) (n - a), addr := l.entryAddr who r (idx + a), len := 64 * (n - a)
                  gen := l.rd (Reg.RNG_IDX.GEN r) }
    else l
  { l with ring := { l.ring with fetched := Sparse.put l.ring.fetched r ((idx + n) % 65536) } }

/-- Descriptors asked for and not yet decided. -/
def Lane.inFlight (l : Lane) : Nat :=
  l.ring.cmds.length + (if l.ring.app.isSome then 1 else 0) + (l.ring.due.filter (fun u => u.cmd.isSome)).length +
    (if l.ring.power.isSome then 1 else 0) + (if l.ring.regsRd.isSome then 1 else 0) +
    ((l.ring.out ++ l.ring.wait).map (fun q => match q.what with
      | .fetch _ _ n => n
      | _ => 0)).foldl (· + ·) 0

/-- The serving lane fetches up to BATCH descriptors, CMDQ0 first, as many as CPLQ has free entries (R321). -/
def Lane.fetch (l : Lane) (who : LaneId) : Lane :=
  if l.flag Reg.RNG_STAT.SERVING && l.flag Reg.RNG_CFG.EN && !l.stopped 4 then
    let room := min (l.rd Reg.RNG_CFG.BATCH) (l.free 4 - l.inFlight)
    ((List.range 4).foldl (fun (a : Lane × Nat) r =>
      let l := a.1
      if l.stopped r then a
      else
        let from_ := Sparse.get (l.rd (Reg.RNG_IDX.IDX r)) l.ring.fetched r
        let prod := Sparse.get from_ l.ring.host r
        let n := min a.2 ((prod + 65536 - from_) % 65536)
        if n = 0 then a else (l.fetchRun who r from_ n, a.2 - n)) (l, room)).1.pump
  else l

/-! ### Commands in hand (R321, R322, R327) -/

/-- A command of ring `n` and its present generation. -/
def Lane.ofRing (x : Lane) (n : Nat) (c : Cmd) : Bool := c.ring == n && c.gen == x.rd (Reg.RNG_IDX.GEN n)

/-- Commands of ring `n` fetched and not decided. -/
def Lane.undecided (x : Lane) (n : Nat) : Nat :=
  (x.ring.cmds.filter (x.ofRing n)).length + (x.ring.due.filter (fun u => (u.cmd.map (x.ofRing n)).getD false)).length +
    bit ((x.ring.app.map (fun a => x.ofRing n a.1)).getD false) + bit ((x.ring.power.map (x.ofRing n)).getD false) +
    bit ((x.ring.regsRd.map (fun a => x.ofRing n a.cmd)).getD false)

/-- A command of ring `n` waits for its application, its first activation, its vote or a witness access. -/
def Lane.inHand (x : Lane) (n : Nat) : Bool :=
  x.undecided n != (x.ring.cmds.filter (x.ofRing n)).length

/-- The place of the first fetched command that may be decided now and satisfies `p` (R327): the earliest of its ring,
nothing of its ring in hand, and with FENCE every command fetched before it completed and acknowledged. -/
def Lane.nextCmd (x : Lane) (p : Cmd → Bool) : Option (Nat × Cmd) :=
  (x.ring.cmds.zipIdx.find? (fun (ci : Cmd × Nat) =>
    p ci.1 && !((x.ring.cmds.take ci.2).any (fun o => o.ring == ci.1.ring)) && !x.inHand ci.1.ring &&
      (ci.1.flags % 2 == 0 || (ci.2 == 0 && x.ring.cpls.isEmpty && x.ring.app.isNone &&
        x.ring.due.all (fun u => u.cmd.isNone) && x.ring.power.isNone && x.ring.regsRd.isNone)))).map (fun ci => (ci.2, ci.1))

/-- Assigned opcodes (R319). -/
def opcodes : List Nat := [0x01, 0x02, 0x03, 0x04, 0x10, 0x11, 0x12, 0x20]

/-- A fetched command leaves the list. -/
def Lane.takeCmd (x : Lane) (i : Nat) : Lane := { x with ring := { x.ring with cmds := x.ring.cmds.eraseIdx i } }

/-- Commands with an unassigned opcode complete UNSUPPORTED as soon as their turn comes (R319, R322). -/
def Dev.drainN : Nat → Dev → LaneId → Dev
  | 0, d, _ => d
  | n + 1, d, l =>
    match (d.lane l).nextCmd (fun c => !opcodes.contains c.opcode) with
    | some (i, c) => Dev.drainN n ((d.modLane l (·.takeCmd i)).complete l c codeUnsupported 0 0 []) l
    | none => d

/-- Unassigned opcodes whose turn has come complete. -/
def Dev.drain (d : Dev) (l : LaneId) : Dev := Dev.drainN (d.lane l).ring.cmds.length d l

/-- The lanes that have applied an APP command (R315): a first activation from T_app has seen it as NEW. -/
def Dev.appliers (d : Dev) (ring seq : Nat) : Nat :=
  bitsOf 4 (fun i =>
    let x := d.lane (laneOf i)
    x.st == .active && x.rd (Reg.RNG_LAST_SEQ.SEQ ring) == seq && (Sparse.look x.ring.applyT ring).isSome)

/-- The serving lane completes the APP commands whose first activation has come, with the SAMPLE_TIME of that key (R315,
R324); the other lanes have nothing more to do with theirs. -/
def Dev.appComplete (d : Dev) (l : LaneId) : Dev :=
  let done := (d.lane l).ring.due.filter (fun u => u.key.isSome)
  let d := d.modLane l (fun x => { x with ring := { x.ring with due := x.ring.due.filter (fun u => u.key.isNone) } })
  (d.each done (fun d u => match u.cmd with
    | some c => d.modLane l (fun x => x.complete l c codeOk (u.key.getD 0) (d.appliers u.app.ring u.app.seq) 0 [])
    | none => d)).drain l

/-- What the ring engine of a lane prepares for an ET segment (R237, R316): the completion of an applied command, and
descriptors of held items. -/
def Dev.ringEt (d : Dev) (l : LaneId) : Dev :=
  if (d.lane l).ringState && (d.lane l).flag Reg.RNG_CFG.EN then (d.appComplete l).modLane l (·.fillRings l) else d

end Sys2Proof.Machine
end

