-- ==== Sys2Proof/Machine/Crypto.lean ====
section
/-!
DEFINITION. Frame authentication (R257): AES-128 and its CMAC under NIST SP 800-38B. The rule names both by reference, so
their bodies come from FIPS 197 and SP 800-38B (the log's entry on the referenced standards).
-/
namespace Sys2Proof.Machine

/-! ### The field of AES -/

/-- Multiplication by x in GF(2^8) with polynomial 0x11B. -/
def gfTimes2 (a : Byte) : Byte := if a.msb then (a <<< 1) ^^^ 0x1B#8 else a <<< 1

/-- The product of two bytes in GF(2^8). -/
def gfMul (a b : Byte) : Byte :=
  ((List.range 8).foldl (fun (acc : Byte × Byte) i =>
    (if b.getLsbD i then acc.1 ^^^ acc.2 else acc.1, gfTimes2 acc.2)) (0#8, a)).1

/-- The inverse of a byte, 0 for 0: its 254th power. -/
def gfInv (a : Byte) : Byte :=
  let a2 := gfMul a a
  let a4 := gfMul a2 a2
  let a8 := gfMul a4 a4
  let a16 := gfMul a8 a8
  let a32 := gfMul a16 a16
  let a64 := gfMul a32 a32
  let a128 := gfMul a64 a64
  gfMul a2 (gfMul a4 (gfMul a8 (gfMul a16 (gfMul a32 (gfMul a64 a128)))))

/-- The substitution box. -/
def subByte (a : Byte) : Byte :=
  let b := gfInv a
  b ^^^ b.rotateLeft 1 ^^^ b.rotateLeft 2 ^^^ b.rotateLeft 3 ^^^ b.rotateLeft 4 ^^^ 0x63#8

/-! ### AES-128 over lists of 16 bytes -/

/-- Bytes of two lists added in GF(2^8). -/
def xorBytes (a b : List Byte) : List Byte := List.zipWith (· ^^^ ·) a b

/-- One round key from the one before, with its round constant. -/
def nextKey (k : List Byte) (rc : Byte) : List Byte :=
  let word := fun i => (k.drop (4 * i)).take 4
  let last := word 3
  let rot := (last.drop 1 ++ last.take 1).map subByte
  let w0 := xorBytes (word 0) (xorBytes rot [rc, 0, 0, 0])
  let w1 := xorBytes (word 1) w0
  let w2 := xorBytes (word 2) w1
  w0 ++ w1 ++ w2 ++ xorBytes (word 3) w2

/-- The rows of the block shifted. -/
def shiftRows (s : List Byte) : List Byte :=
  (List.range 16).map (fun i => s.getD ((i + 4 * (i % 4)) % 16) 0)

/-- One column mixed. -/
def mixColumn (c : List Byte) : List Byte :=
  let x := fun i => c.getD (i % 4) 0
  (List.range 4).map (fun i => gfTimes2 (x i) ^^^ gfTimes2 (x (i + 1)) ^^^ x (i + 1) ^^^ x (i + 2) ^^^ x (i + 3))

/-- Every column of the block mixed. -/
def mixColumns (s : List Byte) : List Byte :=
  (List.range 4).flatMap (fun i => mixColumn ((s.drop (4 * i)).take 4))

/-- The round constants. -/
def roundConstants : List Byte := [0x01, 0x02, 0x04, 0x08, 0x10, 0x20, 0x40, 0x80, 0x1B, 0x36]

/-- AES-128 of one block. -/
def aes (key block : List Byte) : List Byte :=
  let step := fun (sk : List Byte × List Byte × Nat) (rc : Byte) =>
    let k := nextKey sk.2.1 rc
    let s := shiftRows (sk.1.map subByte)
    (xorBytes (if sk.2.2 = 9 then s else mixColumns s) k, k, sk.2.2 + 1)
  (roundConstants.foldl step (xorBytes block key, key, 0)).1

/-! ### CMAC -/

/-- A subkey of CMAC: the block doubled in GF(2^128). -/
def cmacDouble (b : List Byte) : List Byte :=
  let v := beNat b
  let w := v * 2 % 2 ^ 128
  beBytes 16 (if 2 ^ 127 ≤ v then w ^^^ 0x87 else w)

/-- Blocks of 16 bytes, the last one possibly short. -/
def blocks16 : Nat → List Byte → List (List Byte)
  | 0, _ => []
  | n + 1, bs => if bs.length ≤ 16 then [bs] else bs.take 16 :: blocks16 n (bs.drop 16)

/-- AES-128-CMAC of a message. -/
def cmac (key : BitVec 128) (m : List Byte) : List Byte :=
  let k := beBytes 16 key.toNat
  let k1 := cmacDouble (aes k (List.replicate 16 0))
  let last := fun (b : List Byte) =>
    if b.length = 16 then xorBytes b k1
    else xorBytes (b ++ [0x80#8] ++ List.replicate (15 - b.length) 0) (cmacDouble k1)
  match (blocks16 (m.length + 1) m).reverse with
  | [] => []
  | l :: front => aes k (xorBytes (front.reverse.foldl (fun x b => aes k (xorBytes x b)) (List.replicate 16 0)) (last l))

end Sys2Proof.Machine
end

