-- ==== Sys2Proof/Machine/Security.lean ====
section
/-!
DEFINITION. Life cycle and security (R414 to R427): certificates, root slots, image writes, debug sessions, fabric keys
and boundary scan. The verdict of an ECDSA check is the command's operand; which key it needs and what it opens is the
model's.
-/
namespace Sys2Proof.Machine

/-! ### Life-cycle states (R414, R415) -/

/-- The state of a thermometer of five fuse bits; none where the bits form no pattern (R414). -/
def lifeOf (bits : Nat) : Option Nat :=
  match bits with
  | 0 => some 0 | 1 => some 1 | 3 => some 2 | 7 => some 3 | 15 => some 4 | 31 => some 5 | _ => none

/-- The fuse bits of a life-cycle state (R414). -/
def lifeBits (st : Nat) : Nat := 2 ^ st - 1

/-- The life-cycle state of a lane as its fuses were loaded. -/
def Lane.life (l : Lane) : Nat := l.rd Reg.LCS_STATE.STATE

/-- The permissions of the open debug session of a lane; 0 while none is open (R423). -/
def Lane.granted (l : Lane) : Nat := if l.flag Reg.DBG_STAT.OPEN then l.rd Reg.DBG_STAT.GRANTED else 0

/-- Whether root slot `k` of a lane verifies: programmed and not revoked (R418). -/
def Lane.rootOk (l : Lane) (k : Nat) : Bool :=
  decide (k < 3) && (Sparse.look l.fuses.rot k).isSome && !hasBit l.fuses.revoked k

/-- The life-cycle registers as loaded from the fuses (R376, R414, R418). -/
def Lane.loadFuses (l : Lane) : Lane :=
  let l := l.wr Reg.LCS_STATE.STATE ((lifeOf l.fuses.life).getD 0)
  let l := (List.range 3).foldl (fun l i => (l.wr (Reg.LCS_STATE.ROT_PROG i) (bit (Sparse.look l.fuses.rot i).isSome)).wr
    (Reg.LCS_STATE.ROT_REVOKED i) (bit (hasBit l.fuses.revoked i))) l
  let l := (l.wr Reg.LCS_UID_LO.UID (l.fuses.uid % 2 ^ 32)).wr Reg.LCS_UID_HI.UID (l.fuses.uid / 2 ^ 32)
  let l := l.wr Reg.LCS_SVN.COUNT l.fuses.svn
  (List.range 4).foldl (fun l i => l.wr (Reg.LCS_KEY_CTL.PROV i) (bit (Sparse.look l.mram.keys i).isSome)) l

/-- Whether a certificate's transition exists from a lane's own state (R415). -/
def Lane.transitionOk (l : Lane) (target revoke : Nat) : Bool :=
  let st := l.life
  if target = st then revoke != 0
  else if st = 1 then (target == 2 || target == 3) && (Sparse.look l.fuses.rot 0).isSome || target == 5
  else if st = 2 then target == 3 || target == 5
  else if st = 3 then target == 4 || target == 5
  else if st = 4 then target == 5
  else false

/-! ### Certificates (R416, R417) -/

/-- Byte `i` of a certificate held as 32 little-endian words. -/
def certByte (ws : List Nat) (i : Nat) : Nat := (ws.getD (i / 4) 0) / 2 ^ (8 * (i % 4)) % 256

/-- A run of bytes of a certificate as a little-endian number. -/
def certNum (ws : List Nat) (i n : Nat) : Nat :=
  ((List.range n).map (fun k => certByte ws (i + k) * 256 ^ k)).foldl (· + ·) 0

/-- The outcome of verifying a certificate in a lane (R416, R417), as LCS_CERT_CTL.RESULT has it, the checks in R417's
order: signature, UID, MAGIC and reserved bytes, transition. -/
def Lane.checkCert (l : Lane) (ws : List Nat) (sigOk : Bool) : Nat :=
  let target := certByte ws 4
  let key := certByte ws 5
  let revoke := certByte ws 6
  let keyOk := l.rootOk key || (key == 0xF && target == 5 && l.life == 4)
  if !(sigOk && keyOk) then 2
  else if certNum ws 8 8 ≠ l.fuses.uid then 3
  else if certNum ws 0 4 ≠ 0x4C430001 ∨ 8 ≤ revoke ∨ certByte ws 7 ≠ 0 ∨ certNum ws 0x10 48 ≠ 0 then 5
  else if !(l.transitionOk target revoke) || (decide (key < 3) && hasBit revoke key) then 4
  else 1

/-- The 32 words of LCS_CERT. -/
def Lane.certWords (l : Lane) : List Nat := (List.range 32).map (fun i => l.rd (Reg.LCS_CERT.WORD i))

/-- SUBMIT set: verification starts (R417). -/
def Lane.certSubmit (l : Lane) (clk : Nat) : Lane :=
  if l.life ≠ 5 then { l.wr Reg.LCS_CERT_CTL.SUBMIT 1 with sec := { l.sec with submitAt := some clk } } else l

/-- A lane carries out the transition or the revocation that a verified certificate calls for (R415, R417). -/
def Lane.blow (l : Lane) (target revoke : Nat) : Lane :=
  if target = l.life then
    (List.range 3).foldl (fun l i => if hasBit revoke i then
      ({ l with fuses := { l.fuses with revoked := putBit l.fuses.revoked i true } }).wr (Reg.LCS_STATE.ROT_REVOKED i) 1
      else l) l
  else
    let from_ := l.life
    let l := ({ l with fuses := { l.fuses with life := lifeBits target } }).wr Reg.LCS_STATE.STATE target
    let l := if target = 5 ∨ (from_ = 3 ∧ target = 4) then
        (List.range 4).foldl (fun l i => l.wr (Reg.LCS_KEY_CTL.PROV i) 0) { l with mram := { l.mram with keys := [] } }
      else l
    if target = 5 then { l with mram := { l.mram with img := [] } } else l

/-- A lane reads the vault certificate at BOOT, lane D at any wake, and applies it when it verifies (R417); not when it starts
witnessless. -/
def Dev.lifeTransition (d : Dev) (l : LaneId) (sigOk : Bool) : Dev :=
  let x := d.lane l
  if d.wit.powered && d.wit.flag Reg.WIT_VAULT.CERT && !x.flag Reg.RDN_STAT.WITNESSLESS &&
      x.checkCert d.wit.cert sigOk == 1 then
    d.setLane l (x.blow (certByte d.wit.cert 4) (certByte d.wit.cert 6))
  else d

/-- CERT_SUBMIT (R417): setting LCS_CERT_CTL.SUBMIT starts the verification; not in SCRAPPED (R439). -/
def execCertSubmit (tm : Nat) (l : LaneId) (s : State) : Host.Outcome State Fault Refusal :=
  s.act tm (fun t d => if (d.lane l).powered then d.modLane l (·.certSubmit t) else d)

/-- CERT_VERIFY_DONE (R417): the verdict is shown; a passing certificate replaces the one in the vault. -/
def execCertVerifyDone (tm : Nat) (l : LaneId) (sigOk : Bool) (s : State) : Host.Outcome State Fault Refusal :=
  s.act tm (fun _ d =>
    let x := d.lane l
    if x.powered && x.flag Reg.LCS_CERT_CTL.SUBMIT then
      let ws := x.certWords
      let r := x.checkCert ws sigOk
      let d := d.setLane l (({ (x.wr Reg.LCS_CERT_CTL.SUBMIT 0) with sec := { x.sec with submitAt := none } }).wr
        Reg.LCS_CERT_CTL.RESULT r)
      if r = 1 ∧ d.wit.powered then
        (d.modWit (fun w => (({ w with cert := ws }).wr Reg.WIT_VAULT.CERT 1).wr Reg.WIT_VAULT.CERT_TARGET
          (certByte ws 4))).raiseW 143 sevDiag (certByte ws 4)
      else d
    else d)

/-! ### Root slots and images (R418, R422) -/

/-- A write of `w` to LCS_ROT_PROG (R418): with GO in MANUFACTURE, a slot not yet programmed takes the hash in
LCS_CERT[0..7]. -/
def Lane.rotProgram (l : Lane) (w : Nat) : Lane :=
  let slot := Reg.LCS_ROT_PROG.SLOT.of w
  if l.life = 1 ∧ Reg.LCS_ROT_PROG.GO.of w = 1 ∧ slot < 3 ∧ (Sparse.look l.fuses.rot slot).isNone then
    let h := ((List.range 8).map (fun i => l.rd (Reg.LCS_CERT.WORD i) * 2 ^ (32 * i))).foldl (· + ·) 0
    ({ l with fuses := { l.fuses with rot := Sparse.put l.fuses.rot slot h } }).wr (Reg.LCS_STATE.ROT_PROG slot) 1
  else l

/-- ROT_PROGRAM (R418). -/
def execRotProgram (tm : Nat) (l : LaneId) (w : Nat) (s : State) : Host.Outcome State Fault Refusal :=
  s.act tm (fun _ d => if (d.lane l).powered then d.modLane l (·.rotProgram w) else d)

/-- The image word of a slot at a word offset. -/
def Lane.imgWord (l : Lane) (slot off : Nat) : Nat := Sparse.get 0 l.mram.img (slot * 98304 + off)

/-- A write of `w` to LCS_IMG_DATA (R422): into the slot not selected, while the lane is not ACTIVE, at a word inside the
slot; any other sets WERR. The write is in progress until the pointer has passed the image's LENGTH. -/
def Lane.imgData (l : Lane) (w : Nat) : Lane :=
  let p := l.rd Reg.LCS_IMG_PTR.PTR
  let slot := p / 2 ^ 31
  let off := p % 2 ^ 19 / 4
  if slot ≠ l.rd Reg.LCS_IMG.SEL ∧ l.st ≠ .active ∧ off < 98304 then
    let m := { l.mram with img := Sparse.set 0 l.mram.img (slot * 98304 + off) (w % 2 ^ 32) }
    let len := Sparse.get 0 m.img (slot * 98304 + 4)
    let l := { l with mram := { m with writing := decide ((off + 1) * 4 < 256 + len)
                                       wroteAt := Sparse.set 0 m.wroteAt slot m.wear.hours
                                       wroteEp := Sparse.set 0 m.wroteEp slot l.epoch } }
    l.wr Reg.LCS_IMG_PTR.PTR (slot * 2 ^ 31 + (p % 2 ^ 31 + 4) % 2 ^ 31)
  else l.wr Reg.LCS_IMG.WERR 1

/-- IMG_DATA_WRITE (R422). -/
def execImgDataWrite (tm : Nat) (l : LaneId) (w : Nat) (s : State) : Host.Outcome State Fault Refusal :=
  s.act tm (fun _ d => if (d.lane l).powered then d.modLane l (·.imgData w) else d)

/-! ### Debug sessions (R423, R424) -/

/-- DBG_CTL.REQ set: a fresh nonce (R423). -/
def Lane.dbgReq (l : Lane) : Lane :=
  if l.life = 0 ∨ l.life = 5 then l
  else
    let l := (List.range 4).foldl (fun l i => l.wr (Reg.DBG_CHAL.WORD i) (Config.nonce l.sec.nonces i).toNat) l
    { l with sec := { l.sec with nonces := l.sec.nonces + 1, used := false } }.wr Reg.DBG_CTL.REQ 1

/-- A debug session ends (R423). -/
def Lane.dbgClose (l : Lane) : Lane :=
  (({ l with sec := { l.sec with ends := none } }.wr Reg.DBG_STAT.OPEN 0).wr Reg.DBG_STAT.GRANTED 0).wr Reg.DBG_STAT.LEFT 0

/-- DBG_CTL.END set: it ends the session (R423). -/
def Lane.dbgEnd (l : Lane) : Lane := l.dbgClose.wr Reg.DBG_CTL.END 1

/-- DBG_CTL.SUBMIT set: a response that verifies under its root slot and uses its nonce for the first time opens a
session of 1,800 s with the permissions asked for; any other sets FAIL (R423). -/
def Dev.dbgSubmit (d : Dev) (l : LaneId) (sigOk : Bool) : Dev :=
  let x := d.lane l
  if x.life = 0 ∨ x.life = 5 then d
  else
    let key := x.rd Reg.DBG_CTL.KEYIDX
    let perm := x.rd Reg.DBG_CTL.PERM
    let ok := sigOk && x.rootOk key && !x.sec.used
    let x := { x with sec := { x.sec with used := true } }.wr Reg.DBG_CTL.SUBMIT 1
    if ok then
      d.setLane l ((({ x with sec := { x.sec with ends := some (d.clk + 180000000000) } }.wr Reg.DBG_STAT.OPEN 1).wr
        Reg.DBG_STAT.GRANTED perm).wr Reg.DBG_STAT.LEFT 1800)
    else (d.setLane l (x.wr Reg.DBG_STAT.FAIL 1)).raise l 122 sevDiag (perm + 16 * key)

/-- DBG_REQ (R423). -/
def execDbgReq (tm : Nat) (l : LaneId) (s : State) : Host.Outcome State Fault Refusal :=
  s.act tm (fun _ d => if (d.lane l).powered then d.modLane l Lane.dbgReq else d)

/-- DBG_SUBMIT (R423). -/
def execDbgSubmit (tm : Nat) (l : LaneId) (sigOk : Bool) (s : State) : Host.Outcome State Fault Refusal :=
  s.act tm (fun _ d => if (d.lane l).powered then d.dbgSubmit l sigOk else d)

/-- DBG_END (R423). -/
def execDbgEnd (tm : Nat) (l : LaneId) (s : State) : Host.Outcome State Fault Refusal :=
  s.act tm (fun _ d => if (d.lane l).powered then d.modLane l Lane.dbgEnd else d)

/-- DBG_SESSION_TIMEOUT (R423): 1,800 s after it opened a session ends. -/
def execDbgSessionTimeout (tm : Nat) (l : LaneId) (s : State) : Host.Outcome State Fault Refusal :=
  s.act tm (fun t d =>
    match (d.lane l).sec.ends with
    | some e => if e ≤ t then d.modLane l Lane.dbgClose else d
    | none => d)

/-! ### Fabric keys (R426, R427) -/

/-- Whether R424 lets a lane write fabric keys now. -/
def Lane.mayWriteKeys (l : Lane) : Bool :=
  l.life == 1 || l.life == 2 || (l.life == 3 && hasBit l.granted 2)

/-- The key in LCS_KEY_DATA: word 0 first, each word's bytes in little-endian order (R7, R427). -/
def Lane.keyData (l : Lane) : BitVec 128 :=
  BitVec.ofNat 128 (beNat ((List.range 4).flatMap (fun i => leBytes 4 (l.rd (Reg.LCS_KEY_DATA.WORD i)))))

/-- LCS_KEY_DATA is cleared after every operation (R427). -/
def Lane.clearKeyData (l : Lane) : Lane := (List.range 4).foldl (fun l i => l.wr (Reg.LCS_KEY_DATA.WORD i) 0) l

/-- A write of `w` to LCS_KEY_CTL with an OP (R427): a permitted operation stores or erases the key in every powered lane
and in the vault; a forbidden one sets ERR. -/
def Dev.keyOp (d : Dev) (l : LaneId) (w : Nat) : Dev :=
  let x := d.lane l
  let op := Reg.LCS_KEY_CTL.OP.of w
  let id := Reg.LCS_KEY_CTL.KEYID.of w
  if op ≠ 1 ∧ op ≠ 2 then d
  else if x.mayWriteKeys then
    let put := fun (m : Sp (BitVec 128)) => if op = 1 then Sparse.put m id x.keyData else Sparse.del m id
    let d := d.each (allLanes.filter (fun r => (d.lane r).powered)) (fun d r => d.modLane r (fun y =>
      ({ y with mram := { y.mram with keys := put y.mram.keys } }).wr (Reg.LCS_KEY_CTL.PROV id) (bit (op == 1))))
    let d := if d.wit.powered then d.modWit (fun w => { w with keys := Sparse.put w.keys id (if op = 1 then some x.keyData else none) })
      else d
    d.modLane l Lane.clearKeyData
  else d.modLane l (fun x => (x.wr Reg.LCS_KEY_CTL.ERR 1).clearKeyData)

/-- Lane D takes from the vault, at a wake, the keys written and erased since its last one (R427). -/
def Dev.keysForD (d : Dev) : Dev :=
  if d.wit.powered then
    (d.modLane .D (fun x => d.wit.keys.foldl (fun x e =>
      ({ x with mram := { x.mram with keys := match e.2 with
          | some k => Sparse.put x.mram.keys e.1 k
          | none => Sparse.del x.mram.keys e.1 } }).wr (Reg.LCS_KEY_CTL.PROV e.1) (bit e.2.isSome)) x)).modWit
      (fun w => { w with keys := [] })
  else d

/-- KEY_WRITE (R427): LCS_KEY_CTL written with OP WRITE. -/
def execKeyWrite (tm : Nat) (l : LaneId) (w : Nat) (s : State) : Host.Outcome State Fault Refusal :=
  s.act tm (fun _ d => if (d.lane l).powered then d.keyOp l (2 ^ 30 + w % 2 ^ 30) else d)

/-- KEY_ERASE (R427): LCS_KEY_CTL written with OP ERASE. -/
def execKeyErase (tm : Nat) (l : LaneId) (w : Nat) (s : State) : Host.Outcome State Fault Refusal :=
  s.act tm (fun _ d => if (d.lane l).powered then d.keyOp l (2 * 2 ^ 30 + w % 2 ^ 30) else d)

/-! ### Boundary scan (R425) -/

/-- Whether R424 permits a TAP instruction in a lane's present state. -/
def Lane.tapAllowed (l : Lane) (ir : Nat) : Bool :=
  if ir = 2 ∨ ir = 15 then true
  else if l.life = 1 ∨ l.life = 4 then ir == 0 || ir == 1 || (decide (8 ≤ ir) && decide (ir ≤ 14))
  else if l.life = 2 then ir == 1
  else if l.life = 3 then ir == 1 || (ir == 0 && hasBit l.granted 3 && l.st != .active)
  else false

/-- The identification register (R425). -/
def Lane.idCode (l : Lane) : Nat := l.fuses.stepN * 2 ^ 28 + 0x0096 * 2 ^ 12 + Config.makerId.toNat * 2 + 1

/-- What the data register that an instruction selects holds: identification, boundary or bypass register (R425; that the bypass
register captures 0 is IEEE 1149.1's, log 140). -/
def Lane.tapReg (l : Lane) (ir : Nat) : Nat := if ir = 2 then l.idCode else if ir ≤ 1 then l.tap.bsr else 0

/-- A TAP instruction is loaded (R425). -/
def Lane.tapSelect (l : Lane) (ir : Nat) : Lane := { l with tap := { l.tap with ir := ir, dr := l.tapReg ir } }

/-- A TAP instruction comes into force; one that is not permitted selects the bypass register (R425). -/
def Lane.tapLoad (l : Lane) (ir : Nat) : Lane := l.tapSelect (if l.tapAllowed ir then ir else 15)

/-- The TAP instruction in force: one that R424 no longer permits in the present state selects the bypass register (R425). -/
def Lane.tapIr (l : Lane) : Nat := if l.tapAllowed l.tap.ir then l.tap.ir else 15

/-- While EXTEST or a private instruction is in force, a lane releases no outputs to its companion (R425). -/
def Lane.tapBlocks (l : Lane) : Bool := l.tapIr == 0 || (decide (8 ≤ l.tapIr) && decide (l.tapIr ≤ 14))

/-- TAP_RESET (R425): IDCODE is selected. -/
def execTapReset (tm : Nat) (l : LaneId) (s : State) : Host.Outcome State Fault Refusal :=
  s.act tm (fun _ d => if (d.lane l).powered then d.modLane l (·.tapSelect 2) else d)

/-- EXTEST (R425): the boundary register drives the covered balls. -/
def execExtest (tm : Nat) (l : LaneId) (s : State) : Host.Outcome State Fault Refusal :=
  s.act tm (fun _ d => if (d.lane l).powered then d.modLane l (·.tapLoad 0) else d)

/-- SAMPLE_PRELOAD (R425): the boundary register is preloaded without disturbing operation. -/
def execSamplePreload (tm : Nat) (l : LaneId) (preload : Nat) (s : State) : Host.Outcome State Fault Refusal :=
  s.act tm (fun _ d =>
    if (d.lane l).powered then
      d.modLane l (fun x =>
        let x := x.tapLoad 1
        if x.tap.ir = 1 then { x with tap := { x.tap with bsr := preload, dr := preload } } else x)
    else d)

/-- IDCODE (R425): the identification register is selected. -/
def execIdcode (tm : Nat) (l : LaneId) (s : State) : Host.Outcome State Fault Refusal :=
  s.act tm (fun _ d => if (d.lane l).powered then d.modLane l (·.tapLoad 2) else d)

/-- BYPASS (R425): the bypass register is selected. -/
def execBypass (tm : Nat) (l : LaneId) (s : State) : Host.Outcome State Fault Refusal :=
  s.act tm (fun _ d => if (d.lane l).powered then d.modLane l (·.tapLoad 15) else d)

/-- PRIVATE_TEST (R425): a private instruction 0b1000 to 0b1110; a value outside them is one the port does not list. -/
def execPrivateTest (tm : Nat) (l : LaneId) (v : Nat) (s : State) : Host.Outcome State Fault Refusal :=
  s.act tm (fun _ d => if (d.lane l).powered then d.modLane l (·.tapLoad (if 8 ≤ v ∧ v ≤ 14 then v else 15)) else d)

end Sys2Proof.Machine
end

