-- ==== Sys2Proof/Machine/MemoryOps.lean ====
section
/-!
DEFINITION. Chord SRAM as its requesters meet it (R330 to R348): error correction on a read, the class of a fault and its
repair, stores, and the arbitration of one beat.
-/
namespace Sys2Proof.Machine

/-! ### Places (R330) -/

/-- Bank group of a word index. -/
def groupOf (word : Nat) : Nat := word / 65536 % 8
/-- Logical bank of a word index. -/
def bankOf (word : Nat) : Nat := word / 8192 % 64
/-- Row of a word index within its bank. -/
def rowOf (word : Nat) : Nat := word / 64 % 128

/-- 3,600 s in ticks (R333, R484). -/
def hourTicks : Nat := 360000000000

/-- The lane's 10 clean minutes start afresh after an exception, an overrun or a permanent decision (R387). -/
def Lane.unclean (l : Lane) (clk : Nat) : Lane :=
  { l with start := { l.start with cleanAt := l.start.cleanAt.map (fun _ => clk) } }

/-! ### Repair (R336)

Each repair uses up a spare element and sets the service flag (R33). -/

/-- A copy of kind 1 column, 2 row or 3 bank is asked for: it starts, or waits for earlier ones of its group (R337). -/
def Lane.addJob (l : Lane) (kind bank phys elem clk : Nat) : Lane :=
  let j : RepairJob := { kind := kind, bank := bank, phys := phys, elem := elem, at_ := clk }
  let starts := !l.mem.jobs.any (fun o => o.bank / 8 == bank / 8)
  let l := { l with mem := { l.mem with jobs := l.mem.jobs ++ [j] } }.wr Reg.MEM_STAT.COPY 1
  (if starts then l.wr Reg.MEM_STAT.COPY_BANK bank else l).wearDirty clk

/-- A logical bank goes to a spare bank; with none left the lane is lost with cause MEMORY (R336, R277). -/
def Dev.repairBank (d : Dev) (l : LaneId) (bank : Nat) : Dev :=
  let left := (d.lane l).rd Reg.MEM_STAT.BANKS_LEFT
  if left = 0 then d.decideLoss l 4 3
  else
    let d := d.modLane l (fun x => (x.wr Reg.MEM_STAT.BANKS_LEFT (left - 1)).addJob 3 bank (68 - left) bank d.clk)
    (d.raise l 101 sevFault (bank + 64 * (68 - left))).serviceFlag l

/-- A row goes to its bank's next spare row, or the bank is repaired (R336). -/
def Dev.repairRow (d : Dev) (l : LaneId) (bank row : Nat) : Dev :=
  let n := (d.lane l).rd (Reg.MEM_BANK_STAT.ROWS bank)
  if n < 8 then
    let d := d.modLane l (fun x => ((x.wr (Reg.MEM_BANK_STAT.ROWS bank) (n + 1)).addJob 2 bank 0 (bank * 128 + row) d.clk))
    (d.raise l 100 sevDiag (bank + 64 * row)).serviceFlag l
  else d.repairBank l bank

/-- A bit column goes to its bank's next spare column, or the faulting row is repaired (R336). -/
def Dev.repairCol (d : Dev) (l : LaneId) (bank row col : Nat) : Dev :=
  let n := (d.lane l).rd (Reg.MEM_BANK_STAT.COLS bank)
  if n < 2 then
    let d := d.modLane l (fun x => ((x.wr (Reg.MEM_BANK_STAT.COLS bank) (n + 1)).addJob 1 bank 0 (bank * 128 + col) d.clk))
    (d.raise l 99 sevDiag (bank + 64 * col)).serviceFlag l
  else d.repairRow l bank row

/-- A repair of the row or of the bank of a word is already under way. -/
def Lane.underRepair (l : Lane) (word : Nat) : Bool :=
  l.mem.jobs.any (fun j => (j.kind == 3 && j.bank == bankOf word) ||
    (j.kind == 2 && j.elem == bankOf word * 128 + rowOf word))

/-- REPAIR (R336): a class P fault of a word, as a column pattern at a bit or as a fault in one word. -/
def Dev.repair (d : Dev) (l : LaneId) (word : Nat) (col : Option Nat) : Dev :=
  let d := d.modLane l (·.unclean d.clk)
  if (d.lane l).underRepair word then d
  else match col with
    | some b =>
      if (d.lane l).mem.jobs.any (fun j => j.kind == 1 && j.elem == bankOf word * 128 + b) then d
      else d.repairCol l (bankOf word) (rowOf word) b
    | none => d.repairRow l (bankOf word) (rowOf word)

/-! ### Reads (R332, R333) -/

/-- A read's outcome in MEM_ECC_CNT and MEM_ECC_LAST: kind 1 CORRECTED, 2 UNCORRECTABLE, 3 ADDRESS. -/
def Lane.eccRegs (l : Lane) (kind req word : Nat) (poison : Bool) : Lane :=
  let l := l.inc (if kind = 1 then Reg.MEM_ECC_CNT.CORR else if kind = 2 then Reg.MEM_ECC_CNT.UNCORR else Reg.MEM_ECC_CNT.ADDR)
  (((l.wr Reg.MEM_ECC_LAST.KIND kind).wr Reg.MEM_ECC_LAST.SRC req).wr Reg.MEM_ECC_LAST.POISON (bit poison)).wr
    Reg.MEM_ECC_LAST.WADDR word

/-- The event of an ECC outcome, its data as MEM_ECC_LAST. -/
def Dev.eccEvent (d : Dev) (l : LaneId) (kind req word : Nat) (poison : Bool) : Dev :=
  let d := d.modLane l (·.eccRegs kind req word poison)
  d.raise l (95 + kind) (if kind = 1 then sevDiag else sevFault) ((d.lane l).regs.word Reg.MEM_ECC_LAST.KIND.addr)

/-- The corrected errors of the latest 3,600 s, with one more. -/
def MemSt.addCorr (x : MemSt) (t word b : Nat) : MemSt :=
  { x with recent := (t, word, b) :: x.recent.filter (fun e => t < e.1 + hourTicks) }

/-- Distinct rows of a word's bank that saw a corrected error at bit `b` in the window (R333). -/
def MemSt.rowsAt (x : MemSt) (word b : Nat) : Nat :=
  ((x.recent.filter (fun e => e.2.2 == b && bankOf e.2.1 == bankOf word)).map (fun e => rowOf e.2.1)).eraseDups.length

/-- A word's corrected errors in the window (R333). -/
def MemSt.timesOf (x : MemSt) (word : Nat) : Nat := (x.recent.filter (fun e => e.2.1 == word)).length

/-- A corrected read of a word at bit `b` (R332, R333, R335): counted and reported, its write-back scheduled; a new error
enters the window and may make a class P fault. -/
def Dev.corrected (d : Dev) (l : LaneId) (req word b : Nat) (known : Bool) : Dev :=
  let d := d.eccEvent l 1 req word false
  let t := (d.laneTime l).1
  let d := d.modLane l (fun x => { x with rdn := { x.rdn with evid := true }
                                          mem := { x.mem with due := if x.mem.due.contains word then x.mem.due else x.mem.due ++ [word] } })
  if known then d
  else
    let d := d.modLane l (fun x => { x with mem := x.mem.addCorr t word b })
    if 3 ≤ (d.lane l).mem.rowsAt word b then d.repair l word (some b)
    else if 2 ≤ (d.lane l).mem.timesOf word then d.repair l word none
    else d

/-- The condition a read of a word meets: what stays wrong with it, else what the array gives now. -/
def LaneMem.outcome (m : LaneMem) (word : Nat) (e : Ecc) : Option WordCond :=
  match Sparse.look m.cond word with
  | some c => some c
  | none => match e with
    | .clean => none
    | .corrected b => some (.corr (b % 72))
    | .address => some .addr
    | .uncorrectable => some .uncorr

/-- The memory remembers what is wrong with a word. -/
def LaneMem.mark (m : LaneMem) (word : Nat) (c : WordCond) : LaneMem := { m with cond := Sparse.put m.cond word c }

/-- A read of one word by a requester (R332): the part afterwards, and whether the data were delivered. -/
def Dev.readWord (m : Mems) (d : Dev) (l : LaneId) (req word : Nat) (e : Ecc) : Mems × Dev × Bool :=
  match (m.lane l).outcome word e with
  | none => (m, d, true)
  | some (.corr b) =>
    (m.setLane l ((m.lane l).mark word (.corr b)), d.corrected l req word b (Sparse.look (m.lane l).cond word).isSome, true)
  | some .uncorr => (m.setLane l ((m.lane l).mark word .uncorr), (d.eccEvent l 2 req word false).repair l word none, false)
  | some .addr => (m.setLane l ((m.lane l).mark word .addr), (d.eccEvent l 3 req word false).repair l word none, false)
  | some .poison => (m, d.eccEvent l 2 req word true, false)

/-! ### Stores (R331, R332) -/

/-- A store of `size` bytes within one word: the word then holds a fresh code. -/
def LaneMem.store (m : LaneMem) (a size : Nat) (v : Nat) : LaneMem :=
  { m.putBytes a (leBytes size v) with cond := Sparse.del m.cond (a / 8) }

/-! ### Arbitration (R339 to R346) -/

/-- A requester is an emergency one: SCRUB, and DEBUG in DEVELOPMENT (R339). -/
def Lane.emergency (l : Lane) (r : Nat) : Bool := r == 8 || (r == 9 && l.life == 2)

/-- The priority of an ordinary requester; DEBUG stands at 7 (R339). -/
def Lane.arbPrio (l : Lane) (r : Nat) : Nat := if r < 8 then l.rd (Reg.ARB_PRIO.PRIO r) else 7

/-- Head `a` (requester, age) ranks ahead of head `b` (R342). -/
def Lane.ahead (l : Lane) (a b : Nat × Nat) : Bool :=
  let cls := fun (h : Nat × Nat) => if l.emergency h.1 then 0 else if l.rd Reg.ARB_CFG.AGE_MAX ≤ h.2 then 1 else 2
  if cls a ≠ cls b then decide (cls a < cls b)
  else if cls a = 0 then decide (a.1 < b.1)
  else if cls a = 2 ∧ l.arbPrio a.1 ≠ l.arbPrio b.1 then decide (l.arbPrio a.1 < l.arbPrio b.1)
  else if a.2 ≠ b.2 then decide (b.2 < a.2)
  else decide (a.1 < b.1)

/-- The head that ranks first. -/
def Lane.best (l : Lane) : List (Nat × Nat) → Option (Nat × Nat)
  | [] => none
  | h :: t => match l.best t with
    | none => some h
    | some b => if l.ahead b h then some b else some h

/-- The heads granted before requester `r`, in order, from an age of its own (R341, R342). -/
def Lane.before (l : Lane) (r : Nat) : Nat → List (Nat × Nat) → Nat → List Nat
  | 0, _, _ => []
  | n + 1, hs, age =>
    match l.best hs with
    | none => []
    | some b => if l.ahead b (r, age) then b.1 :: l.before r n ((hs.erase b).map (fun h => (h.1, h.2 + 1))) (age + 1) else []

/-- A requester may be heard in a group: SCRUB and DEBUG always, the others by the mask (R340). -/
def Lane.permitted (l : Lane) (r g : Nat) : Bool := decide (8 ≤ r) || l.flag (Reg.ARB_GRP_REQ.PERMIT g r)

/-- DEBUG makes requests in MANUFACTURE, DEVELOPMENT and FIELD_RETURN, and in PRODUCTION while a session is open (R339). -/
def Lane.debugAsks (l : Lane) : Bool := l.life == 1 || l.life == 2 || l.life == 4 || (l.life == 3 && l.sec.ends.isSome)

/-- A requester is granted beats in the power state: in DOZE GNOMON, RING_DMA, FAB_RX, FAB_TX, BBX and SCRUB alone (R360). -/
def Lane.grantsIn (l : Lane) (r : Nat) : Bool := l.rd Reg.PWR_STATE.STATE != 2 || [0, 3, 4, 5, 7, 8].contains r

/-- One beat of requester `r` in group `g` against competing heads: the grants, and the wait of `r` in beats (R341, R342,
R346). In a group locked by CHORD_LS the fetches of the same lane alone are granted between its beats (R343). -/
def Lane.beat (l : Lane) (r g : Nat) (heads : List (Nat × Nat)) (locked : Bool) : Lane :=
  let hs := heads.filter (fun h => h.1 != r && decide (h.1 ≤ 9) && l.permitted h.1 g && (h.1 != 9 || l.debugAsks) &&
    (!locked || h.1 == 2) && l.grantsIn h.1)
  let first := l.before r hs.length hs 0
  let l := first.foldl (fun l k => l.inc (Reg.ARB_GRANT.COUNT k)) l
  let l := l.inc (Reg.ARB_GRANT.COUNT r)
  if first.isEmpty then l
  else (l.inc (Reg.ARB_WAIT.COUNT r)).wr (Reg.ARB_MAXWAIT.MAX r) (max (l.rd (Reg.ARB_MAXWAIT.MAX r)) (min first.length 65535))

/-- Beats of a requester that nothing competes with: `n` grants. -/
def Lane.beats (l : Lane) (r n : Nat) : Lane := { l with regs := l.regs.addSat (Reg.ARB_GRANT.COUNT r) n }

/-- Whole words that a requester of the lane port writes from address `a` up, those of them whose group admits it; a write
outside the mask ends with bus error PERM and changes nothing (R331, R340). -/
def Dev.dma (m : Mems) (d : Dev) (l : LaneId) (r a : Nat) (bs : List Byte) : Mems × Dev :=
  let x := d.lane l
  let ws := (List.range ((bs.length + 7) / 8)).filter (fun i => x.permitted r (groupOf (a / 8 + i)))
  (m.setLane l (ws.foldl (fun m i => m.putWords (a + 8 * i) ((bs.drop (8 * i)).take 8)) (m.lane l)), d.modLane l (·.beats r ws.length))

/-- A LOCK_ORDER error of a requester in a group (R347). -/
def Dev.lockOrder (d : Dev) (l : LaneId) (r g : Nat) : Dev :=
  (d.modLane l (fun x => (x.inc Reg.ARB_LOCKERR.ORDER).wr Reg.ARB_LOCKERR.LAST_SRC r)).raise l 103 sevFault (r + 16 * g)

end Sys2Proof.Machine
end

