-- ==== Sys2Proof/Machine/Diverse.lean ====
section
/-!
DEFINITION. Diverse re-run and self-checking (R106 to R125): compare events, their sliding windows, permanent decisions
and slice swaps, and the periodic injection.
-/
namespace Sys2Proof.Machine

/-! ### Slices (R106, R121) -/

/-- The lane runs in split mode (R124). -/
def Lane.isSplit (l : Lane) : Bool := l.flag Reg.CHX_STAT.SPLIT

/-- A spare slice is present (R106). -/
def Lane.spareSlice (l : Lane) : Bool := l.rd Reg.CHX_SLICE.SPARE != 3

/-- The roles as a start assigns them: the lowest-numbered slice that is not retired is P, the next T, a third the spare
(R121). -/
def Lane.assignRoles (l : Lane) : Lane :=
  let live := (List.range 3).filter (fun i => !l.flag (Reg.CHX_SLICE.RETIRED i))
  (((l.wr Reg.CHX_SLICE.ROLE_P (live.getD 0 0)).wr Reg.CHX_SLICE.ROLE_T (live.getD 1 1)).wr Reg.CHX_SLICE.SPARE
    (live.getD 2 3)).wr Reg.CHX_STAT.NOSPARE (bit (decide (live.length < 3)))

/-- A slice retires and the sliding windows are cleared: the slice now in its role, 3 where no role changed. -/
def Lane.dropSlice (l : Lane) (i clk : Nat) : Lane :=
  let sp := l.rd Reg.CHX_SLICE.SPARE
  let l := if i = l.rd Reg.CHX_SLICE.ROLE_P then l.wr Reg.CHX_SLICE.ROLE_P sp
    else if i = l.rd Reg.CHX_SLICE.ROLE_T then l.wr Reg.CHX_SLICE.ROLE_T sp else l
  let l := ((l.wr (Reg.CHX_SLICE.RETIRED i) 1).wr Reg.CHX_SLICE.SPARE 3).wr Reg.CHX_STAT.NOSPARE 1
  (({ l with eng := { l.eng with cmps := [] } }.wr Reg.CHX_TCNT.IN_1S 0).wr Reg.CHX_TCNT.IN_1H 0).wearDirty clk

/-- SLICE_SWAP (R121): a slice retires; the spare takes its role, or it was the spare itself. A P or T slice with no spare
left costs the lane with cause SLICE. The spare is gone either way, and the service flag is set (R33). -/
def Dev.retireSlice (d : Dev) (l : LaneId) (i : Nat) : Dev :=
  let x := d.lane l
  let sp := x.rd Reg.CHX_SLICE.SPARE
  if i = sp then ((d.modLane l (·.dropSlice i d.clk)).raise l 22 sevFault (i + 12)).serviceFlag l
  else if sp ≠ 3 then ((d.modLane l (·.dropSlice i d.clk)).raise l 22 sevFault (i + 4 * sp)).serviceFlag l
  else (d.modLane l (fun x => (x.wr (Reg.CHX_SLICE.RETIRED i) 1).wearDirty d.clk)).decideLoss l 2 3

/-! ### Compare events (R115 to R121) -/

/-- The KIND of CHX_LAST of a compare event. -/
def kindCode : CmpKind → Nat
  | .decode => 1 | .residue => 2 | .regstore => 3 | .result => 4 | .pred => 5 | .flag => 6 | .addr => 7 | .data => 8

/-- A compare event as CHX_LAST records it: kind, loser slice, outcome 0 MAJORITY, 1 RETRY, 2 COMPARE, 3 abandoned, lowest
differing bit, destination register, task, candidate run, word address (none keeps it), and location (R121). -/
structure CmpEvt where
  kind    : Nat
  loser   : Option Nat := none
  outcome : Nat := 0
  bit     : Nat := 0
  reg     : Nat := 0
  task    : Nat := 0
  cand    : Bool := false
  pc      : Option Nat := none
  loc     : Option Nat := none
deriving DecidableEq, Repr

/-- Locations of R121: a loser slice and its unit, a physical register, VOTE. -/
def locSlice (s u : Nat) : Nat := 8192 + 3 * u + s
def locReg (p : Nat) : Nat := p % 128
def locVote : Nat := 4096

/-- The decoder as a functional unit of a slice: no instruction has this number. -/
def decoderUnit : Nat := 1024

/-- The event's location is a physical register (R121). -/
def CmpEvt.inRegister (e : CmpEvt) : Bool := e.loc.any (fun p => decide (p < 128))

/-- The event in CHX_LAST, CHX_LAST_PC and CHX_SLICE_LOSS. -/
def Lane.cmpRegs (l : Lane) (e : CmpEvt) : Lane :=
  let l := ((((((l.wr Reg.CHX_LAST.KIND e.kind).wr Reg.CHX_LAST.LOSER (e.loser.getD 3)).wr Reg.CHX_LAST.OUTCOME
    e.outcome).wr Reg.CHX_LAST.BIT e.bit).wr Reg.CHX_LAST.REG e.reg).wr Reg.CHX_LAST.TASK e.task).wr Reg.CHX_LAST.CAND (bit e.cand)
  let l := match e.pc with
    | some a => l.wr Reg.CHX_LAST_PC.PC (a / 4)
    | none => l
  match e.loser with
  | some s => l.inc (Reg.CHX_SLICE_LOSS.COUNT s)
  | none => l

/-- Events of the windows within a length ending at `t` (R484). -/
def countWithin (es : List CmpRec) (t len : Nat) : Nat := (es.filter (fun e => decide (t < e.time + len) && decide (e.time ≤ t))).length

/-- The event makes the fifth within 1 s, the 17th within 3,600 s, or repeats a location within 3,600 s (R121). -/
def Engine.permanent (en : Engine) (t : Nat) (loc : Option Nat) : Bool :=
  let es := { time := t, loc := loc : CmpRec } :: en.cmps
  decide (5 ≤ countWithin es t 100000000) || decide (17 ≤ countWithin es t hourTicks) ||
    (loc.isSome && en.cmps.any (fun e => e.loc == loc && decide (t < e.time + hourTicks)))

/-- The windows with one more event, what lies outside 3,600 s dropped. -/
def Lane.enterCmp (l : Lane) (t : Nat) (loc : Option Nat) : Lane :=
  let es := ({ time := t, loc := loc } :: l.eng.cmps).filter (fun e => t < e.time + hourTicks)
  (({ l with eng := { l.eng with cmps := es } }.wr Reg.CHX_TCNT.IN_1S (min 4 (countWithin es t 100000000))).wr
    Reg.CHX_TCNT.IN_1H (min 16 es.length))

/-- COMPARE_EVENT with its decision (R121): transient, or permanent with the action of its table. A permanent VOTE is
decided by the witness (1) or the majority (2). -/
def Dev.compareEvent (d : Dev) (l : LaneId) (e : CmpEvt) (voteBy : Nat) : Dev :=
  let t := (d.laneTime l).1
  let perm := (d.lane l).eng.permanent t e.loc
  let d := d.modLane l (fun x => { ((x.cmpRegs e).enterCmp t e.loc) with rdn := { x.rdn with evid := true } })
  let data := (d.lane l).regs.word Reg.CHX_LAST.KIND.addr
  if perm then
    let d := (d.modLane l (·.unclean d.clk)).raise l 21 sevFault data
    if e.loc = some locVote then d.decideLoss l 5 voteBy
    else match e.loser with
      | some s => if e.inRegister then d.decideLoss l 0x0E 3 else d.retireSlice l s
      | none => d.decideLoss l 0x0E 3
  else (d.modLane l (·.inc Reg.CHX_TCNT.TOTAL)).raise l 20 sevDiag data

/-- A compare event of logic BIST (R120) as it is entered: it belongs to no program instruction, so CHX_LAST_PC stands. -/
def bistCmp (e : BistEvent) : CmpEvt :=
  { kind := kindCode e.kind, loser := e.loser, outcome := e.outcome, bit := e.bit
    loc := match e.phys with
      | some p => some (locReg p)
      | none => e.loser.map (fun i => locSlice i e.unit) }

/-! ### Periodic injection (R123) -/

/-- A candidate run is in progress (R123): a bank has begun its run and not sealed it. -/
def Engine.inRun (e : Engine) : Bool := e.banks.any (fun b => b.2.started && !b.2.sealed)

/-- PERIODIC_INJECTION (R123): after INJ_PERIOD activations, with no activation running and between candidate runs, one
difference is injected; a failure costs the lane with cause INJECT. -/
def execPeriodicInjection (tm : Nat) (l : LaneId) (pass : Bool) (s : State) : Host.Outcome State Fault Refusal :=
  s.act tm (fun _ d =>
    let x := d.lane l
    if x.powered && x.flag Reg.CHX_CFG.INJ_EN && !x.isSplit && x.eng.h0.run.isNone && !x.eng.inRun &&
        decide (x.rd Reg.CHX_CFG.INJ_PERIOD ≤ x.eng.injCnt) && decide (0 < x.rd Reg.CHX_CFG.INJ_PERIOD) then
      let b := x.eng.injNext
      let d := d.setLane l ({ x with eng := { x.eng with injCnt := 0, injNext := (b + 1) % 64 } }.wr Reg.CHX_STAT.INJ_BIT b)
      if pass then d
      else ((d.wrL l Reg.CHX_STAT.INJ_FAIL 1).raise l 23 sevFault b).decideLoss l 3 3
    else d)

end Sys2Proof.Machine
end

