-- ==== Sys2Proof/Machine/Schedule.lean ====
section
/-!
DEFINITION. The schedule table as every later file reads it (R218 to R224): the fields of an entry, slot starts, action
points and wire durations in ticks of corrected time, and the setpoint slot.
-/
namespace Sys2Proof.Machine

/-! ### Entries (R220, R221) -/

def entDir (e : Nat) : Nat := e / 2 ^ 62 % 4
def entRole (e : Nat) : Nat := e / 2 ^ 59 % 8
def entNode (e : Nat) : Nat := e / 2 ^ 48 % 2048
def entLen (e : Nat) : Nat := e / 2 ^ 35 % 8192
def entPay (e : Nat) : Nat := e / 2 ^ 26 % 512
def entAuth (e : Nat) : Bool := hasBit e 25
/-- TASK and QUEUE of a TX entry. -/
def entTask (e : Nat) : Nat := e / 2 ^ 21 % 16
def entTxQueue (e : Nat) : Nat := e / 2 ^ 18 % 8
/-- DELAY_X or DELAY_Y of an RX or SPARE entry. -/
def entDelay (e : Nat) (netY : Bool) : Nat := if netY then e / 2 ^ 5 % 1024 else e / 2 ^ 15 % 1024
/-- The queue of an RX DATA or STATUS entry and the task of a DATA_ACT entry. -/
def entRxQueue (e : Nat) : Nat := e / 4 % 8
def entRxTask (e : Nat) : Nat := e % 16

def entIsTx (e : Nat) : Bool := entDir e == 1
def entIsRx (e : Nat) (role : Nat) : Bool := entDir e == 2 && entRole e == role
def entIsSpare (e : Nat) : Bool := entDir e == 3 && entRole e == 0
def entTxData (e : Nat) : Bool := entIsTx e && entRole e == 0
def entTxSync (e : Nat) : Bool := entIsTx e && entRole e == 1
def entTxStatus (e : Nat) : Bool := entIsTx e && entRole e == 2

/-- Entry of slot `i` in a companion's table (R219); 0, an IDLE entry, where none was loaded. -/
def Comp.ent (c : Comp) (i : Nat) : Nat := Sparse.get 0 c.lower.table i

/-- Slots per cycle and the length of a cycle in ticks (R218). -/
def Lane.nslots (l : Lane) : Nat := l.rd Reg.JLF_CYCLE.NSLOTS
def Lane.cycleLen (l : Lane) : Nat := l.rd Reg.JLF_CYCLE.CYCLE_US * 100

/-- Start of slot `i` after the cycle start, in ticks. -/
def Comp.slotStart (c : Comp) (i : Nat) : Nat := (List.range i).foldl (fun a j => a + entLen (c.ent j)) 0

/-- Action point of slot `i` after the cycle start, in ticks (R218). -/
def Comp.action (c : Comp) (i : Nat) : Nat := c.slotStart i + c.rd Reg.JMC_CFG.ACTION_OFS

/-- Start of the ET segment after the cycle start, in ticks. -/
def Comp.etStart (c : Comp) (l : Lane) : Nat := c.slotStart l.nslots

/-- Slots of the table that satisfy a test. -/
def Comp.slotsWhere (c : Comp) (l : Lane) (p : Nat → Bool) : List Nat := (List.range l.nslots).filter (fun i => p (c.ent i))

/-- The setpoint slot, if the table has one (R221). -/
def Comp.setpointSlot (c : Comp) (l : Lane) : Option Nat := (c.slotsWhere l (entIsRx · 2)).head?

/-- Byte time of a port in ticks, in tenths (R213): 8 ns or 80 ns. -/
def Comp.byteTime10 (c : Comp) (p : Nat) : Nat := if c.rd (Reg.PHY_CFG.SPEED p) = 1 then 8 else 80

/-- Byte time of the slower port, in tenths of a tick (R224). -/
def Comp.slowByte10 (c : Comp) : Nat := max (c.byteTime10 0) (c.byteTime10 1)

/-- Some PHY port of the companion has a link (R238). -/
def Comp.phyUp (c : Comp) : Bool := c.flag (Reg.PHY_STAT.LINK 0) || c.flag (Reg.PHY_STAT.LINK 1)

/-- Wire duration of a frame, preamble included, in byte times (R213). -/
def wireBytes (len : Nat) (auth : Bool) : Nat := 8 + max 64 (30 + len + 8 * bit auth)

/-- The coming setpoint slot at corrected time `t`: the cycle in which it lies, the first whose slot ends later (R89). -/
def comingCycle (t slotEnd cycle : Nat) : Nat := if t < slotEnd then 0 else (t - slotEnd) / cycle + 1

/-- The staging deadline of the coming setpoint slot at corrected time `t`, and that slot's end (R89). -/
def Dev.staging (d : Dev) (l : LaneId) (c : CompId) (t : Nat) : Option (Nat × Nat) :=
  let x := d.comp c
  let y := d.lane l
  match x.setpointSlot y with
  | none => none
  | some i =>
    if y.cycleLen = 0 then none
    else
      let n := comingCycle t (x.slotStart (i + 1)) y.cycleLen
      let base := n * y.cycleLen
      some (base + x.action i - y.rd Reg.CHE_SPEC_CFG.STAGE_LEAD, base + x.slotStart (i + 1))

end Sys2Proof.Machine
end

