-- ==== Sys2Proof/Machine/Frames.lean ====
section
/-!
DEFINITION. Frames at the MDI (R212 to R217, R241, R257, R258): the Jaloft header, the judgement of a received frame, the
bytes of a sent one, tags, and the acceptance windows of the schedule.
-/
namespace Sys2Proof.Machine

/-- A received frame taken apart (R214): header fields, the 12 header bytes, payload and tag. -/
structure Hdr where
  kind    : Nat
  auth    : Bool
  keyId   : Nat
  node    : Nat
  slot    : Nat
  cycle   : Nat
  raw     : List Byte
  payload : List Byte
  tag     : List Byte
deriving DecidableEq, Repr

/-- What the MAC makes of a received frame (R212, R213, R215). -/
inductive Verdict where
  | fmt
  | fcs
  | corrupt
  | other
  | ok (h : Hdr)
deriving DecidableEq, Repr

/-- Frame kinds of R215. -/
def kTtData : Nat := 1
def kTtNull : Nat := 2
def kSync : Nat := 3
def kColdstart : Nat := 4
def kEcho : Nat := 5
def kEtRwp : Nat := 6
def kWakeDb : Nat := 7
def kClaim : Nat := 8

/-- The limit of LEN of a kind (R215); none for a kind that is not used. -/
def kindLimit (k : Nat) : Option Nat :=
  match k with
  | 1 => some 256 | 2 => some 0 | 3 => some 32 | 4 => some 8 | 5 => some 60 | 6 => some 1024 | 7 => some 8 | 8 => some 8
  | _ => none

/-- The address of a node in a cluster, and the group address (R213). -/
def nodeAddr (cluster node : Nat) : List Byte := [0x02, 0, 0] ++ leBytes 1 cluster ++ beBytes 2 (node % 2048)
def groupAddr (low : Nat) : List Byte := [0x03, 0, 0] ++ beBytes 3 low

/-- The FCS of IEEE 802.3, least significant byte first. -/
def fcs (body : List Byte) : List Byte := leBytes 4 (crc32 body).toNat

/-- Bytes `i` to `i + n - 1`. -/
def slice (bs : List Byte) (i n : Nat) : List Byte := (bs.drop i).take n

/-- A frame with a wrong FCS, or a PHY receive error (R242). -/
def spoiled (f : RxFrame) : Bool :=
  slice f.bytes (f.bytes.length - 4) 4 != fcs (f.bytes.take (f.bytes.length - 4)) || f.phyErr

/-- The Jaloft header of a frame that passed the MAC, judged under R215. -/
def jaloftJudge (bytes : List Byte) : Verdict :=
  let h := slice bytes 14 12
  let v := ((h.getD 0 0)).toNat
  let fl := ((h.getD 1 0)).toNat
  let node := beNat (slice h 2 2)
  let len := beNat (slice h 8 2)
  let auth := hasBit fl 7
  let room := bytes.length - 30
  match kindLimit (v % 16) with
  | none => .fmt
  | some lim =>
    if v / 16 ≠ 1 ∨ fl % 16 ≠ 0 ∨ 2048 ≤ node ∨ beNat (slice h 10 2) ≠ 0 ∨ lim < len ∨ room < len + 8 * bit auth then .fmt
    else .ok { kind := v % 16, auth := auth, keyId := fl / 16 % 4, node := node, slot := beNat (slice h 4 2)
               cycle := beNat (slice h 6 2), raw := h, payload := slice bytes 26 len
               tag := if auth then slice bytes (26 + len) 8 else [] }

/-- A received frame judged in the order of R212, R213 and R215: length, FCS, EtherType, address, header. -/
def macJudge (etype : Nat) (own group : List Byte) (f : RxFrame) : Verdict :=
  let n := f.bytes.length
  if n < 64 ∨ 1518 < n then .fmt
  else if slice f.bytes (n - 4) 4 ≠ fcs (f.bytes.take (n - 4)) then .fcs
  else if f.phyErr then .corrupt
  else if beNat (slice f.bytes 12 2) ≠ etype ∨ etype = 0x8100 ∨ etype = 0x88A8 ∨ etype = 0x8808 then .fmt
  else if slice f.bytes 0 6 ≠ own ∧ slice f.bytes 0 6 ≠ group then .other
  else jaloftJudge f.bytes

/-! ### Sent frames (R212 to R214, R257) -/

/-- The Jaloft header (R214). -/
def jaloftHeader (kind : Nat) (auth netY : Bool) (keyId node slot cycle len : Nat) : List Byte :=
  leBytes 1 (16 + kind) ++ leBytes 1 (128 * bit auth + 64 * bit netY + 16 * (if auth then keyId else 0)) ++
    beBytes 2 (node % 2048) ++ beBytes 2 slot ++ beBytes 2 (cycle % 65536) ++ beBytes 2 len ++ [0, 0]

/-- The tag of R257 over freshness value, header and payload. -/
def frameTag (key : BitVec 128) (cycle slot : Nat) (hdr payload : List Byte) : List Byte :=
  (cmac key (beBytes 6 (cycle % 2 ^ 48) ++ beBytes 2 (slot % 65536) ++ hdr ++ payload)).take 8

/-- A companion's fabric key of a KEYID. -/
def Comp.fabKey (x : Comp) (k : Nat) : BitVec 128 := Sparse.get 0 x.lower.keys k

/-- The bytes of a frame from destination address to FCS (R212 to R214, R257). -/
def Comp.frameBytes (x : Comp) (da : List Byte) (kind : Nat) (auth netY : Bool) (node slot cycle : Nat)
    (payload : List Byte) : List Byte :=
  let key := x.rd Reg.JMC_AUTH.TXKEY
  let h := jaloftHeader kind auth netY key node slot cycle payload.length
  let tag := if auth then frameTag (x.fabKey key) cycle slot h payload else []
  let body := da ++ nodeAddr (x.rd Reg.JMC_ADDR.CLUSTER) node ++ beBytes 2 (x.rd Reg.JMC_CFG.ETYPE) ++ h ++ payload ++ tag
  let body := body ++ List.replicate (60 - body.length) 0
  body ++ fcs body

/-- The tag check of R258: AUTH as required, the KEYID accepted, the tag equal to the computed one. -/
def Comp.tagOk (x : Comp) (h : Hdr) (need : Bool) (cycle : Nat) : Bool :=
  h.auth == need && (!need ||
    (x.flag (Reg.JMC_AUTH.RXKEYS h.keyId) && h.tag == frameTag (x.fabKey h.keyId) cycle h.slot h.raw h.payload))

/-! ### Windows (R226, R237) -/

/-- The slot, RX or SPARE, in whose window on a network a SOF timestamp falls, with its cycle (R226). -/
def Comp.window (x : Comp) (l : Lane) (netY : Bool) (sof32 : Nat) : Option (Nat × Nat) :=
  let c := l.cycleLen * 32
  if c = 0 then none
  else
    let off := sof32 % c
    let pi := x.rd Reg.JMC_CFG.PI * 32
    let ofs := x.rd Reg.JMC_CFG.ACTION_OFS
    let hit := (List.range l.nslots).foldl (fun (a : Nat × Option Nat) i =>
      let e := x.ent i
      let w := (a.1 + ofs + entDelay e netY) * 32
      (a.1 + entLen e, if a.2.isNone && decide (2 ≤ entDir e) && decide (w ≤ off + pi) && decide (off ≤ w + pi) then some i
        else a.2)) (0, none)
    hit.2.map (fun i => (sof32 / c, i))

/-- The instant at which a SOF is due in slot `i` of cycle `n` on a network, in tick/32 of T_corr (R225, R226). -/
def Comp.due32 (x : Comp) (l : Lane) (netY : Bool) (n i : Nat) : Nat :=
  (n * l.cycleLen + x.action i + entDelay (x.ent i) netY) * 32

/-- The cycle whose ET span holds a SOF (R237, R258). -/
def Comp.etCycle (x : Comp) (l : Lane) (sof32 : Nat) : Option Nat :=
  let c := l.cycleLen * 32
  if c = 0 then none
  else
    let pi := x.rd Reg.JMC_CFG.PI * 32
    let lo := x.etStart l * 32
    let hi := lo + l.rd Reg.JLF_ET.ET_LEN * 3200
    let within := fun (n : Nat) => decide (n * c + lo ≤ sof32 + pi) && decide (sof32 ≤ n * c + hi + pi)
    let n := sof32 / c
    if within n then some n else if 0 < n ∧ within (n - 1) then some (n - 1) else if within (n + 1) then some (n + 1) else none

/-! ### Records (R216, R217, R241, R253) -/

/-- The echo record (R217). -/
def echoRecord (status pick : Nat) (seq : List Byte) (applied : Dword) (payload : List Byte) : List Byte :=
  leBytes 1 status ++ leBytes 1 pick ++ seq ++ beBytes 8 applied.toNat ++ payload.take 48 ++
    List.replicate (48 - payload.length) 0

/-- The COLDSTART payload (R241). -/
def coldstartRecord (cycle rank attempt sched : Nat) : List Byte :=
  beBytes 4 (cycle / 65536) ++ leBytes 1 (64 * rank + attempt % 16) ++ [0] ++ beBytes 2 sched

/-- The CLAIM payload (R253). -/
def claimRecord (clean attempt sched : Nat) : List Byte :=
  leBytes 1 clean ++ leBytes 1 attempt ++ beBytes 2 sched ++ [0, 0, 0, 0]

/-- The full cycle number that a COLDSTART frame carries, and TIME of a status record (R241, R216). -/
def Hdr.coldCycle (h : Hdr) : Nat := beNat (slice h.payload 0 4) * 65536 + h.cycle
def Hdr.statusTime (h : Hdr) : Nat := beNat (slice (h.payload ++ List.replicate 32 0) 8 8)

end Sys2Proof.Machine
end

