-- ==== Sys2Proof/Machine/Operands.lean ====
section
/-!
DEFINITION. Operand forms of the Chord engine (R38 to R41, R47, R56, R58, R107 to R111): the register file with its primary and
shadow copies and their representations, registers and predicates with their hard-wired members, guards, immediates, the Q views of a register, packed pairs, addresses and branch targets.
-/
namespace Sys2Proof.Machine

/-! ### Representations of a shadow copy (R107 to R111) -/

/-- Parity of a value and its tag: 1 when their bits hold an odd number of ones (the log's entry on the parity bit). -/
def parityOf (v : BitVec 72) (t : BitVec 4) : Bool :=
  (List.range 76).foldl (fun p i => Bool.xor p (if i < 72 then v.getLsbD i else t.getLsbD (i - 72))) false

/-- A physical register holding a value under a tag, with its parity. -/
def PReg.of (v : BitVec 72) (t : BitVec 4) : PReg := { val := v, tag := t, par := parityOf v t }

/-- The parity of a physical register holds. -/
def PReg.parityOk (p : PReg) : Bool := p.par == parityOf p.val p.tag

/-- The tag of a plain value (R108); a primary copy carries it too (the log's entry on the parity bit). -/
def tagPlain : BitVec 4 := 8

/-- AN multiplier A of a rotation index (R109). -/
def anMult (r : Nat) : Int :=
  match r with
  | 0 => 59 | 1 => 61 | 2 => 67 | _ => 71

/-- Exponent shift k of a rotation index (R109). -/
def rotShift (r : Nat) : Int :=
  match r with
  | 0 => 3 | 1 => -5 | 2 => 7 | _ => -2

/-- The code of a value under a rotation index: A × x as a 72-bit number (R108). -/
def anCode (r : Nat) (v : Dword) : PReg := PReg.of (BitVec.ofInt 72 (anMult r * v.toInt)) (BitVec.ofNat 4 (r % 4))

/-- red(v) of R111: the number congruent to v modulo A × 2^64 that lies in −A × 2^63 … A × 2^63 − 1. -/
def red (A v : Int) : Int := (v + A * 2 ^ 63) % (A * 2 ^ 64) - A * 2 ^ 63

/-- u(c) of R111. -/
def anU (A c : Int) : Int := if 0 ≤ c then c else c + A * 2 ^ 64

/-- A binary32 value with its exponent field moved by `s`; zeros, infinities and NaNs stay (R112). -/
def fShift (a : BitVec 32) (s : Int) : BitVec 32 :=
  let e : Nat := a.toNat / 2 ^ 23 % 256
  if e = 0 ∨ e = 255 then a
  else
    let f : Nat := ((e : Int) + s).toNat % 256
    BitVec.ofNat 32 (a.toNat / 2 ^ 31 * 2 ^ 31 + f * 2 ^ 23 + a.toNat % 2 ^ 23)

/-- The residue of an AN copy is 0; the other representations have no residue check (R111, R115). -/
def PReg.residueOk (p : PReg) : Bool :=
  if p.tag.toNat / 4 = 0 then decide (p.val.toInt % anMult (p.tag.toNat % 4) = 0) else true

/-- The value that a shadow copy stands for (R108). What tag 0b11, which is not used, would stand for is open. -/
def PReg.decoded (p : PReg) : Dword :=
  match p.tag.toNat / 4 with
  | 0 => BitVec.ofInt 64 (p.val.toInt / anMult (p.tag.toNat % 4))
  | 1 => (fShift (p.val.truncate 32) (-(rotShift (p.tag.toNat % 4)))).zeroExtend 64
  | 2 => p.val.truncate 64
  | _ => Config.unusedTag p.val

/-! ### Registers and predicates (R37, R38, R107, R124) -/

/-- What an unlisted physical register holds: the value 0, plain in a primary copy and as the code 0 in a shadow copy. -/
def blankReg (i : Nat) : PReg := if i < 64 then PReg.of 0 tagPlain else PReg.of 0 0

/-- A physical register of a context. -/
def Ctx.preg (c : Ctx) (i : Nat) : PReg := (Sparse.look c.file i).getD (blankReg i)

/-- The context with a physical register written. -/
def Ctx.setPreg (c : Ctx) (i : Nat) (p : PReg) : Ctx := { c with file := Sparse.put c.file i p }

/-- Physical index of the primary copy of gN: N, and 127 − N on half-engine 1 (R107, R124). -/
def Ctx.primIdx (c : Ctx) (r : BitVec 6) : Nat := if c.mirror then 127 - r.toNat else r.toNat

/-- Physical index of the shadow copy of gN (R107). -/
def shadowIdx (r : BitVec 6) : Nat := 127 - r.toNat

/-- The value of a general register; g0 reads 0 (R38). -/
def Ctx.rg (c : Ctx) (r : BitVec 6) : Dword := if r = 0 then 0 else (c.preg (c.primIdx r)).val.truncate 64

/-- The context with a general register written; a write to g0 is discarded. -/
def Ctx.wg (c : Ctx) (r : BitVec 6) (v : Dword) : Ctx :=
  if r = 0 then c else c.setPreg (c.primIdx r) (PReg.of (v.zeroExtend 72) tagPlain)

/-- The shadow copy of a general register; that of g0 holds the constant code 0 (R107). -/
def Ctx.shadow (c : Ctx) (r : BitVec 6) : PReg := if r = 0 then PReg.of 0 0 else c.preg (shadowIdx r)

/-- The context with the shadow copy of a register written; the shadow of g0 is constant. -/
def Ctx.wsh (c : Ctx) (r : BitVec 6) (p : PReg) : Ctx := if r = 0 then c else c.setPreg (shadowIdx r) p

/-- Both copies of a register written; split mode keeps no shadow (R114, R124). -/
def Ctx.both (c : Ctx) (split : Bool) (r : BitVec 6) (v : Dword) (p : PReg) : Ctx :=
  if split then c.wg r v else (c.wg r v).wsh r p

/-- The value of a predicate; p0 reads 1. -/
def Ctx.rp (c : Ctx) (p : BitVec 3) : Bool := if p = 0 then true else (Sparse.look c.pfile p.toNat).getD false

/-- The stored shadow of a predicate, inverted; that of p0 holds 0 (R107). -/
def Ctx.pshadow (c : Ctx) (p : BitVec 3) : Bool := if p = 0 then false else (Sparse.look c.pfile (15 - p.toNat)).getD true

/-- The context with both copies of a predicate written; a write to p0 is discarded. -/
def Ctx.wp (c : Ctx) (p : BitVec 3) (b : Bool) : Ctx :=
  if p = 0 then c else { c with pfile := Sparse.put (Sparse.put c.pfile p.toNat b) (15 - p.toNat) (!b) }

/-- A bit of a physical register flipped: value in bits 0 to 71, tag in 72 to 75, parity in 76. -/
def Ctx.hitReg (c : Ctx) (h : Nat × BitVec 77) : Ctx :=
  let p := c.preg (h.1 % 128)
  c.setPreg (h.1 % 128) { val := p.val ^^^ h.2.extractLsb' 0 72, tag := p.tag ^^^ h.2.extractLsb' 72 4
                          par := Bool.xor p.par (h.2.getLsbD 76) }

/-- A bit of the predicate file flipped. The constants of p0, at indices 0 and 15, are no storage. -/
def Ctx.hitPred (c : Ctx) (i : Nat) : Ctx :=
  let i := i % 16
  if i = 0 ∨ i = 15 then c
  else { c with pfile := Sparse.put c.pfile i (!(Sparse.look c.pfile i).getD (decide (8 ≤ i))) }

/-- The context after the hits of an issue. -/
def Ctx.hit (c : Ctx) (q : Issue) : Ctx := q.phits.foldl Ctx.hitPred (q.hits.foldl Ctx.hitReg c)

/-- The context moved to another program counter. -/
def Ctx.goto (c : Ctx) (a : BitVec 22) : Ctx := { c with pc := a }

/-- The guard of an instruction holds: p[pg] XOR pn is 1 (R39). -/
def Ctx.guard (c : Ctx) (pg : BitVec 3) (pn : Bool) : Bool := xor (c.rp pg) pn

/-- The sign-extended 10-bit immediate (R41). -/
def simm (i : BitVec 10) : Dword := i.signExtend 64

/-- The zero-extended 10-bit immediate (R41). -/
def zimm (i : BitVec 10) : Dword := i.zeroExtend 64

/-- A register's low half as a Q31 number (R47). -/
def q31 (v : Dword) : Int := (v.truncate 32).toInt

/-- A register's low quarter as a Q15 number (R47). -/
def q15 (v : Dword) : Int := (v.truncate 16).toInt

/-- The second component of a packed pair (R53). -/
def q31hi (v : Dword) : Int := ((v >>> 32).truncate 32).toInt

/-- An integer as a register value, sign-extended (R47, R48). -/
def ofInt (x : Int) : Dword := BitVec.ofInt 64 x

/-- Two Q31 components packed into one register: the first in bits [31:0], the second in [63:32] (R53). -/
def pack (lo hi : Int) : Dword := (BitVec.ofInt 32 hi) ++ (BitVec.ofInt 32 lo)

/-- The binary32 operand of a register: its low half (R48). -/
def f32 (v : Dword) : BitVec 32 := v.truncate 32

/-- A binary32 result as a register value: bits [63:32] are 0 (R48). -/
def ofF32 (v : BitVec 32) : Dword := v.zeroExtend 64

/-- The address of a load or store: ra + sext(off10) × size, modulo 2^64 (R56). -/
def effAddr (c : Ctx) (ra : BitVec 6) (off : BitVec 10) (size : Nat) : Nat :=
  (c.rg ra + simm off * BitVec.ofNat 64 size).toNat

/-- The target of a branch: PC + sext(off22) × 4, as an exact number (R41). -/
def brTarget (pc : BitVec 22) (off : BitVec 22) : Int := (pc.toNat : Int) + off.toInt * 4

end Sys2Proof.Machine
end

