-- ==== Sys2Proof/Machine/Flags.lean ====
section
/-!
DEFINITION. The six sticky flags of a task and the clamps that set SAT (R47, R49): the flags one instruction sets, how
they join the flags of CHE_TASK_STAT or of a candidate bank, and the two saturations.
-/
namespace Sys2Proof.Machine

/-- Flags that are set in either of two sets: flags are sticky (R49). -/
def Flags.or (a b : Flags) : Flags :=
  { sat := a.sat || b.sat, nv := a.nv || b.nv, dz := a.dz || b.dz, of := a.of || b.of, uf := a.uf || b.uf
    nx := a.nx || b.nx }

/-- Only SAT, when `b`. -/
def satFlag (b : Bool) : Flags := { sat := b }

/-- No flag is set. -/
def Flags.none (f : Flags) : Bool := !(f.sat || f.nv || f.dz || f.of || f.uf || f.nx)

/-- The flags of a task as CHE_TASK_STAT holds them. -/
def Lane.taskFlags (l : Lane) (n : Nat) : Flags :=
  { sat := l.flag (Reg.CHE_TASK_STAT.SAT n), nv := l.flag (Reg.CHE_TASK_STAT.NV n), dz := l.flag (Reg.CHE_TASK_STAT.DZ n)
    of := l.flag (Reg.CHE_TASK_STAT.OF n), uf := l.flag (Reg.CHE_TASK_STAT.UF n), nx := l.flag (Reg.CHE_TASK_STAT.NX n) }

/-- One sticky bit set when `b`. -/
def Lane.stick (l : Lane) (f : Fld) (b : Bool) : Lane := if b then l.wr f 1 else l

/-- The flags an instruction of task `n` set are set in CHE_TASK_STAT and stay set (R49). -/
def Lane.setFlags (l : Lane) (n : Nat) (f : Flags) : Lane :=
  (((((l.stick (Reg.CHE_TASK_STAT.SAT n) f.sat).stick (Reg.CHE_TASK_STAT.NV n) f.nv).stick (Reg.CHE_TASK_STAT.DZ n) f.dz).stick
    (Reg.CHE_TASK_STAT.OF n) f.of).stick (Reg.CHE_TASK_STAT.UF n) f.uf).stick (Reg.CHE_TASK_STAT.NX n) f.nx

/-- sat32: a number clamped to −2^31 … 2^31 − 1. -/
def sat32 (x : Int) : Int := clampI (-2147483648) 2147483647 x

/-- sat16: a number clamped to −2^15 … 2^15 − 1. -/
def sat16 (x : Int) : Int := clampI (-32768) 32767 x

/-- sat32 changed the number. -/
def clips32 (x : Int) : Bool := decide (sat32 x ≠ x)

/-- sat16 changed the number. -/
def clips16 (x : Int) : Bool := decide (sat16 x ≠ x)

/-- A product in units of 2^-62 rounded to Q31, half up: (p + 2^30) >> 31 (R47). -/
def rnd31 (p : Int) : Int := (p + 1073741824) / 2147483648

/-- A product in units of 2^-30 rounded to Q15, half up: (p + 2^14) >> 15 (R47). -/
def rnd15 (p : Int) : Int := (p + 16384) / 32768

end Sys2Proof.Machine
end

