-- ==== Sys2Proof/Machine/Engine.lean ====
section
/-!
DEFINITION. The Chord engine around its instructions (R38, R58, R63 to R105): partitions, entry contexts, dispatch and
pre-emption, activations, exceptions and overruns, candidates and windows, and the seal.
-/
namespace Sys2Proof.Machine

/-! ### Tasks and partitions (R65, R70, R73) -/

/-- The enabled partition `k` covers address `a`. -/
def Lane.inPart (l : Lane) (k a : Nat) : Bool :=
  l.flag (Reg.CHE_PART_ATTR.EN k) && decide (l.rd (Reg.CHE_PART_BASE.BASE k) * 4096 ≤ a) &&
    decide (a < (l.rd (Reg.CHE_PART_BASE.BASE k) + l.rd (Reg.CHE_PART_ATTR.SIZE k) + 1) * 4096)

/-- Task `n` is in the mask of partition `k`. -/
def Lane.inMask (l : Lane) (k n : Nat) : Bool := l.flag (Reg.CHE_PART_ATTR.TASKS k n)

/-- The lowest-numbered task in the mask of partition `k`. -/
def Lane.maskOwner (l : Lane) (k : Nat) : Option Nat := (List.range 16).find? (fun n => l.inMask k n)

/-- Kind of partition `k`. -/
def Lane.partKind (l : Lane) (k : Nat) : Nat := l.rd (Reg.CHE_PART_ATTR.KIND k)

/-- A fetch by task `n` from `a`: CODE, or SAFE_CODE for a safe-stop task (R58, R65). -/
def Lane.mayFetch (l : Lane) (n a : Nat) : Bool :=
  (List.range 32).any (fun k => l.inPart k a && l.inMask k n &&
    (l.partKind k == 0 || (l.partKind k == 1 && l.flag (Reg.CHE_TASK_CFG.SAFESTOP n))))

/-- A load by task `n` from `a`: every kind grants it to the tasks of its mask (R65). -/
def Lane.mayLoad (l : Lane) (n a : Nat) : Bool :=
  (List.range 32).any (fun k => l.inPart k a && l.inMask k n && l.partKind k != 7)

/-- A store by task `n` to `a`: STATE, OUTPUT, and SHARED by the lowest-numbered task of the mask (R65). -/
def Lane.mayStore (l : Lane) (n a : Nat) : Bool :=
  (List.range 32).any (fun k => l.inPart k a && l.inMask k n &&
    (l.partKind k == 3 || l.partKind k == 6 || (l.partKind k == 4 && l.maskOwner k == some n)))

/-- The enabled partitions of a kind that task `n` may use. -/
def Lane.partsOf (l : Lane) (n kind : Nat) : List Nat :=
  (List.range 32).filter (fun k => l.flag (Reg.CHE_PART_ATTR.EN k) && l.partKind k == kind && l.inMask k n)

/-- The lowest of some base addresses, 0 where there is none. -/
def lowestBase (bs : List Nat) : Nat :=
  match bs with
  | [] => 0
  | b :: t => t.foldl min b

/-- Base address of the lowest-addressed partition of a kind of task `n`, or 0 (R38). R38 says lowest-addressed for STATE
alone; taking it for INPUT and OUTPUT too is the model's choice (DESIGN CHOICE, log 109). -/
def Lane.baseOf (l : Lane) (n kind : Nat) : Nat :=
  lowestBase ((l.partsOf n kind).map (fun k => l.rd (Reg.CHE_PART_BASE.BASE k) * 4096))

/-- Task `n` has an OUTPUT partition. -/
def Lane.hasOutput (l : Lane) (n : Nat) : Bool := !(l.partsOf n 6).isEmpty

/-- The speculative task (R88). -/
def Lane.specTask (l : Lane) : Option Nat :=
  (List.range 16).find? (fun n => l.flag (Reg.CHE_TASK_CFG.EN n) && l.flag (Reg.CHE_TASK_CFG.SPEC n))

/-! ### Streams -/

/-- One of the two instruction streams (R124). -/
def Engine.half (e : Engine) (h1 : Bool) : Half := if h1 then e.h1 else e.h0

/-- The engine with one stream replaced. -/
def Engine.setHalf (e : Engine) (h1 : Bool) (h : Half) : Engine := if h1 then { e with h1 := h } else { e with h0 := h }

/-- The lane with its engine changed. -/
def Lane.modEng (l : Lane) (f : Engine → Engine) : Lane := { l with eng := f l.eng }

/-- The lane with one stream changed. -/
def Lane.modHalf (l : Lane) (h1 : Bool) (f : Half → Half) : Lane := l.modEng (fun e => e.setHalf h1 (f (e.half h1)))

/-- The stream on which task `n` runs: half 1 in split mode where SPLIT_MAP says so (R124). -/
def Lane.streamOf (l : Lane) (n : Nat) : Bool := l.isSplit && l.flag (Reg.CHX_CFG.SPLIT_MAP n)

/-- The registers at entry to task `n` (R38), whose shadow copies are codes under the run's rotation index (R108, R124). -/
def Lane.entry (l : Lane) (n : Nat) (cand : Bool) (rot : Nat) : Ctx :=
  let c : Ctx := { pc := BitVec.ofNat 22 (l.rd (Reg.CHE_TASK_ENTRY.ENTRY n) * 4), mirror := l.streamOf n }
  let put := fun (c : Ctx) (r : BitVec 6) (v : Nat) => c.both l.isSplit r (BitVec.ofNat 64 v) (anCode rot (BitVec.ofNat 64 v))
  (put (put (put (put c 1 (l.baseOf n 5)) 2 (l.baseOf n 6)) 3 (l.baseOf n 3)) 4 n).wp 7 cand

/-- Activations of task `n` that wait, run or are pre-empted. -/
def Engine.liveRuns (e : Engine) (n : Nat) : List Run :=
  ((e.h0.run.toList ++ e.h0.ready) ++ (e.h1.run.toList ++ e.h1.ready)).filter (fun r => r.task == n)

/-! ### Dispatch (R72) -/

/-- Run `a` goes before run `b`: lower PRIO value, then lower task ID. -/
def Lane.runsFirst (l : Lane) (a b : Run) : Bool :=
  let pa := l.rd (Reg.CHE_TASK_CFG.PRIO a.task)
  let pb := l.rd (Reg.CHE_TASK_CFG.PRIO b.task)
  decide (pa < pb) || (pa == pb && decide (a.task < b.task))

/-- The ready run to run first; one whose sample block is still on its way waits. -/
def Lane.pickRun (l : Lane) : List Run → Option Run
  | [] => none
  | r :: t =>
    if r.waits then l.pickRun t
    else match l.pickRun t with
      | some b => if l.runsFirst r b then some r else some b
      | none => some r

/-- A stream begins or resumes a run: it leaves the ready list, and its registers are those it was pre-empted with, or
the entry registers (R38, R72). -/
def Lane.startRun (l : Lane) (h : Half) (r : Run) : Half :=
  { ctx := r.saved.getD (l.entry r.task false r.rot), run := some { r with saved := none }, ready := h.ready.erase r
    locks := [], beats := 0 }

/-- A stream at an instruction boundary (R72): idle, it takes the first ready run; running outside a locked sequence, it
is pre-empted by a ready run of lower PRIO value. -/
def Lane.dispatchHalf (l : Lane) (h : Half) : Half :=
  match l.pickRun h.ready with
  | none => h
  | some r =>
    match h.run with
    | none => l.startRun h r
    | some cur =>
      if h.locks.isEmpty && decide (l.rd (Reg.CHE_TASK_CFG.PRIO r.task) < l.rd (Reg.CHE_TASK_CFG.PRIO cur.task)) then
        let h' := l.startRun h r
        { h' with ready := h'.ready ++ [{ cur with saved := some h.ctx }] }
      else h

/-- Both streams dispatch. -/
def Lane.dispatch (l : Lane) : Lane := (l.modHalf false l.dispatchHalf).modHalf true l.dispatchHalf

/-! ### The companion's check of releases (R17) -/

/-- The control task of a bridge is bound to it and has an OUTPUT partition; at DL3 it is the safe-stop one (R17, R73). -/
def Lane.isControl (l : Lane) (n : Nat) : Bool := decide (l.rd (Reg.CHE_TASK_CFG.SRC n) < 2) && l.hasOutput n

/-- MISS of a bridge. -/
def missFld (b : Bool) : Fld := if b then Reg.CMPS_REL.MISS_B2 else Reg.CMPS_REL.MISS_B1

/-- A companion's bridge counts an activation of the control task that ended without release; the second in a row turns
its gates off (R17). -/
def Comp.missRelease (c : Comp) (b : Bool) : Comp :=
  let n := min (c.rd (missFld b) + 1) 2
  let c := (c.modBridge b (fun x => { x with released := true })).wr (missFld b) n
  if n = 2 then (c.modBridge b Bridge.dropOutputs).wr (offFld b) 1 else c

/-- The check at a new activation of the control task: the one before is missing unless it released or was counted. -/
def Comp.expectRelease (c : Comp) (b : Bool) : Comp :=
  let c := if (c.bridge b).released then c else c.missRelease b
  c.modBridge b (fun x => { x with released := false })

/-! ### Setpoints at an activation (R102) -/

/-- The setpoint that the next activation of task `n` presents: the picked value once, then the exact one. -/
def Engine.setpointOf (e : Engine) (n : Nat) : Dword :=
  match e.spNext with
  | some x => if Sparse.get false e.spSeen n then x else e.spForce
  | none => e.spForce

/-- Task `n` has had its activation with the picked value. -/
def Engine.seeSetpoint (e : Engine) (n : Nat) : Engine :=
  if e.spNext.isSome then { e with spSeen := Sparse.set false e.spSeen n true } else e

/-! ### Activations (R71, R73, R82, R86, R485) -/

/-- The engine activates tasks: the lane is ACTIVE with an adopted companion and the device is not in DOZE or deeper
(R71, R358). -/
def Dev.activates (d : Dev) (l : LaneId) : Bool := d.isActive l && decide (d.pwr.state ≤ 1)

/-- A task is activated at the level in force: at DL3 only safe-stop tasks; a safe-stop task only then (R73, R282). -/
def Lane.taskAllowed (l : Lane) (n : Nat) : Bool :=
  l.flag (Reg.CHE_TASK_CFG.EN n) && (l.flag (Reg.CHE_TASK_CFG.SAFESTOP n) == (l.rd Reg.RDN_STAT.DL == 3))

/-- The candidates of a lane whose run has not sealed. -/
def Engine.unsealed (e : Engine) : List Nat := e.live.filter (fun k => !(Sparse.get {} e.banks k).sealed)

/-- Lane D loads the lane context of a copy (R291): setpoints, time epoch, latest journal record number where it holds none
later, and the level, which the running witness's decision replaces (R34; log 113). -/
def Dev.loadContext (d : Dev) (c : Copy) : Dev :=
  let d := d.modLane .D (fun x => { x.wr Reg.RDN_JSEQ.JSEQ (max (x.rd Reg.RDN_JSEQ.JSEQ) c.jseq) with
    epoch := c.epoch
    eng := { x.eng with s1 := c.s1, s2 := c.s2, spForce := c.force, spNext := c.next, spSeen := [] } })
  if d.wit.powered then d else d.laneLevel .D c.dl

/-- The windows and the context that lane D loads at its first activation of a task (R291): the windows of the
partitions the task owns, and with its first activation of all the lane context. -/
def Dev.loadCopies (m : Mems) (d : Dev) (n : Nat) : Mems × Dev :=
  let x := d.lane .D
  let first := x.eng.begun.isEmpty
  let mine := x.rdn.copies.filter (fun c => match c.part with
    | some k => x.maskOwner k == some n
    | none => first)
  mine.foldl (fun md c =>
    match c.part with
    | some k => (md.1.setLane .D ((md.1.lane .D).putWords ((md.2.lane .D).rd (Reg.CHE_PART_BASE.BASE k) * 4096) c.bytes), md.2)
    | none => (md.1, md.2.loadContext c)) (m, d)

/-- One activation of task `n` (R71, R109): the run joins the ready list, the rotation advances, and the speculative
task's own activation squashes every unsealed candidate run (R92). -/
def Dev.beginRun (d : Dev) (l : LaneId) (n idx tA key : Nat) (waits : Bool) : Dev :=
  let x := d.lane l
  let rot := x.rd (Reg.CHX_ROT.ROT n)
  let r : Run := { task := n, tA := tA, idx := idx, rot := rot, key := key, sp := x.eng.setpointOf n, waits := waits }
  let d := d.modLane l (fun x =>
    let x := if x.isSplit then x else x.wr (Reg.CHX_ROT.ROT n) ((rot + 1) % 4)
    let x := x.modEng (fun e => { (e.seeSetpoint n) with begun := Sparse.set false e.begun n true, injCnt := e.injCnt + 1 })
    x.modHalf (x.streamOf n) (fun h => { h with ready := h.ready ++ [r] }))
  let d := if x.specTask = some n then d.squash l (d.lane l).eng.unsealed else d
  match d.adopted l with
  | some c =>
    if (d.lane l).isControl n then
      d.modComp c (·.expectRelease ((d.lane l).rd (Reg.CHE_TASK_CFG.SRC n) == 1))
    else d
  | none => d

/-- The tasks named in RNG_APP_CFG. -/
def Lane.appTasks (l : Lane) : Nat := bitsOf 16 (fun n => l.flag (Reg.RNG_APP_CFG.TASKS n))

/-- A command block shows NEW to a run: the first activation of a named task not before T_app (R320). -/
def Lane.newNow (l : Lane) (b : CmdBlock) (r : Run) : Bool :=
  hasBit b.newFor r.task && decide (b.tApp ≤ (if l.rd (Reg.CHE_TASK_CFG.SRC r.task) < 2 then r.key else r.tA))

/-- The 48 bytes of the command block (R320). -/
def CmdBlock.bytes (b : CmdBlock) (isNew : Bool) : List Byte :=
  leBytes 4 b.seq ++ [BitVec.ofNat 8 b.opcode, BitVec.ofNat 8 (bit isNew), BitVec.ofNat 8 b.ring, 0] ++ b.args.take 32 ++
    List.replicate (32 - b.args.length) 0 ++ List.replicate 8 0

/-- The first activation of a named task from T_app on sees an APP command as NEW: the lane records its CMD_SEQ and the
SAMPLE_TIME of the key (R315, R323, R325). `t` is the activation's time on R320's terms. -/
def Lane.appDone (x : Lane) (t key : Nat) : Lane :=
  x.ring.due.foldl (fun x u =>
    if u.key.isNone && decide (u.app.tApp ≤ t) then
      ({ x with ring := { x.ring with applyT := Sparse.put x.ring.applyT u.app.ring key } }).wr
        (Reg.RNG_LAST_SEQ.SEQ u.app.ring) u.app.seq
    else x)
    { x with ring := { x.ring with due := x.ring.due.map (fun u =>
        if u.key.isNone && decide (u.app.tApp ≤ t) then { u with key := some key } else u) } }

/-- The lane port writes the command block into the INPUT partition of a run's task, if RNG_APP_CFG names it (R320). A task
that has yet to see the latest block as NEW and runs for an earlier key still sees the block before it. -/
def Dev.storeCommand (m : Mems) (d : Dev) (l : LaneId) (r : Run) : Mems × Dev :=
  let x := d.lane l
  if x.flag (Reg.RNG_APP_CFG.TASKS r.task) && !(x.partsOf r.task 5).isEmpty then
    let cur := x.newNow x.ring.block r || !hasBit x.ring.block.newFor r.task
    let b := if cur then x.ring.block else x.ring.prevBlk
    let isNew := x.newNow b r
    let w := Dev.dma m d l 6 (x.baseOf r.task 5 + 0xD0) (b.bytes isNew)
    let seen := { b with newFor := putBit b.newFor r.task false }
    let x := w.2.lane l
    let x := if !isNew then x
      else if cur then { x with ring := { x.ring with block := seen } }
      else { x with ring := { x.ring with prevBlk := seen } }
    (w.1, w.2.setLane l (if isNew then x.appDone (if x.rd (Reg.CHE_TASK_CFG.SRC r.task) < 2 then r.key else r.tA) r.key else x))
  else (m, d)

/-- The recorder copies the first 256 bytes of the voted task's INPUT partition at each of its activations, and keeps the
latest 32 (R406). -/
def Dev.bbxCopy (m : Mems) (d : Dev) (l : LaneId) (r : Run) : Dev :=
  let x := d.lane l
  if x.flag Reg.RDN_CFG.VOTE_EN && x.rd Reg.RDN_CFG.VOTE_TASK == r.task && !(x.partsOf r.task 5).isEmpty &&
      x.permitted 7 (groupOf (x.baseOf r.task 5 / 8)) then
    let bs := (m.lane l).bytes (x.baseOf r.task 5) 256
    d.modLane l (fun x => { x with bbx := { x.bbx with inputs := (bs :: x.bbx.inputs).take 32 } }.beats 7 32)
  else d

/-- A source event with index `e` reaches task `n` (R71, R86, R485): where it qualifies it activates the task, unless the
previous activation still lives; then it is dropped with CHE_SKIP. -/
def Dev.sourceEvent (m : Mems) (d : Dev) (l : LaneId) (n e tA key : Nat) (waits : Bool) : Mems × Dev :=
  let x := d.lane l
  let div := x.rd (Reg.CHE_TASK_CFG.DIV n) + 1
  if !(d.activates l && x.taskAllowed n) || e % div != 0 then (m, d)
  else if !(x.eng.liveRuns n).isEmpty then
    (m, (d.incL l (Reg.CHE_OVR_CNT.SKIP n)).raise l 18 sevDiag n)
  else
    let md := if l = .D && !Sparse.get false x.eng.begun n then Dev.loadCopies m d n else (m, d)
    let d := md.2.beginRun l n (e / div) tA key waits
    if waits then (md.1, d)
    else match ((d.lane l).eng.liveRuns n).head? with
      | some r =>
        let md := Dev.storeCommand md.1 d l r
        (md.1, md.2.bbxCopy md.1 l r)
      | none => (md.1, d)

/-- A source event reaches every task of a source that satisfies a test, and the streams dispatch. -/
def Dev.sourceEvents (m : Mems) (d : Dev) (l : LaneId) (p : Nat → Bool) (e tA key : Nat) (waits : Bool) : Mems × Dev :=
  let md := ((List.range 16).filter p).foldl (fun md n => md.2.sourceEvent md.1 l n e tA key waits) (m, d)
  (md.1, md.2.modLane l Lane.dispatch)

/-- Ticks from a bridge's centre to its activation (R23). -/
def Comp.actOfs (c : Comp) (b : Bool) : Nat := c.rd (Reg.CTB_ACT.OFS (bit b))

/-- Index of the source events of a centre (R485): (T_corr of the centre − PHASE) / PERIOD. -/
def Comp.centreIdx (c : Comp) (b : Bool) (tC : Nat) : Nat :=
  (tC - c.rd (Reg.PWM_CFG.PHASE (bit b))) / c.rd (Reg.PWM_CFG.PERIOD (bit b))

/-- ACTIVATION (R23, R71): at t_A the companion fires the activation of the tasks bound to a PWM unit. -/
def execActivation (tm : Nat) (c : CompId) (b : Bool) (s : State) : Host.Outcome State Fault Refusal :=
  s.actM tm (fun _ m d =>
    let x := d.comp c
    let br := x.bridge b
    let tA := br.lastC + x.actOfs b
    if x.powered && !br.actDone && decide (tA ≤ x.tcorr) then
      let d := d.modComp c (fun x => x.modBridge b (fun y => { y with actDone := true }))
      match d.driver c with
      | some l => d.sourceEvents m l (fun n => (d.lane l).rd (Reg.CHE_TASK_CFG.SRC n) == bit b)
          (x.centreIdx b br.lastC) tA br.lastC true
      | none => (m, d)
    else (m, d))

/-! ### Endings without release (R63, R84, R85) -/

/-- An activation of task `n` ended without release (R63, R85, R97, R387): the second in a row of one task costs the lane;
an activation of the speculative task counts towards the next depth evaluation. -/
def Dev.endUnreleased (d : Dev) (l : LaneId) (n : Nat) : Dev :=
  let twice := (d.lane l).flag (Reg.CHE_OVR_CNT.CONSEC n)
  let d := d.modLane l (fun x =>
    let x := (x.wr (Reg.CHE_OVR_CNT.CONSEC n) 1).unclean d.clk
    if x.specTask = some n then x.modEng (fun e => { e with wCount := e.wCount + 1 }) else x)
  if twice then d.decideLoss l 1 3 else d

/-- A stream without its run: it ends unsealed, every held group is released, and the next ready run begins (R59, R62). -/
def Lane.dropRun (l : Lane) (h1 : Bool) : Lane :=
  (l.modHalf h1 Half.clear).dispatch

/-- LAST_EXC and EXC_CNT of task `n` (R62). -/
def Lane.noteExc (l : Lane) (n code : Nat) : Lane := (l.wr (Reg.CHE_TASK_STAT.LAST_EXC n) code).inc (Reg.CHE_TASK_STAT.EXC_CNT n)

/-- An exception other than BUDGET ends the running activation of a stream (R63). -/
def Dev.exceptRun (d : Dev) (l : LaneId) (h1 : Bool) (n code trap : Nat) : Dev :=
  let d := d.modLane l (fun x => (x.noteExc n code).dropRun h1)
  (d.raise l 16 sevFault (n + 256 * code + 65536 * trap)).endUnreleased l n

/-- Every trace of task `n`'s activations leaves the streams. -/
def Lane.dropTask (l : Lane) (n : Nat) : Lane :=
  let clear := fun (h : Half) =>
    let h := { h with ready := h.ready.filter (fun r => r.task != n) }
    match h.run with
    | some r => if r.task = n then h.clear else h
    | none => h
  ((l.modHalf false clear).modHalf true clear).dispatch

/-- Exception BUDGET (R84, R97): the activation of task `n` ends unsealed with CHE_OVERRUN, and the depth proposal becomes
0. -/
def Dev.overrun (d : Dev) (l : LaneId) (n : Nat) : Dev :=
  let d := d.modLane l (fun x =>
    let x := (((x.noteExc n 10).dropTask n).inc (Reg.CHE_OVR_CNT.OVR n)).wr (Reg.CHE_SLACK_LAST.OVR n) 1
    x.wr Reg.CHE_SPEC_STAT.PROPOSED 0)
  let d := match d.adopted l with
    | some c =>
      let b := (d.lane l).rd (Reg.CHE_TASK_CFG.SRC n) == 1
      if (d.lane l).isControl n && !((d.comp c).bridge b).released then d.modComp c (·.missRelease b) else d
    | none => d
  (d.raise l 17 sevFault (n + 4096 * (d.lane l).rd (Reg.CHE_TASK_BUDGET.BUDGET n))).endUnreleased l n

/-- OVERRUN (R84): an activation whose seal has not reached the companion at t_A + BUDGET. -/
def execOverrun (tm : Nat) (l : LaneId) (task : Nat) (s : State) : Host.Outcome State Fault Refusal :=
  s.act tm (fun _ d =>
    match (d.lane l).eng.liveRuns (task % 16) with
    | r :: _ =>
      if r.tA + (d.lane l).rd (Reg.CHE_TASK_BUDGET.BUDGET (task % 16)) ≤ (d.laneTime l).1 then d.overrun l (task % 16) else d
    | [] => d)

/-! ### Depth (R97, R98, R271, R357) -/

/-- The depth in force in a lane: the smallest proposal among the active lanes, its own taken from the latest heartbeat it
sent as theirs from the latest it received, none counting 0 (R98); 0 while no other active lane was heard within 30 µs (R271),
in HOLD, and in split mode. -/
def Dev.inForce (d : Dev) (l : LaneId) : Nat :=
  let x := d.lane l
  let others := allLanes.filter (fun r => r != l && x.rd (Reg.RDN_STAT.LSTATE (laneIdx r)) == 5)
  let fresh := fun (m : Sp Nat) (r : LaneId) => match Sparse.look m (laneIdx r) with
    | some t => decide (d.clk < t + 3000)
    | none => false
  let heard := fun r => fresh x.rdn.hbX r || fresh x.rdn.hbY r
  let prop := fun r => match Sparse.look x.rdn.hb (laneIdx r) with
    | some h => h.depth
    | none => 0
  if d.pwr.state ≠ 0 || !others.any heard then 0
  else (others.map prop).foldl min (x.rdn.sent.elim 0 Heartbeat.depth)

/-- DEPTH_REEVALUATION (R97): after every 64 activations of the speculative task. -/
def Lane.reDepth (l : Lane) : Lane :=
  let p := l.rd Reg.CHE_SPEC_STAT.PROPOSED
  let new :=
    if l.isSplit then 0
    else match l.eng.wSlack with
      | none => p
      | some w =>
        if w < l.rd Reg.CHE_SLACK_CFG.SLACK_LO then p - 1
        else if l.rd Reg.CHE_SLACK_CFG.SLACK_HI ≤ w && l.eng.wStaged then min (p + 1) (l.rd Reg.CHE_SPEC_CFG.MAX_DEPTH)
        else p
  (l.wr Reg.CHE_SPEC_STAT.PROPOSED new).modEng (fun e => { e with wSlack := none, wCount := 0, wStaged := true })

/-- DEPTH_REEVALUATION (R97). -/
def execDepthReevaluation (tm : Nat) (l : LaneId) (s : State) : Host.Outcome State Fault Refusal :=
  s.act tm (fun _ d => if 64 ≤ (d.lane l).eng.wCount then d.modLane l Lane.reDepth else d)

/-! ### Candidates (R89 to R95) -/

/-- The match field of a setpoint (R90). -/
def matchField (v : Dword) : Int := (v.truncate 32).toInt

/-- The four candidate match fields of R90. -/
def candidates (ramp : Bool) (s1 s2 step : Int) : List Int :=
  if ramp then
    let c0 := sat32 (2 * s1 - s2)
    [c0, s1, sat32 (c0 + step), sat32 (c0 - step)]
  else [s1, sat32 (s1 + step), sat32 (s1 - step), sat32 (s1 + 2 * step)]

/-- The candidate values of a lane below a depth, by index; one that equals a lower-indexed one is empty (R90). -/
def Lane.candValues (l : Lane) (depth : Nat) : Sp Dword :=
  match l.eng.s1 with
  | none => []
  | some v1 =>
    let s1 := matchField v1
    let s2 := matchField (l.eng.s2.getD v1)
    let cs := candidates (l.rd Reg.CHE_SPEC_CFG.MODE == 1) s1 s2 (l.rd Reg.CHE_SPEC_STEP.STEP)
    let full := fun (c : Int) => (v1 >>> 32).truncate 32 ++ BitVec.ofInt 32 c
    ((List.range depth).filter (fun k => decide (k < 4) && !(cs.take k).contains (cs.getD k 0))).map
      (fun k => (k, full (cs.getD k 0)))

/-- SPECULATION_WINDOW_OPEN (R89, R91, R95, R98): a seal of the speculative task not later than the staging deadline of
the coming setpoint slot. Earlier candidates are squashed, the depth in force is taken, and the values go to the
companion. -/
def Dev.openWindow (d : Dev) (l : LaneId) (c : CompId) (n : Nat) : Dev :=
  let t := (d.comp c).tcorr
  match d.staging l c t with
  | none => d
  | some (dl, _) =>
    if dl < t then d
    else
      let d := d.squashAll l
      let depth := if d.isActive l && decide ((d.lane l).rd Reg.RDN_STAT.DL ≤ 2) then d.inForce l else 0
      let vals := (d.lane l).candValues depth
      let rot := (d.lane l).rd (Reg.CHX_ROT.ROT n)
      let d := d.modLane l (fun x =>
        let bank := fun (kv : Nat × Dword) => ({ value := kv.2, empty := false, rot := rot, ctx := x.entry n true rot } : Bank)
        let x := x.modEng (fun e => { e with winOpen := true, deadline := dl, depth := depth
                                             banks := vals.map (fun kv => (kv.1, bank kv)) })
        vals.foldl (fun x kv => x.wr (Reg.CHE_SPEC_STAT.BUSY kv.1) 1) (x.wr Reg.CHE_SPEC_STAT.DEPTH depth))
      d.modComp c (fun x => { x with lower := { x.lower with candVal := vals, candDepth := depth, staged := [] } })

/-- The store-buffer byte at an address, if the candidate wrote it (R93). -/
def Bank.sbByte (b : Bank) (a : Nat) : Option Byte :=
  match b.sbuf.find? (fun e => e.word == a / 8) with
  | some e => if e.mask.getLsbD (a % 8) then some (e.data.extractLsb' (8 * (a % 8)) 8) else none
  | none => none

/-- Bytes as a candidate run sees them: SETPOINT of its INPUT partition is the candidate value (R68, R93). -/
def Bank.bytes (b : Bank) (m : LaneMem) (spAddr a n : Nat) : List Byte :=
  (List.range n).map (fun i =>
    let x := a + i
    match b.sbByte x with
    | some v => v
    | none =>
      if spAddr ≤ x && decide (x < spAddr + 8) then b.value.extractLsb' (8 * (x - spAddr)) 8 else m.byte x)

/-- CANDIDATE_STAGED (R95): a sealed candidate's FABRIC_OUT reaches echo staging slot `k` not later than the staging
deadline. Bytes that the candidate did not store are read from SRAM at this instant (DESIGN CHOICE, log 110). -/
def execCandidateStaged (tm : Nat) (l : LaneId) (k : Nat) (s : State) : Host.Outcome State Fault Refusal :=
  s.actR tm (fun _ m d =>
    let x := d.lane l
    let b := Sparse.get {} x.eng.banks k
    match d.adopted l, x.specTask with
    | some c, some n =>
      if !b.empty && b.sealed && !b.staged && x.eng.winOpen && decide ((d.comp c).tcorr ≤ x.eng.deadline) && decide (k < 4) then
        let out := b.bytes (m.lane l) (x.baseOf n 5 + 0x28) (x.baseOf n 6 + 0x10) 48
        let d := d.modLane l (fun x => (x.modEng (fun e => { e with
          banks := Sparse.put e.banks k { b with staged := true } })).wr (Reg.CHE_SPEC_STAT.STAGED k) 1)
        d.modComp c (fun y => { y with lower := { y.lower with staged := Sparse.put y.lower.staged k out } })
      else d
    | _, _ => d)

/-- STAGING_DEADLINE (R89, R104): the window closes; unsealed and unstaged candidates are squashed. -/
def execStagingDeadline (tm : Nat) (l : LaneId) (s : State) : Host.Outcome State Fault Refusal :=
  s.act tm (fun _ d =>
    let x := d.lane l
    if x.eng.winOpen && decide (x.eng.deadline ≤ (d.laneTime l).1) then
      (d.closeWin l).squash l (x.eng.live.filter (fun k => !(Sparse.get {} x.eng.banks k).staged))
    else d)

/-- A store of an activation to a SHARED partition whose mask holds the speculative task squashes the candidate runs that
have started (R96). -/
def Dev.sharedStore (d : Dev) (l : LaneId) (n a : Nat) : Dev :=
  let x := d.lane l
  match x.specTask with
  | some sp =>
    if sp ≠ n && (List.range 32).any (fun k => x.inPart k a && x.partKind k == 4 && x.inMask k sp) then
      d.squash l (x.eng.live.filter (fun k => (Sparse.get {} x.eng.banks k).started))
    else d
  | none => d

/-! ### The seal (R61, R69, R83, R267, R291) -/

/-- The output block in an OUTPUT partition (R69). -/
def outBlock (m : LaneMem) (base : Nat) : OutBlock :=
  { dutyU := m.num base 2, dutyV := m.num (base + 2) 2, dutyW := m.num (base + 4) 2, enable := hasBit (m.num (base + 6) 2) 0
    iLimit := m.num (base + 8) 2, sbcReq := m.num (base + 10) 2 % 16, fabOut := m.bytes (base + 0x10) 48 }

/-- One byte into the CRC-64 of R267: most significant bit first, polynomial 0x42F0E1EBA9EA3693, not reflected. -/
def crc64Byte (crc : BitVec 64) (v : Byte) : BitVec 64 :=
  (List.range 8).foldl (fun c _ => if c.msb then (c <<< 1) ^^^ 0x42F0E1EBA9EA3693#64 else c <<< 1)
    (crc ^^^ (v.zeroExtend 64 <<< 56))

/-- The CRC-64 of R267. -/
def crc64 (bs : List Byte) : BitVec 64 := ~~~ (bs.foldl crc64Byte (BitVec.allOnes 64))

/-- The digest of an activation of the voted task (R267). -/
def Lane.digestOf (l : Lane) (m : LaneMem) (r : Run) : Nat :=
  let base := l.baseOf r.task 6
  (crc64 (leBytes 8 r.key ++ leBytes 8 r.sp.toNat ++ m.bytes (base + 0x0A) 2 ++
    m.bytes (base + 0x40) (l.rd Reg.RDN_CFG.VOTE_LEN))).toNat

/-- A seal of the voted task: key and digest, and the evidence of the span that ends with it (R263, R267). -/
def Lane.digestSeal (l : Lane) (m : LaneMem) (r : Run) : Lane :=
  if l.flag Reg.RDN_CFG.VOTE_EN && l.rd Reg.RDN_CFG.VOTE_TASK == r.task then
    let dg := l.digestOf m r
    (({ l with rdn := { l.rdn with key := r.key, digest := dg, evidKey := l.rdn.evid, evid := false } }.wr
      Reg.RDN_DIG_LO.DIGEST dg).wr Reg.RDN_DIG_HI.DIGEST (dg / 2 ^ 32))
  else l

/-- Slack of a sealed activation in the registers, and in the span of R97. -/
def Lane.slackSeal (l : Lane) (n slack : Nat) : Lane :=
  let l := (l.wr (Reg.CHE_SLACK_LAST.SLACK n) slack).wr (Reg.CHE_SLACK_LAST.OVR n) 0
  let l := if slack < l.rd (Reg.CHE_SLACK_MIN.MIN n) then l.wr (Reg.CHE_SLACK_MIN.MIN n) slack else l
  let l := l.wr (Reg.CHE_OVR_CNT.CONSEC n) 0
  l.modEng (fun e => { e with
    wSlack := if l.rd (Reg.CHE_TASK_CFG.SRC n) < 2 then some (min (e.wSlack.getD slack) slack) else e.wSlack
    wCount := if l.specTask = some n then e.wCount + 1 else e.wCount })

/-- The copies that the master sends to lane D at a seal of task `n` (R291): the windows of the partitions it owns, and
the lane context at a seal of the voted task. -/
def Lane.copiesAt (l : Lane) (who : LaneId) (m : LaneMem) (r : Run) : List Copy :=
  let c : Copy := { src := laneIdx who, key := r.key, part := none, bytes := [], s1 := l.eng.s1, s2 := l.eng.s2
                    force := l.eng.spForce, next := l.eng.spNext, dl := l.rd Reg.RDN_STAT.DL
                    jseq := l.rd Reg.RDN_JSEQ.JSEQ, epoch := l.epoch }
  let win := fun k => { c with part := some k
                               bytes := m.bytes (l.rd (Reg.CHE_PART_BASE.BASE k) * 4096) (l.rd Reg.RDN_CFG.XFER_LEN * 64) }
  let parts := (List.range 32).filter (fun k => l.flag (Reg.CHE_PART_ATTR.EN k) && l.flag (Reg.CHE_PART_ATTR.XFER k) &&
    (l.partKind k == 3 || l.partKind k == 4) && l.maskOwner k == some r.task)
  parts.map win ++ (if l.rd Reg.RDN_CFG.VOTE_TASK = r.task then [c] else [])

/-- STATE_COPY_SEND (R291): by the master while the transfer runs, until lane D's first activation of the owner. -/
def Dev.sendCopies (d : Dev) (l : LaneId) (m : LaneMem) (r : Run) : Dev :=
  if (d.lane l).rdn.xferring && !Sparse.get false d.lD.eng.begun r.task then
    d.modLane l (fun x =>
      let cs := x.copiesAt l m r
      { x with rdn := { x.rdn with copies := x.rdn.copies ++ cs }, regs := x.regs.addSat Reg.RDN_XFER.COPIES cs.length })
  else d

/-- The release that a seal makes, where the task has an OUTPUT partition (R61, R69). -/
def Lane.releaseSeal (l : Lane) (m : LaneMem) (r : Run) (tS : Nat) : Lane :=
  if l.hasOutput r.task then
    let rel : Release := { bridge := l.rd (Reg.CHE_TASK_CFG.SRC r.task) % 2, task := r.task, tA := r.tA, tSeal := tS
                           key := r.key, out := outBlock m (l.baseOf r.task 6) }
    l.modEng (fun e => { e with outbox := e.outbox ++ [rel] })
  else l

/-- A seal of the running activation of a stream, at T_corr `tS` not later than t_A + BUDGET (R61, R82, R83): slack,
release, digest, copies; then the window of R89, the chained activations of R71, and the next run. -/
def Dev.sealRun (m : Mems) (d : Dev) (l : LaneId) (c : CompId) (h1 : Bool) (r : Run) (tS : Nat) : Mems × Dev :=
  let slack := (d.lane l).rd (Reg.CHE_TASK_BUDGET.BUDGET r.task) - (tS - r.tA)
  let d := d.modLane l (fun x =>
    let x := x.modHalf h1 Half.clear
    ((x.slackSeal r.task slack).releaseSeal (m.lane l) r tS).digestSeal (m.lane l) r)
  let d := d.sendCopies l (m.lane l) r
  let d := if (d.lane l).specTask = some r.task then d.openWindow l c r.task else d
  d.sourceEvents m l (fun n => (d.lane l).rd (Reg.CHE_TASK_CFG.SRC n) == 3 && (d.lane l).rd (Reg.CHE_TASK_CFG.CHAIN n) == r.task)
    r.idx tS r.key false

/-- SEAL in an activation: an overrun where the strobe comes after t_A + BUDGET, or the lane drives no companion. -/
def Dev.sealAct (m : Mems) (d : Dev) (l : LaneId) (h1 : Bool) (r : Run) : Mems × Dev :=
  match d.adopted l with
  | some c =>
    let tS := (d.laneTime l).1
    if tS ≤ r.tA + (d.lane l).rd (Reg.CHE_TASK_BUDGET.BUDGET r.task) then Dev.sealRun m d l c h1 r tS
    else (m, d.overrun l r.task)
  | none => (m, d.modLane l (·.dropRun h1))

/-- SEAL in a candidate run (R95): the bank keeps its result until it is staged. -/
def Lane.sealCand (l : Lane) (k : Nat) : Lane :=
  (l.modEng (fun e => { e with banks := Sparse.put e.banks k { (Sparse.get {} e.banks k) with started := true, sealed := true } })).wr
    (Reg.CHE_SPEC_STAT.BUSY k) 0

end Sys2Proof.Machine
end

