-- ==== Sys2Proof/Machine/Periods.lean ====
section
/-!
DEFINITION. The activation periods of tasks (R482), the XFER partitions (R67, R291), and the source events that fail to occur
while lane D is brought in.
-/
namespace Sys2Proof.Machine

/-! ### Activation periods (R482) -/

/-- The task at the root of a chain, and the source events of the root for one activation of task `n` (R71, R485); none for
a chain without root. -/
def Lane.rootOf (l : Lane) : Nat → Nat → Nat → Option (Nat × Nat)
  | 0, _, _ => none
  | fuel + 1, n, k =>
    let k := k * (l.rd (Reg.CHE_TASK_CFG.DIV n) + 1)
    if l.rd (Reg.CHE_TASK_CFG.SRC n) = 3 then l.rootOf fuel (l.rd (Reg.CHE_TASK_CFG.CHAIN n)) k else some (n, k)

/-- Every `k`-th element of a list from the first. -/
def everyNth (k : Nat) (xs : List Nat) : List Nat :=
  ((xs.zip (List.range xs.length)).filter (fun p => p.2 % k == 0)).map Prod.fst

/-- The intervals between the action points of the source events that activate a task with SRC FABRIC, one in `k`, over the
table and across cycle ends. -/
def Comp.fabricGaps (x : Comp) (l : Lane) (n k : Nat) : List Nat :=
  let pts := (x.slotsWhere l (fun e => entIsRx e 1 && entRxTask e == n)).map x.action
  let evs := everyNth k ((List.range k).flatMap (fun i => pts.map (· + i * l.cycleLen)))
  match evs with
  | [] => []
  | e :: _ => (evs.zip (evs.drop 1 ++ [e + k * l.cycleLen])).map (fun p => p.2 - p.1)

/-- The longest and the shortest activation period of task `n` in ticks (R482). -/
def Comp.taskPeriods (x : Comp) (l : Lane) (n : Nat) : Option (Nat × Nat) :=
  match l.rootOf 17 n 1 with
  | none => none
  | some (r, k) =>
    let src := l.rd (Reg.CHE_TASK_CFG.SRC r)
    if src < 2 then
      let p := x.rd (Reg.PWM_CFG.PERIOD src)
      some ((p + 4) * k, (p - 4) * k)
    else
      match x.fabricGaps l r k with
      | [] => none
      | g :: gs => some (gs.foldl max g, gs.foldl min g)

/-- The XFER partitions of a lane (R67). -/
def Lane.xferParts (l : Lane) : List Nat :=
  (List.range 32).filter (fun k => l.flag (Reg.CHE_PART_ATTR.EN k) && l.flag (Reg.CHE_PART_ATTR.XFER k) &&
    (l.partKind k == 3 || l.partKind k == 4))

/-- Those whose windows the master can take: a task owns them (R291). -/
def Lane.xferOwned (l : Lane) : List Nat := l.xferParts.filter (fun k => (l.maskOwner k).isSome)

/-- The periods of the tasks that own XFER partitions. -/
def Comp.xferPeriods (x : Comp) (l : Lane) : List (Nat × Nat) :=
  l.xferParts.filterMap (fun k => (l.maskOwner k).bind (x.taskPeriods l))

/-! ### Events that fail to occur during a bring-in (R482) -/

/-- The instant of source event `e` of the FABRIC slots `pts` (action points after a cycle start), in ticks of cycle time. -/
def eventAt (pts : List Nat) (cycle e : Nat) : Nat := e / pts.length * cycle + pts.getD (e % pts.length) 0

/-- The intervals by which the limit on t_X is extended for task `n` in cycle `cyc` at a companion (R482): one for each
activating event of the FABRIC task at its root whose slot brought no frame with data, up to the next activating event.
`acts` are the slots that did. -/
def Comp.missedGaps (x : Comp) (l : Lane) (n cyc : Nat) (acts : List Nat) : List Nat :=
  match l.rootOf 17 n 1 with
  | some (r, k) =>
    if l.rd (Reg.CHE_TASK_CFG.SRC r) = 2 then
      let slots := x.slotsWhere l (fun e => entIsRx e 1 && entRxTask e == r)
      let pts := slots.map x.action
      ((slots.zip (List.range slots.length)).filter (fun p => (cyc * slots.length + p.2) % k == 0 && !acts.contains p.1)).map
        (fun p =>
          let e := cyc * slots.length + p.2
          eventAt pts l.cycleLen (e + k) - eventAt pts l.cycleLen e)
    else []
  | none => []

/-- A cycle of the master's node ends while lane D is brought in: the limit on t_X is extended for each task that owns an XFER
partition by what its missed events cost (R290, R482). -/
def Dev.fabricMisses (d : Dev) (c : CompId) (l : LaneId) : Dev :=
  match d.wit.bring with
  | some b =>
    if d.wit.powered && d.master == some l && b.tX.isNone && decide (max (b.tL + 410000) b.masterAt ≤ d.clk) then
      let x := d.lane l
      let owners := (x.xferOwned.filterMap x.maskOwner).eraseDups
      d.modWit (fun w => { w with bring := some { b with
        late := owners.foldl (fun m n => Sparse.set 0 m n (Sparse.get 0 m n +
          ((d.comp c).missedGaps x n x.fab.cycle x.fab.acts).foldl (· + ·) 0)) b.late } })
    else d
  | none => d

end Sys2Proof.Machine
end

