-- ==== Sys2Proof/Machine/Queues.lean ====
section
/-!
DEFINITION. The packing queues of a companion (R349 to R356): items packed into words, items dropped and gap markers,
flushes, the idle timeout, the pointer check, and the delivery of received items into Chord SRAM.
-/
namespace Sys2Proof.Machine

/-! ### Words and losses (R349 to R351) -/

/-- Causes of a gap marker (R350). -/
def gapFull : Nat := 1
def gapFlush : Nat := 2
def gapPtr : Nat := 5
def gapSize : Nat := 6
def gapErr : Nat := 7

/-- Words a queue holds at most (FQ_STAT.WORDS). -/
def fqDepth : Nat := 512

/-- A gap marker (R350). -/
def gapWord (cause n : Nat) : FqWord := { gap := true, start := true, last := true, cnt := 0, data := cause * 2 ^ 56 + n % 2 ^ 32 }

/-- Words of the item that is not complete, withdrawn from the tail. -/
def Fq.withdraw (f : Fq) : Fq := { f with words := (f.words.reverse.dropWhile (fun w => !w.last)).reverse }

/-- A waiting gap marker is written once a word is free (R351), and not within an item. -/
def Fq.writeGap (f : Fq) : Fq :=
  match f.gapPend with
  | some (cause, n) =>
    if f.words.length < fqDepth && !f.inItem then { f with words := f.words ++ [gapWord cause n], gapPend := none } else f
  | none => f

/-- `n` items are lost for a cause (R350, R351): added to a stored marker with no item after it or to the waiting one, else
a marker of their own. -/
def Fq.lose (f : Fq) (cause n : Nat) : Fq :=
  match f.gapPend with
  | some (c, k) => { f with gapPend := some (c, k + n) }.writeGap
  | none =>
    match f.words.getLast? with
    | some w =>
      if w.gap && !f.inItem then { f with words := f.words.dropLast ++ [{ w with data := w.data / 2 ^ 32 * 2 ^ 32 + (w.data % 2 ^ 32 + n) % 2 ^ 32 }] }
      else { f with gapPend := some (cause, n) }.writeGap
    | none => { f with gapPend := some (cause, n) }.writeGap

/-- The open item is dropped whole and the rest of it discarded up to the next item start (R351). -/
def Fq.dropItem (f : Fq) (cause : Nat) : Fq := ({ f.withdraw with pack := [], inItem := false, skip := true }).lose cause 1

/-! ### The producer (R349) -/

/-- The packing register is written as one word; a full queue drops the item (R349, R351). The second part counts items
dropped. -/
def Fq.flushPack (f : Fq) (last : Bool) : Fq × Nat :=
  if fqDepth ≤ f.words.length then (f.dropItem gapFull, 1)
  else
    let w : FqWord := { gap := false, start := f.first, last := last, cnt := if last then f.pack.length % 8 else 0
                        data := leNat f.pack }
    ({ f with words := f.words ++ [w], pack := [], first := false, inItem := !last }, 0)

/-- The open item ends: by its end strobe, by the next item start or by the idle timeout (R349). With an empty packing
register its latest word becomes the LAST one. -/
def Fq.endItem (f : Fq) : Fq × Nat :=
  if !f.inItem then (f, 0)
  else if f.pack.isEmpty then
    match f.words.getLast? with
    | some w => ({ f with words := if f.first then f.words else f.words.dropLast ++ [{ w with last := true, cnt := 0 }], inItem := false }, 0)
    | none => ({ f with inItem := false }, 0)
  else f.flushPack true

/-- The first byte of an item: the item before it ends; while a gap marker waits the new one is dropped and counted
(R349, R351). -/
def Fq.startItem (f : Fq) : Fq × Nat :=
  let r := f.endItem
  if r.1.gapPend.isSome then ({ r.1 with skip := true, inItem := false }.lose gapFull 1, r.2 + 1)
  else ({ r.1 with skip := false, inItem := true, first := true, pack := [] }, r.2)

/-- One byte of the open item; `fin` where the end strobe comes with it. -/
def Fq.byte (f : Fq) (now : Nat) (v : Byte) (fin : Bool) : Fq × Nat :=
  let f := { f with lastAt := now }
  if f.skip || !f.inItem then (f, 0)
  else
    let f := { f with pack := f.pack ++ [v] }
    if fin then f.flushPack true else if f.pack.length = 8 then f.flushPack false else (f, 0)

/-- The bytes of an item in order. -/
def Fq.bytes (now : Nat) (ended : Bool) : List Byte → Fq × Nat → Fq × Nat
  | [], r => r
  | v :: t, r =>
    let q := r.1.byte now v (ended && t.isEmpty)
    Fq.bytes now ended t (q.1, r.2 + q.2)

/-- A producer's item (R349); one without a byte is none. -/
def Fq.put (f : Fq) (now : Nat) (bs : List Byte) (ended : Bool) : Fq × Nat :=
  if bs.isEmpty then (f, 0) else Fq.bytes now ended bs f.startItem

/-! ### The consumer (R350, R355, R356) -/

/-- The first complete item or gap marker: its words, and the queue without them. -/
def Fq.takeItem (f : Fq) : Option (List FqWord × Fq) :=
  match f.words.findIdx? FqWord.last with
  | some i => some (f.words.take (i + 1), { f with words := f.words.drop (i + 1) })
  | none => none

/-- The bytes of an item. -/
def itemBytes (ws : List FqWord) : List Byte :=
  ws.flatMap (fun w => leBytes (if w.last && w.cnt != 0 then w.cnt else 8) w.data)

/-- Complete items stored, without gap markers; and the count that stored and waiting markers carry. -/
def Fq.items (f : Fq) : Nat := (f.words.filter (fun w => w.last && !w.gap)).length
def Fq.carried (f : Fq) : Nat :=
  ((f.words.filter FqWord.gap).map (fun w => w.data % 2 ^ 32)).foldl (· + ·) (match f.gapPend with
    | some (_, n) => n
    | none => 0)

/-- The queue is emptied (R352, R354): every word and the packing register are discarded, the current item is cut, and a
marker counting every discarded item becomes the first entry. The second part counts the items discarded now. -/
def Fq.reset (f : Fq) (cause : Nat) : Fq × Nat :=
  let n := f.items + bit f.inItem
  ({ f with words := [gapWord cause (n + f.carried)], pack := [], inItem := false, skip := true, gapPend := none }, n)

/-! ### Queues of a companion -/

/-- FQ_STAT of queue `q` shows the queue. -/
def Comp.fqStat (x : Comp) (q : Nat) (f : Fq) : Comp :=
  ((x.wr (Reg.FQ_STAT.WORDS q) f.words.length).wr (Reg.FQ_STAT.ITEMS q) (min 255 (f.words.filter FqWord.last).length)).wr
    (Reg.FQ_STAT.GAP_PEND q) (bit f.gapPend.isSome)

/-- A queue of a companion changed, with the items it lost for a cause: each loss counts and raises FQ_GAP (R350). -/
def Dev.setFq (d : Dev) (c : CompId) (q : Nat) (cause : Nat) (r : Fq × Nat) : Dev :=
  let d := d.modComp c (fun x =>
    let x := { x with lower := { x.lower with queues := Sparse.put x.lower.queues q r.1 } }.fqStat q r.1
    { x with regs := x.regs.addSat (Reg.FQ_GAPCNT.COUNT q) r.2 })
  if r.2 = 0 then d else d.raiseC c false 105 sevDiag (q + 256 * cause)

/-- A queue of a companion. -/
def Comp.fq (x : Comp) (q : Nat) : Fq := Sparse.get {} x.lower.queues q

/-- A queue is enabled. -/
def Comp.fqOn (x : Comp) (q : Nat) : Bool := x.flag (Reg.FQ_CFG.EN q)

/-- The check of the pointer copies at an update (R354): on a mismatch the queue is reset and FQ_PTR raised. -/
def Dev.fqCheck (d : Dev) (c : CompId) (q : Nat) (ptrBad : Bool) : Dev :=
  if ptrBad then (d.setFq c q gapPtr (((d.comp c).fq q).reset gapPtr)).raiseC c false 106 sevFault q else d

/-- A producer's item goes into queue `q` of a companion (R349, R354). -/
def Dev.fqPut (d : Dev) (c : CompId) (q : Nat) (bs : List Byte) (ended ptrBad : Bool) : Dev :=
  if (d.comp c).fqOn q then (d.setFq c q gapFull (((d.comp c).fq q).put d.clk bs ended)).fqCheck c q ptrBad else d

/-- A flush of queue `q` takes effect (R352). -/
def Dev.fqFlushNow (d : Dev) (c : CompId) (q : Nat) : Dev :=
  if (d.comp c).fqOn q then d.setFq c q gapFlush (((d.comp c).fq q).reset gapFlush) else d

/-- The companion flushes every queue (R352). -/
def Dev.fqFlushAll (d : Dev) (c : CompId) : Dev := d.each (List.range 16) (fun d q => d.fqFlushNow c q)

/-! ### Commands -/

/-- FQ_IDLE_TIMEOUT (R353): the packing register has held bytes of an item for IDLE µs without another. -/
def execFqIdleTimeout (tm : Nat) (c : CompId) (n : Nat) (s : State) : Host.Outcome State Fault Refusal :=
  s.act tm (fun t d =>
    let f := (d.comp c).fq n
    if n < 16 && (d.comp c).powered && (d.comp c).fqOn n && f.inItem && !f.pack.isEmpty &&
        decide (f.lastAt + (d.comp c).rd (Reg.FQ_CFG.IDLE n) * 100 ≤ t) then
      d.setFq c n gapFull f.endItem
    else d)

/-- FQ_FLUSH (R352): a lane writes FQ_CTL of its companion; each bit set reads 1 until its flush has taken effect. -/
def Dev.fqFlush (d : Dev) (l : LaneId) (w : Nat) : Dev :=
  match d.reaches l with
  | some c => d.each ((List.range 16).filter (hasBit w ·)) (fun d q => d.wrC c (Reg.FQ_CTL.FLUSH q) 1)
  | none => d

/-- FQ_FLUSH (R352). -/
def execFqFlush (tm : Nat) (l : LaneId) (w : Nat) (s : State) : Host.Outcome State Fault Refusal :=
  s.act tm (fun _ d => if (d.lane l).powered then d.fqFlush l w else d)

/-- FQ_FLUSH_TAKE_EFFECT (R352): at once, or after the LAST word of the item that the consumer was reading. -/
def execFqFlushTakeEffect (tm : Nat) (c : CompId) (n : Nat) (s : State) : Host.Outcome State Fault Refusal :=
  s.act tm (fun _ d =>
    if n < 16 && (d.comp c).powered && (d.comp c).flag (Reg.FQ_CTL.FLUSH n) then
      (d.wrC c (Reg.FQ_CTL.FLUSH n) 0).fqFlushNow c n
    else d)

/-- FQ_GAP_MARKER_WRITE (R351): a waiting marker is written as soon as a word is free. -/
def execFqGapMarkerWrite (tm : Nat) (c : CompId) (n : Nat) (s : State) : Host.Outcome State Fault Refusal :=
  s.act tm (fun _ d =>
    let f := (d.comp c).fq n
    if n < 16 && (d.comp c).powered && f.gapPend.isSome then d.setFq c n gapFull (f.writeGap, 0) else d)

/-- A record of a receive area (R355): header, payload and 0 to 264 bytes. -/
def rxRecord (ws : List FqWord) (rseq : Nat) : List Byte :=
  let gap := ws.any FqWord.gap
  let w := (ws.head?.map FqWord.data).getD 0
  let pay := if gap then leBytes 4 w else (itemBytes ws).take 256
  leBytes 2 pay.length ++ leBytes 1 (bit gap) ++ leBytes 1 (if gap then w / 2 ^ 56 else 0) ++ leBytes 4 rseq ++ pay ++
    List.replicate (256 - pay.length) 0

/-- FQ_RX_DELIVER (R355): FAB_RX moves the oldest complete item of an RX queue into the receive area, the header last and
RSEQ after it. -/
def execFqRxDeliver (tm : Nat) (c : CompId) (n : Nat) (ptrBad : Bool) (s : State) : Host.Outcome State Fault Refusal :=
  s.actM tm (fun _ m d =>
    match d.driver c with
    | some l =>
      let x := d.lane l
      let recs := x.rd (Reg.MEM_RXQ_LEN.RECORDS n)
      if n < 8 && (d.comp c).powered && x.powered && (d.comp c).fqOn n && recs != 0 then
        match ((d.comp c).fq n).takeItem with
        | some (ws, f) =>
          let seq := (Sparse.get 0 x.mem.rseq n + 1) % 2 ^ 32
          let base := x.rd (Reg.MEM_RXQ_BASE.BASE n) * 8
          let d := d.modLane l (fun x => { x with mem := { x.mem with rseq := Sparse.set 0 x.mem.rseq n seq } })
          let r := Dev.dma m d l 4 (base + 8 + seq % recs * 264) (rxRecord ws seq)
          let w := Dev.dma r.1 r.2 l 4 base (leBytes 8 seq)
          (w.1, (w.2.setFq c n gapFull (f, 0)).fqCheck c n ptrBad)
        | none => (m, d)
      else (m, d)
    | none => (m, d))

end Sys2Proof.Machine
end

