-- ==== Sys2Proof/Machine/Power.lean ====
section
/-!
DEFINITION. Power states, the entry vote, SLEEP and OFF, the wake bus, held pads and the timebases (R357 to R373).
-/
namespace Sys2Proof.Machine

/-! ### Held pads (R366) -/

/-- A lane's Gnomon releases pad group `n`: its own LANE_IO, or a group of its adopted companion; each release raises
PWR_PAD_REL (R366). A MINIMAL lane never releases GATE or SBC (R388), in SCRAPPED every pad stays held (R382), and so do a
companion's until its switch-control handshake has resumed (R13). -/
def Dev.padRelease (d : Dev) (l : LaneId) (n : Nat) : Dev :=
  let x := d.lane l
  if !x.powered || decide (4 ≤ n) || (x.st == .minimal && (n == 1 || n == 2)) || x.rd Reg.LCS_STATE.STATE == 5 ||
      (n != 0 && (d.adopted l).any (fun c => (d.comp c).handshake)) then d
  else
    let held := if n = 0 then x.flag (Reg.PWR_PAD_STAT.HELD 0)
      else match d.adopted l with
        | some c => hasBit (d.comp c).pads n
        | none => false
    let d := d.modLane l (fun x => (x.wr (Reg.PWR_PAD_RELEASE.RELEASE n) 1))
    if held then
      let d := d.wrL l (Reg.PWR_PAD_STAT.HELD n) 0
      let d := match d.adopted l with
        | some c => if n = 0 then d else d.modComp c (fun y => { y with pads := putBit y.pads n false })
        | none => d
      (d.raise l 107 sevTrace n).settle
    else d

/-- PWR_PAD_STAT of a lane shows the groups of the companion it has adopted (R366). -/
def Dev.padView (d : Dev) (l : LaneId) : Dev :=
  match d.adopted l with
  | some c => [1, 2, 3].foldl (fun d n => d.wrL l (Reg.PWR_PAD_STAT.HELD n) (bit (hasBit (d.comp c).pads n))) d
  | none => d

/-! ### Drive loss of a companion (R266, R281) -/

/-- Lane D, all copies held and without a target, is held hot; journalled as step 11 (R281). -/
def Dev.holdHot (d : Dev) : Dev := d.jstep none 11 3 0 (fun d => d.hot true)

/-- The drive of the companion that lane D is being brought in to is lost before its switch opened: lane D is held hot
(R294). -/
def Dev.targetLost (d : Dev) (c : CompId) : Dev :=
  match d.wit.bring with
  | some b =>
    if d.wit.powered && b.target == some c && !b.opened then
      let d := d.modWit (fun w => { w with bring := some { b with target := none } })
      if b.tX.isSome then d.holdHot else d
    else d
  | none => d

/-- A companion's drive is lost: reported to the witness, which decides the loss of the lane that drives it; without a
witness the driving lane decides its own (R266). -/
def Dev.driveLost (d : Dev) (c : CompId) : Dev :=
  let d := d.wrC c Reg.CMPS_SW.DRIVE_LOST 1
  let d := if d.wit.powered then d.modWit (·.wr (Reg.WIT_SW.DRIVE_LOST (compIdx c)) 1) else d
  let d := d.targetLost c
  match d.selected c with
  | some l => if (d.lane l).st = .active ∨ (d.lane l).st = .spareWaking then
      d.decideLoss l 0x0A (if d.wit.powered then 1 else 3) else d.sendMasks
  | none => d.sendMasks

/-! ### The entry vote (R362, R363) -/

/-- Lanes whose start runs: BOOT, CALIB or SELFTEST within 160 ms of t_S (R394). -/
def Dev.starting (d : Dev) : Bool :=
  [LaneId.A, .B, .C].any (fun l =>
    ((d.lane l).st == .boot || (d.lane l).st == .calib || (d.lane l).st == .selftest) &&
    (match (d.lane l).start.tS with
      | some t => decide (d.clk < t + 16000000)
      | none => false))

/-- A journal step that is BEGUN and has neither DONE nor REFUSED (R362, R287). -/
def openStep (j : List JRec) : Bool :=
  j.any (fun r => r.status == 0 &&
    !(j.any (fun q => q.step == r.step && q.target == r.target && decide (r.jseq < q.jseq) && q.status != 0)))

/-- The blocks of a lane and of its adopted companion that refuse a state, least code first (R362). -/
def Dev.refusals (d : Dev) (l : LaneId) (target : Nat) : List Nat :=
  let x := d.lane l
  let low := decide (3 ≤ target)
  let doze := decide (2 ≤ target)
  let c := (d.adopted l).map d.comp
  let any := fun (p : Comp → Bool) => match c with
    | some y => p y
    | none => false
  let pos := fun (y : Comp) => [false, true].any (fun b =>
    y.flag (Reg.POS_CFG.EN (bit b)) && (Sparse.get {} y.front.chans (bit b)).spdQ != 1)
  let sbc := fun (y : Comp) => [0, 1].any (fun j => y.flag (Reg.SBC_CFG.EN j) && (Sparse.get {} y.sbc j).state != 0)
  let chk := fun (p : Bool) (code : Nat) => if p then [code] else []
  chk (d.starting || d.wit.copying.isSome || x.mram.writing) 0x01 ++
  chk (doze && !x.mem.jobs.isEmpty) 0x04 ++
  chk (low && (!x.ring.cpls.isEmpty || !x.bbx.evtq.evts.isEmpty || !x.bbx.logq.recs.isEmpty)) 0x06 ++
  chk (openStep x.rdn.journal || x.rd (Reg.RDN_STAT.LSTATE 3) == 10 || x.flag Reg.RDN_STAT.D_HOT) 0x0B ++
  chk (low && (x.bbx.committing.isSome || x.mram.refresh.isSome)) 0x0F ++
  chk (low && x.flag Reg.DBG_STAT.OPEN) 0x10 ++
  chk (doze && any (fun y => y.b0.held.enable || y.b1.held.enable)) 0x21 ++
  chk (any pos) 0x24 ++
  chk (low && any sbc) 0x27

/-- The witness's refusal of a state (R362). -/
def Dev.witRefusals (d : Dev) (target : Nat) : List Nat :=
  let op := allComps.any (fun c => (d.comp c).sw == .opened)
  if (3 ≤ target ∧ op) ∨ (target = 3 ∧ d.wit.powered ∧ d.wit.retRun = false) then [0x30] else []

/-- The voters on a power state: the lanes in READY, ACTIVE and MINIMAL, and the witness, 4 (R362). -/
def Dev.voters (d : Dev) : List Nat :=
  (allLanes.filter (fun l => (d.lane l).powered && ((d.lane l).st == .ready || (d.lane l).st == .active ||
    (d.lane l).st == .minimal))).map laneIdx ++ [4]

/-- A refused entry is recorded in the requesting lane (R362). -/
def Dev.refuse (d : Dev) (l : LaneId) (block who target : Nat) : Dev :=
  d.modLane l (fun x => (((x.inc Reg.PWR_REFUSE_CNT.COUNT).wr Reg.PWR_REFUSE_WHO.BLOCK block).wr Reg.PWR_REFUSE_WHO.LANE
    (who % 4)).wr Reg.PWR_REFUSE_WHO.REQ target)

/-- The vote ends: no state is under vote. -/
def Dev.endVote (d : Dev) (l : LaneId) : Dev :=
  ({ d with pwr := { d.pwr with vote := none } }).modLane l (fun x =>
    ({ x with ring := { x.ring with power := none } }.wr Reg.PWR_STATE.REQ 7).wr Reg.PWR_STATE.VOTING 0)

/-- The lanes decided lost, as bits (R363). -/
def Dev.lostLanes (d : Dev) : Nat := bitsOf 4 (fun i => (d.lane (laneOf i)).st == .suspect || (d.lane (laneOf i)).st == .retired)

/-- A vote in which every voter has answered concludes (R362): any refusal completes the POWER_REQ BUSY; otherwise it
completes OK and the entry waits for the acknowledgement. -/
def Dev.concludeVote (d : Dev) (v : Vote) : Dev :=
  match (v.answers.filter (fun a => a.2 != 0)).head? with
  | some (who, block) =>
    let d := (d.endVote v.lane).refuse v.lane block who v.target
    d.complete v.lane v.cmd codeBusy 0 block []
  | none =>
    let d := d.endVote v.lane
    let idx := (d.lane v.lane).rd (Reg.RNG_IDX.IDX 4)
    let d := d.complete v.lane v.cmd codeOk 0 0 []
    { d with pwr := { d.pwr with passed := some (v.target, v.lane, idx), passDl := d.level, passLost := d.lostLanes } }

/-- POWER_VOTE_REQUEST (R362): a lane polls its blocks on the request. -/
def execPowerVoteRequest (tm : Nat) (l : LaneId) (s : State) : Host.Outcome State Fault Refusal :=
  s.act tm (fun _ d =>
    match d.pwr.vote with
    | some v =>
      if d.voters.contains (laneIdx l) then
        let code := (d.refusals l v.target).headD 0
        { d with pwr := { d.pwr with vote := some { v with answers := Sparse.put v.answers (laneIdx l) code } } }
      else d
    | none => d)

/-- POWER_VOTE_ANSWER (R362): a voter's answer reaches the requesting lane; the last one concludes the vote. -/
def execPowerVoteAnswer (tm : Nat) (v : Nat) (s : State) : Host.Outcome State Fault Refusal :=
  s.act tm (fun _ d =>
    match d.pwr.vote with
    | some w =>
      let w := if v = 4 ∧ d.wit.powered then
          { w with answers := Sparse.put w.answers 4 ((d.witRefusals w.target).headD 0) }
        else w
      if (Sparse.look w.answers v).isSome then
        let w := { w with got := if w.got.contains v then w.got else v :: w.got }
        if d.voters.all (fun i => w.got.contains i) then d.concludeVote w
        else { d with pwr := { d.pwr with vote := some w } }
      else d
    | none => d)

/-- POWER_VOTE_TIMEOUT (R324, R362): a vote not concluded within 10 ms completes TIMEOUT. -/
def execPowerVoteTimeout (tm : Nat) (s : State) : Host.Outcome State Fault Refusal :=
  s.act tm (fun t d =>
    match d.pwr.vote with
    | some v => if v.at_ + 1000000 ≤ t then (d.endVote v.lane).complete v.lane v.cmd codeTimeout 0 0 [] else d
    | none => d)

/-! ### Entering a state (R357, R358, R364) -/

/-- Body bias of a block and state of a memory array (R360). -/
inductive Bias where
  | fwd
  | rev
  | unpowered
deriving DecidableEq, Repr

inductive Assist where
  | assist
  | retain
  | unpowered
deriving DecidableEq, Repr

/-- The settings of a power state for lanes A to C (R360): the Chord slices, the Gnomon with ring engine and fabric upper layer,
the Chord SRAM arrays and the supervisor SRAM. -/
def biasOf (state : Nat) : Bias × Bias × Assist × Assist :=
  if state ≤ 1 then (.fwd, .fwd, .assist, .assist)
  else if state = 2 then (.rev, .fwd, .retain, .assist)
  else (.unpowered, .unpowered, .unpowered, .unpowered)

/-- Every candidate of every active lane is squashed and the depth in force is 0 (R357, HOLD). -/
def Dev.stopRunAhead (d : Dev) : Dev :=
  d.each d.actives (fun d l => ((d.squashAll l).wrL l Reg.CHE_SPEC_STAT.DEPTH 0))

/-- SLEEP_ENTRY (R364): companions stop PWM and measurement and latch their pads; lanes close their windows, commit their
recorders and write their wear records. -/
def Dev.sleepEntry (d : Dev) (target : Nat) : Dev :=
  let d := { d with pwr := { d.pwr with tK := some (d.clk, target) } }
  let d := d.each allComps (fun d c => d.modComp c (fun x =>
    { x with pads := 14, b0 := x.b0.dropOutputs, b1 := x.b1.dropOutputs }))
  Dev.settle <| d.each (allLanes.filter (fun l => (d.lane l).powered)) (fun d l =>
    let d := d.modLane l (fun x =>
      let x := (List.range 4).foldl (fun x n => (x.wr (Reg.PWR_PAD_STAT.HELD n) 1).wr (Reg.PWR_PAD_RELEASE.RELEASE n) 0) x
      let x := x.closeWindow
      let x := match x.bbx.committing with
        | some k => x.commit k false
        | none => x
      (List.range (x.bbx.page.length / 63 + 1)).foldl (fun x _ => if x.bbx.page.isEmpty then x else x.writePage d.clk) x)
    d.writeWear l)

/-- The device enters a lower state after its completion was acknowledged (R324, R357, R364). -/
def Dev.enterState (d : Dev) (target : Nat) : Dev :=
  if target = 1 then (d.setPower 1).stopRunAhead
  else if target = 2 then
    (d.setPower 2).stopRunAhead.each allComps (fun d c => d.modComp c (fun x =>
      { x with b0 := x.b0.dropOutputs, b1 := x.b1.dropOutputs })) |>.settle
  else d.sleepEntry target

/-- The completion of a passed POWER_REQ is acknowledged (R324, R363): the entry begins, unless a loss, a level change or
a refusal has come up since, which abandons it and is recorded as a refusal. -/
def Dev.powerAcked (d : Dev) (l : LaneId) (idx : Nat) : Dev :=
  match d.pwr.passed with
  | some (target, r, i) =>
    if r = l ∧ i = idx then
      let d := { d with pwr := { d.pwr with passed := none } }
      if d.level ≠ d.pwr.passDl ∨ d.lostLanes ≠ d.pwr.passLost then d.refuse l 0x0B (laneIdx l) target
      else
        let who := (allLanes.filter (fun r => d.voters.contains (laneIdx r))).flatMap (fun r =>
          (d.refusals r target).map (fun b => (laneIdx r, b)))
        match who ++ (d.witRefusals target).map (fun b => (4, b)) with
        | (v, b) :: _ => d.refuse l b v target
        | [] => d.enterState target
    else d
  | none => d

/-- A POWER_REQ that passed its checks is performed (R362): a wake or the present state completes OK; a request while a
vote runs completes BUSY with block code 0x0C; a lower state is put to a vote. -/
def Dev.powerReq (d : Dev) (l : LaneId) (c : Cmd) (target : Nat) : Dev :=
  if d.pwr.vote.isSome ∨ d.pwr.passed.isSome then d.complete l c codeBusy 0 0x0C []
  else if target = d.pwr.state then d.complete l c codeOk 0 0 []
  else if target < d.pwr.state then
    let d := d.complete l c codeOk 0 0 []
    if d.pwr.state = 2 ∧ target = 0 then d.wakeDoze 4 0 else d.setPower target
  else
    ({ d with pwr := { d.pwr with vote := some { lane := l, cmd := c, target := target, at_ := d.clk } } }).modLane l (fun x =>
      ({ x with ring := { x.ring with power := some c } }.wr Reg.PWR_STATE.REQ target).wr Reg.PWR_STATE.VOTING 1)

/-- What a companion keeps without power: nothing but its position. -/
def Comp.unpowered : Comp := {}

/-! ### Wake (R365, R367 to R369) -/

/-- A proof wake that runs is aborted: the record reads ABORTED and lane D commits and loses power; the age of the latest
completed proof stands (R20, R296). -/
def Dev.abortProof (d : Dev) : Dev :=
  match d.wit.proving with
  | some _ =>
    let d := d.modWit (fun w => { w with proving := none, proof := 3 })
    d.openD .off
  | none => d

/-- The witness begins a start (R371 to R374): after a lost count the epoch advances and the mark clears once the counter
runs; an aborted or failed latest proof is run again after lanes A to C (R296); then the gating of lanes A to C and the
companions is released. -/
def Dev.beginStart (d : Dev) (src addr : Nat) : Dev :=
  let lost := d.wit.retMark
  let d := d.modWit (fun w =>
    let w := if lost then w.wr Reg.WIT_EPOCH.EPOCH (w.rd Reg.WIT_EPOCH.EPOCH + 1) else w
    let w := { w with lostStart := lost, release := true, dusk := false }
    let w := if w.proof = 2 ∨ w.proof = 3 then { w with keyProof := true, bistQ := [LaneId.D] }.wr (Reg.WIT_BIST.PENDING 3) 1
      else w
    if lost && w.retRun then { w with retMark := false }.wr Reg.WIT_STAT.RET_LOST 0 else w)
  { d with pwr := { d.pwr with
    state := 0, wakeAt := some d.clk, src := src, addr := addr, vote := none, passed := none, discont := [] } }

/-- A matching telegram in WIT_WAKE (R367, R368). -/
def Dev.seeWake (d : Dev) (a : Nat) : Dev :=
  d.modWit (fun w => ((w.wr Reg.WIT_WAKE.SEEN 1).wr Reg.WIT_WAKE.ADDR a).inc Reg.WIT_WAKE.CNT)

/-- RETENTION_EDGE_ENTRY (R364): at a retention edge not earlier than t_K + 2 ms the witness latches N_entry, T_entry and
the epoch; lanes A to C and the companions lose power; then lane D's proof wake begins (R295). Entry to OFF marks the retention
count lost (R371). A wake that arrived after t_K now wakes the device from SLEEP and aborts that proof (R296, R365); OFF ends
only at a power-on (R364; log 135). -/
def execRetentionEdgeEntry (tm : Nat) (s : State) : Host.Outcome State Fault Refusal :=
  s.actP tm (fun t d =>
    match d.pwr.tK with
    | some (tK, target) =>
      if tK + 200000 ≤ t ∧ d.wit.powered then
        let serve := d.servingLane.bind d.adopted
        let tEntry := match serve with
          | some c => (d.comp c).tcorr
          | none => d.tcorrAny
        let d := d.modWit (fun w => { w with nEntry := w.ret, tEntry := tEntry, release := false, bring := none
                                             votes := [], hbAt := [], stAt := [], hb := [], decided := false
                                             readyAt := none, bistQ := [], proving := some (false, t) })
        let d := d.each [LaneId.A, .B, .C] (fun d l => d.modLane l (·.off .off))
        let d := d.each allComps (fun d c => d.setComp c Comp.unpowered)
        let d := d.modWit (fun w => [0, 1, 2].foldl (fun w i => ((((w.wr (Reg.WIT_STAT.LSTATE i) 0).wr (Reg.WIT_SW.POS i)
          0).wr (Reg.WIT_SW.QUAR i) 0).wr (Reg.WIT_SW.DRIVE_LOST i) 0).wr (Reg.WIT_SW.HOLD i) 0)
          (((w.wr Reg.WIT_STAT.MASTER_VALID 0).wr Reg.WIT_STAT.DEVRDY 0).wr Reg.WIT_STAT.DEV_MINIMAL 0))
        let late := target == 3 && (match d.pwr.wakeAt with
          | some w => decide (tK ≤ w)
          | none => false)
        let d := { d with pwr := { d.pwr with tK := none, state := target } }
        let d := if target = 4 then d.modWit (fun w => { w with retMark := true }.wr Reg.WIT_STAT.RET_LOST 1) else d
        let d := d.powerD 1
        if late then ((d.seeWake d.pwr.addr).abortProof).beginStart d.pwr.src d.pwr.addr else d
      else d
    | none => d)

/-- The address of a wake telegram: 16 bits from idle, header 0b1010, 11 address bits most significant first, even
parity over the address; none for any other (R367). -/
def telegramAddr (bits : List Bool) : Option Nat :=
  match bits with
  | true :: false :: true :: false :: rest =>
    if rest.length = 12 then
      let a := rest.take 11
      let par := a.foldl (fun p b => p ^^ b) false
      if rest.getLast? = some par then some (a.foldl (fun n b => 2 * n + bit b) 0) else none
    else none
  | _ => none

/-- Whether an address matches (R368): a node ID of the vault image, or the group address while GRP_EN is set; with the
source code of PWR_WAKE_STAT. -/
def Dev.wakeMatch (d : Dev) (addr : Nat) : Option Nat :=
  match d.wit.image with
  | some img =>
    let w := ((img.laneRegs.find? (fun p => p.1 == 0x4000C004)).map Prod.snd).getD 0
    if img.nodes.contains addr then some 2
    else if Reg.PWR_WAKE_CFG.GRP_EN.of w = 1 ∧ Reg.PWR_WAKE_CFG.GRP.of w = addr then some 3
    else none
  | none => none

/-- WAKE_TELEGRAM_END (R367 to R369, R365): a matching telegram wakes the device from SLEEP or DOZE, and after t_K of an
entry it is kept until the entry completes; in RUN and HOLD it has no effect, in OFF the detector is stopped. -/
def execWakeTelegramEnd (tm : Nat) (bits : List Bool) (s : State) : Host.Outcome State Fault Refusal :=
  s.actP tm (fun _ d =>
    if d.wit.powered && d.pwr.state != 4 then
      match telegramAddr bits with
      | none => d
      | some a =>
        match d.wakeMatch a with
        | none => d
        | some src =>
          if d.pwr.tK.isSome then { d with pwr := { d.pwr with wakeAt := some d.clk, src := src, addr := a } }
          else if d.pwr.state ≤ 1 then d
          else
            let d := d.seeWake a
            if d.pwr.state = 2 then (d.wakeDoze src a).raiseW 131 sevDiag a
            else d.abortProof.beginStart src a
    else d)

/-! ### Timebases (R370 to R373) -/

/-- TIMEBASE_LOCK (R369, R370): a powered companion's crystal runs and its counter counts. -/
def execTimebaseLock (tm : Nat) (c : CompId) (s : State) : Host.Outcome State Fault Refusal :=
  s.act tm (fun _ d =>
    let x := d.comp c
    if x.powered && !x.flag Reg.CTB_STAT.FAIL then
      d.setComp c (({ x with running := true }.wr Reg.CTB_STAT.XTAL_OK 1).wr Reg.CTB_STAT.LOCK 1)
    else d)

/-- The instants of a companion's latest centres, reloads and input ticks, where T_corr has been set back to `t`. -/
def Comp.fitTo (c : Comp) (t : Nat) : Comp :=
  let fit := fun (y : Bridge) => { y with lastC := min y.lastC t, reloadAt := min y.reloadAt t, actDone := true }
  { c with b0 := fit c.b0, b1 := fit c.b1, sioTime := min c.sioTime t }

/-- A companion's T_corr set to a number of ticks. -/
def Comp.setTcorr (c : Comp) (t : Nat) : Comp :=
  { c with ofs32 := (t : Int) * 32 - (c.ticks : Int) * 32 }.fitTo t

/-- A companion's T_corr moved at once by a difference in tick/32 (R245). -/
def Comp.moveTcorr (c : Comp) (diff32 : Int) : Comp :=
  let c := { c with ofs32 := c.ofs32 + diff32 }
  c.fitTo c.tcorr

/-- T_corr restored at a wake (R372). -/
def restoredT (tEntry nEntry nWake : Nat) : Nat :=
  tEntry + ((nWake + 2 ^ 48 - nEntry) % 2 ^ 48) * 100000000 / 32768

/-- The uncertainty of the restored time in µs: 50 ppm of the sleep and 31 µs (R372). -/
def wakeUncert (nEntry nWake : Nat) : Nat := ((nWake + 2 ^ 48 - nEntry) % 2 ^ 48) * 50 / 32768 + 31

/-- RETENTION_EDGE_WAKE (R372, R373): once every companion is locked, at the retention edge the witness latches N_wake
and every companion loads the same T_corr; after a lost count T_corr is 0 and every lane raises TIME_DISCONT. -/
def execRetentionEdgeWake (tm : Nat) (s : State) : Host.Outcome State Fault Refusal :=
  s.act tm (fun _ d =>
    if d.pwr.wakeAt.isSome && d.wit.powered && allComps.all (fun c => (d.comp c).running) then
      let w := d.wit
      let d := { d with pwr := { d.pwr with wakeAt := none } }
      let d := d.modWit (fun w => { w with nWake := w.ret })
      if w.lostStart then
        let d := d.each allComps (fun d c => d.modComp c (·.setTcorr 0))
        let d := d.each allLanes (fun d l => d.wrL l Reg.PWR_WAKE_UNCERT.UNCERT (2 ^ 32 - 1))
        ({ d with pwr := { d.pwr with discont := allLanes } }).each (allLanes.filter (fun l => (d.lane l).powered)) Dev.discont
      else
        let t := restoredT w.tEntry w.nEntry w.ret
        let d := d.each allComps (fun d c => d.modComp c (fun x =>
          { (x.setTcorr t) with lower := { x.lower with restored := true } }.wr Reg.CTB_STAT.RESTORED 1))
        d.each allLanes (fun d l => d.wrL l Reg.PWR_WAKE_UNCERT.UNCERT (min (wakeUncert w.nEntry w.ret) (2 ^ 32 - 1)))
    else d)

/-- The difference of adopted fabric time from the restored time that it replaces, in µs, and PWR_TIME_STEP beyond the
uncertainty (R372). -/
def Dev.timeStep (d : Dev) (l : LaneId) (c : CompId) (diff32 : Int) : Dev :=
  if (d.comp c).lower.restored then
    let d := d.modComp c (fun x => { x with lower := { x.lower with restored := false } })
    let us := clampI (-2147483648) 2147483647 (openDiv 372 diff32 3200)
    let d := d.wrL l Reg.PWR_WAKE_STEP.STEP (enc 32 us)
    if (d.lane l).rd Reg.PWR_WAKE_UNCERT.UNCERT < us.natAbs then d.raise l 108 sevDiag (enc 32 us) else d
  else d

/-- PAD_RELEASE (R366): the Gnomon writes PWR_PAD_RELEASE bit `n`. -/
def execPadRelease (tm : Nat) (l : LaneId) (n : Nat) (s : State) : Host.Outcome State Fault Refusal :=
  s.act tm (fun _ d => d.padRelease l n)

/-- RETENTION_OSC_FAIL (R371): no edge for 1 ms; the count is marked lost. -/
def execRetentionOscFail (tm : Nat) (s : State) : Host.Outcome State Fault Refusal :=
  s.act tm (fun _ d =>
    if d.wit.powered then
      (d.modWit (fun w => { w with retRun := false, retMark := true }.wr Reg.WIT_STAT.RET_LOST 1)).raiseW 130 sevFault 0
    else d)

end Sys2Proof.Machine
end

