-- ==== Sys2Proof/Machine/Drive.lean ====
section
/-!
DEFINITION. The drive stage (R126 to R142, R151, R152): PWM edges, protection of the bridges, latched faults and the
lockout, the effective limit and the boost account.
-/
namespace Sys2Proof.Machine

/-! ### PWM edges (R131 to R133) -/

/-- Steps of the commanded high interval of a duty: round half up of D × PERIOD × 32 / 65,536 (R131). -/
def dutySteps (duty period : Nat) : Nat := (duty * period * 32 + 32768) / 65536

/-- What bounds the pulses of a bridge: steps of a period, dead time, shortest gate pulse and shortest low-side pulse, in
steps of 312.5 ps (R132, R133). -/
structure PulseLimits where
  all : Nat
  dt  : Nat
  minPulse : Nat
  minLs : Nat
deriving DecidableEq, Repr

/-- The pulse limits that a bridge's registers give. -/
def Comp.pulseLimits (x : Comp) (b : Bool) : PulseLimits :=
  let i := bit b
  { all := x.rd (Reg.PWM_CFG.PERIOD i) * 32, dt := x.rd (Reg.PWM_DT.DT i), minPulse := x.rd (Reg.PWM_DT.MIN_PULSE i) * 32
    minLs := x.rd (Reg.PWM_DT.MIN_LS i) * 32 }

/-- The high-side gate pulse of an interval of `n` steps is produced (R132, R133): it lasts n − DT, not below MIN_PULSE. -/
def PulseLimits.highFits (p : PulseLimits) (n : Nat) : Bool := decide (p.dt < n) && decide (p.dt + p.minPulse ≤ n)

/-- The longest interval that leaves a low-side pulse of the larger of MIN_PULSE and MIN_LS (R133; log 117). -/
def PulseLimits.longest (p : PulseLimits) : Nat := p.all - p.dt - max p.minPulse p.minLs

/-- The interval after the low-side rule of R133: one too long for the shortest low-side pulse is the whole period where
MIN_LS = 0, and reduced to the longest otherwise. -/
def PulseLimits.lowRule (p : PulseLimits) (n : Nat) : Nat :=
  if n ≤ p.longest then n else if p.minLs = 0 then p.all else p.longest

/-- The high interval that is produced, in steps (R133): a high-side pulse shorter than MIN_PULSE is dropped. -/
def PulseLimits.produced (p : PulseLimits) (n : Nat) : Nat := if p.highFits n && p.highFits (p.lowRule n) then p.lowRule n else 0

/-- The high interval of a phase around the peak: floor(n/2) steps before it and the rest after it (R131). -/
def interval (n : Nat) : Nat × Nat := (n / 2, n - n / 2)

/-- The intervals of a block at a bridge when both edges follow its duties (R131 to R133). -/
def Comp.intervals (x : Comp) (b : Bool) (o : OutBlock) : List (Nat × Nat) :=
  [o.dutyU, o.dutyV, o.dutyW].map (fun d =>
    interval ((x.pulseLimits b).produced (dutySteps d (x.rd (Reg.PWM_CFG.PERIOD (bit b))))))

/-- A reload at the peak moves only the falling edge (R134), and R133 holds for the joined interval: where the high-side gate
is not yet on at the peak a pulse too short is dropped; where it is on it lasts MIN_PULSE (log 118). -/
def PulseLimits.joinPeak (p : PulseLimits) (before after : Nat) : Nat × Nat :=
  let n := before + after
  if p.highFits n then
    (if n ≤ p.longest then (before, after)
     else if p.minLs = 0 then (before, p.all / 2) else (before, p.longest - before))
  else if before ≤ p.dt then (before, 0)
  else (before, p.dt + p.minPulse - before)

/-- The phases after a reload: at a centre both edges follow the new duties, at a peak the falling edge only (R134). -/
def Comp.phasesAfter (x : Comp) (b : Bool) (o : OutBlock) (atPeak : Bool) : List (Nat × Nat) :=
  let fresh := x.intervals b o
  if atPeak then ((List.range 3).zip fresh).map (fun q => (x.pulseLimits b).joinPeak (((x.bridge b).phases.getD q.1 (0, 0)).1) q.2.2)
  else fresh

/-! ### Gates (R126, R128, R131, R132) -/

/-- Steps of T_corr since the start of the period that the latest reload belongs to. -/
def Comp.periodPos (x : Comp) (b : Bool) : Int :=
  let r := (x.bridge b).reloadAt
  let start := r - (r - x.rd (Reg.PWM_CFG.PHASE (bit b))) % x.rd (Reg.PWM_CFG.PERIOD (bit b))
  (x.tcorr32 : Int) - 32 * start

/-- The commanded level of phase `p` and the step, from the start of the period, of the edge that began it (R131): the high
interval lies around the peak, and the level of the period before goes on up to the first edge. -/
def Comp.commanded (x : Comp) (b : Bool) (p : Nat) : Bool × Int :=
  let all : Int := (x.pulseLimits b).all
  let peak := all / 2
  let cur := (x.bridge b).phases.getD p (0, 0)
  let prev := (x.bridge b).prevPhases.getD p (0, 0)
  let rise := peak - cur.1
  let pos := x.periodPos b
  if cur.1 + cur.2 = 0 ∨ pos < rise then (false, peak + prev.2 - all)
  else if pos < peak + cur.2 then (true, if rise ≤ 0 ∧ peak ≤ (prev.2 : Int) then peak - prev.1 - all else rise)
  else (false, peak + cur.2)

/-- Steps since the turn-on command of driver `drv`, none while its gate is commanded off (R126, R132): the gate follows the
commanded edge, or the instant at which the bridge began to drive, by DT. Even drivers are high sides. -/
def Comp.onSteps (x : Comp) (b : Bool) (drv : Nat) : Option Nat :=
  let lvl := x.commanded b (drv / 2)
  let from_ := max lvl.2 (x.periodPos b - ((x.tcorr32 : Int) - (x.bridge b).onFrom)) + (x.pulseLimits b).dt
  if lvl.1 = decide (drv % 2 = 0) ∧ from_ ≤ x.periodPos b then some (x.periodPos b - from_).toNat else none

/-- The gate of driver `drv` is on (R128, R132, R135). -/
def Dev.gateOn (d : Dev) (c : CompId) (b : Bool) (drv : Nat) : Bool := d.driving c b && ((d.comp c).onSteps b drv).isSome

/-! ### Supply conditions (R136, R461) -/

/-- A supply condition has turned a bridge off: it drives again from a reload that follows a release with ENABLE = 1 made
after the condition ended. -/
def Dev.supplyCond (d : Dev) (c : CompId) (b : Bool) : Dev :=
  (d.modComp c (fun x => x.modBridge b (fun y => { y with waitRel := true, relSeen := false }))).settle

/-- VDRV_UNDERVOLTAGE (R136): both bridges are off until VDRV recovers. -/
def execVdrvUndervoltage (tm : Nat) (c : CompId) (s : State) : Host.Outcome State Fault Refusal :=
  s.act tm (fun _ d =>
    if (d.comp c).powered then
      let d := (d.wrC c (Reg.GDV_STAT.VDRV_UV 0) 1).wrC c (Reg.GDV_STAT.VDRV_UV 1) 1
      (d.supplyCond c false).supplyCond c true
    else d)

/-- VBR_OUT_OF_LIMITS (R136): a bridge supply below 5.5 V or, for `over`, above 63 V. -/
def execVbrOutOfLimits (tm : Nat) (c : CompId) (b above : Bool) (s : State) : Host.Outcome State Fault Refusal :=
  s.act tm (fun _ d =>
    if (d.comp c).powered then
      (d.wrC c (if above then Reg.GDV_STAT.VBR_OV (bit b) else Reg.GDV_STAT.VBR_UV (bit b)) 1).supplyCond c b
    else d)

/-- DRIVE_SUPPLY_RETURN (R136): the supplies named are within their limits again. -/
def execDriveSupplyReturn (tm : Nat) (c : CompId) (vdrv vbr1 vbr2 : Bool) (s : State) : Host.Outcome State Fault Refusal :=
  s.act tm (fun _ d =>
    if (d.comp c).powered then
      let forget := fun (d : Dev) (b : Bool) => d.modComp c (fun x => x.modBridge b (fun y => { y with relSeen := false }))
      let d := if vdrv then forget (forget ((d.wrC c (Reg.GDV_STAT.VDRV_UV 0) 0).wrC c (Reg.GDV_STAT.VDRV_UV 1) 0) false) true
        else d
      let back := fun (d : Dev) (b : Bool) =>
        forget ((d.wrC c (Reg.GDV_STAT.VBR_UV (bit b)) 0).wrC c (Reg.GDV_STAT.VBR_OV (bit b)) 0) b
      let d := if vbr1 then back d false else d
      (if vbr2 then back d true else d).settle
    else d)

/-! ### Latched faults and the lockout (R137, R138, R484) -/

/-- The service flag of the lane a companion's switch selects. -/
def Dev.serviceOf (d : Dev) (c : CompId) : Dev :=
  match d.selected c with
  | some l => d.serviceFlag l
  | none => d

/-- A bridge is locked out for good (R138): service flag, DRV_LOCKOUT, and it leaves the masks; with every enabled bridge
locked out the drive is lost. -/
def Dev.lockOut (d : Dev) (c : CompId) (b : Bool) : Dev :=
  if (d.comp c).lockedOut b then d
  else
    let d := ((d.wrC c (Reg.GDV_STAT.LOCKOUT (bit b)) 1).serviceOf c).raiseC c b 34 sevFault 0
    let x := d.comp c
    let all := [false, true].all (fun b => !x.flag (Reg.PWM_CFG.EN (bit b)) || x.lockedOut b)
    (if all then d.driveLost c else d.sendMasks).settle

/-- The latched faults of a bridge within the latest second (R137, R484). -/
def Bridge.recentFaults (y : Bridge) (tcorr : Nat) : List Nat := y.faults.filter (fun t => decide (tcorr < t + 100000000))

/-- The two latched faults of a bridge (R136, R137). -/
inductive Latched where
  | desat | hwoc
deriving DecidableEq, Repr

/-- The bit of a latched fault in GDV_STAT. -/
def Latched.fld (f : Latched) (b : Bool) : Fld :=
  match f with
  | .desat => Reg.GDV_STAT.DESAT (bit b)
  | .hwoc => Reg.GDV_STAT.HWOC (bit b)

/-- The event of a latched fault. -/
def Latched.event : Latched → Nat
  | .desat => 32
  | .hwoc => 33

/-- The instant at which a latched fault was last set. -/
def Bridge.setAt (y : Bridge) : Latched → Nat
  | .desat => y.setDesat
  | .hwoc => y.setHwoc

/-- A bridge that latches a fault at clock `clk` and T_corr `t`: it waits for a release, and the fault counts in its second. -/
def Bridge.latch (y : Bridge) (f : Latched) (clk t : Nat) : Bridge :=
  { y with faults := t :: y.recentFaults t, waitRel := true, relSeen := false
           setDesat := if f = .desat then clk else y.setDesat, setHwoc := if f = .hwoc then clk else y.setHwoc }

/-- A fault is latched (R137): the bridge stays off, the event is raised, and the third within 1 s locks the bridge out. -/
def Dev.latchFault (d : Dev) (c : CompId) (b : Bool) (f : Latched) (data : Nat) : Dev :=
  let d := d.modComp c (fun x =>
    let x := (x.wr (f.fld b) 1).modBridge b (·.latch f d.clk x.tcorr)
    x.wr (Reg.GDV_STAT.FAULTS_1S (bit b)) (min 2 (x.bridge b).faults.length))
  let d := d.raiseC c b f.event sevFault data
  (if 3 ≤ ((d.comp c).bridge b).faults.length then d.lockOut c b else d).settle

/-- The VDS of driver `drv`'s transistor is checked (R136): its gate is on, and BLANK ticks have passed since its turn-on
command. -/
def Dev.vdsChecked (d : Dev) (c : CompId) (b : Bool) (drv : Nat) : Bool :=
  d.driving c b && match (d.comp c).onSteps b drv with
    | some n => decide ((d.comp c).rd (Reg.GDV_CFG.BLANK (bit b)) * 32 ≤ n)
    | none => false

/-- DESAT (R136): the comparator of a driver reports, after its filter, a VDS; above VDS_TH while the transistor conducts and
blanking has ended it trips. -/
def execDesat (tm : Nat) (c : CompId) (b : Bool) (x : VdsTrip) (s : State) : Host.Outcome State Fault Refusal :=
  s.act tm (fun _ d =>
    if d.vdsChecked c b x.drv && decide (x.drv < 6) && decide ((d.comp c).rd (Reg.GDV_CFG.VDS_TH (bit b)) * 100 < x.vds) then
      let d := (List.range 6).foldl (fun d i => d.wrC c (Reg.GDV_STAT.DESAT_SRC (bit b) i) (bit (i == x.drv))) d
      d.latchFault c b .desat (2 ^ x.drv)
    else d)

/-! ### The fast limit path (R136, R139, R156, R165) -/

/-- Modulator `m` of a companion: 0 to 5 own, 6 and 7 the spares S0 and S1. -/
def Front.mod (f : Front) (m : Nat) : ModState := Sparse.get ({} : ModState) f.mods m

/-- SUB of spare `sp`: the channel it substitutes, 15 for none. -/
def subFld (sp : Nat) : Fld := if sp = 0 then Reg.MFE_SPARE.SUB0 else Reg.MFE_SPARE.SUB1

/-- The modulator that serves channel `ch`: a spare that substitutes it, else its own unless that has failed. -/
def Comp.server (x : Comp) (ch : Nat) : Option Nat :=
  if x.rd (subFld 0) = ch then some 6
  else if x.rd (subFld 1) = ch then some 7
  else if x.flag (Reg.MFE_STAT.CH_FAIL ch) then none
  else some ch

/-- The fast reading of phase `p` in sixteenths of a channel unit, its modulator's offset taken off, which corrects the
threshold by it (R156, R161); none from the failure of its modulator until a spare delivers (R165). -/
def Comp.fastPhase (x : Comp) (b : Bool) (fast : List Int) (p : Nat) : Option Int :=
  let ch := 3 * bit b + p
  match x.server ch with
  | some m =>
    if x.flag (Reg.MFE_STAT.CH_FAIL ch) && ((x.front.mod m).settling || !x.flag (Reg.MFE_STAT.CH_VALID ch)) then none
    else some (fast.getD p 0 * 16 - (x.front.mod m).offset)
  | none => none

/-- What the fast path compares at phase `p`: its own reading, or the negated sum of the other two phases while its channel
is lost (R165). A second lost channel adds nothing. -/
def Comp.fastOf (x : Comp) (b : Bool) (fast : List Int) (p : Nat) : Int :=
  match x.fastPhase b fast p with
  | some i => i
  | none => -((x.fastPhase b fast ((p + 1) % 3)).getD 0 + (x.fastPhase b fast ((p + 2) % 3)).getD 0)

/-- The phases whose fast reading is above a threshold in channel units, as bits 0 to 2. -/
def Comp.overPhases (x : Comp) (b : Bool) (fast : List Int) (th : Nat) : Nat :=
  bitsOf 3 (fun p => decide (th * 16 < (x.fastOf b fast p).natAbs))

/-- HW_OC (R136, R156): the fast path reads `fast` at the three phases; a phase current above HW_OC latches. -/
def execHwOc (tm : Nat) (c : CompId) (b : Bool) (fast : List Int) (s : State) : Host.Outcome State Fault Refusal :=
  s.act tm (fun _ d =>
    let x := d.comp c
    let above := x.overPhases b fast (x.rd (Reg.GDV_CFG.HW_OC (bit b)))
    if x.powered && !x.flag (Reg.GDV_STAT.HWOC (bit b)) && !x.lockedOut b && above != 0 then d.latchFault c b .hwoc above else d)

/-- The effective limit L of a bridge (R139). -/
def Bridge.limit (y : Bridge) : Nat := min y.live.iLimit y.iCap

/-- The largest fast magnitude of a bridge, in whole channel units rounded up. -/
def Comp.fastPeak (x : Comp) (b : Bool) (fast : List Int) : Nat :=
  ((List.range 3).map (fun p => ((x.fastOf b fast p).natAbs + 15) / 16)).foldl max 0

/-- CURRENT_LIMIT (R136, R139, R156): the fast path reads `fast`; a phase current above L turns the gates off until the next
reload point. -/
def execCurrentLimit (tm : Nat) (c : CompId) (b : Bool) (fast : List Int) (s : State) : Host.Outcome State Fault Refusal :=
  s.act tm (fun _ d =>
    let x := d.comp c
    if d.driving c b && x.overPhases b fast (x.bridge b).limit != 0 then
      let d := if (x.bridge b).limNow then d else d.incC c (Reg.PWM_STAT.LIMIT_CNT (bit b))
      (d.modComp c (fun y => y.modBridge b (fun y =>
        { y with cut := true, limNow := true, peakI := max y.peakI (x.fastPeak b fast) }))).settle
    else d)

/-- A latched fault may be cleared: 10 ms after it was set, with no supply condition (R137, R450). -/
def Dev.mayClear (d : Dev) (c : CompId) (b : Bool) (f : Latched) : Bool :=
  (d.comp c).flag (f.fld b) && decide (((d.comp c).bridge b).setAt f + 1000000 ≤ d.clk) && !(d.comp c).supplyBad b

/-- Latched faults named are cleared; the bridge waits for a release with ENABLE = 1. -/
def Dev.clearFault (d : Dev) (c : CompId) (b desat hwoc : Bool) : Dev :=
  let d := if desat then d.wrC c (Reg.GDV_STAT.DESAT (bit b)) 0 else d
  let d := if hwoc then d.wrC c (Reg.GDV_STAT.HWOC (bit b)) 0 else d
  (d.modComp c (fun x => x.modBridge b (fun y => { y with waitRel := true, relSeen := false }))).settle

/-- A write of 1 to GDV_STAT.DESAT or HWOC (R450): each fault clears 10 ms after it was set. -/
def Dev.w1cFault (d : Dev) (c : CompId) (b desat hwoc : Bool) : Dev :=
  let desat := desat && d.mayClear c b .desat
  let hwoc := hwoc && d.mayClear c b .hwoc
  if desat || hwoc then d.clearFault c b desat hwoc else d

/-- LATCHED_FAULT_CLEAR (R137): by the Gnomon of the driving lane, each fault 10 ms after it was set. -/
def execLatchedFaultClear (tm : Nat) (c : CompId) (b : Bool) (s : State) : Host.Outcome State Fault Refusal :=
  s.act tm (fun _ d =>
    if (d.comp c).powered && !(d.comp c).lockedOut b && (d.driver c).isSome then d.w1cFault c b true true else d)

/-- DRV_FAULT_CLEAR (R450). -/
def execDrvFaultClear (tm : Nat) (c : CompId) (b desat hwoc : Bool) (s : State) : Host.Outcome State Fault Refusal :=
  s.act tm (fun _ d => if (d.comp c).powered then d.w1cFault c b desat hwoc else d)

/-- GATE_TMO of a bridge has passed since the turn-on command of driver `drv` (R152): units of 125 ns are 400 steps. -/
def Dev.gateLate (d : Dev) (c : CompId) (b : Bool) (drv : Nat) : Bool :=
  d.driving c b && match (d.comp c).onSteps b drv with
    | some n => decide ((d.comp c).rd (Reg.GDV_CFG.GATE_TMO (bit b)) * 400 ≤ n)
    | none => false

/-- GATE_TIMEOUT (R152): a gate below its threshold GATE_TMO after its turn-on command raises DRV_GATE_SLOW, and nothing else
before the next start. -/
def execGateTimeout (tm : Nat) (c : CompId) (b : Bool) (drv : Nat) (s : State) : Host.Outcome State Fault Refusal :=
  s.act tm (fun _ d => if d.gateLate c b drv && decide (drv < 6) then d.raiseC c b 38 sevDiag drv else d)

/-! ### Segment health (R127, R151) -/

/-- The segments of driver `drv` that are not retired. -/
def Comp.goodSegs (x : Comp) (b : Bool) (drv : Nat) : List Nat :=
  (List.range 3).filter (fun s => !x.flag (Reg.GDV_SEG.RETIRED (bit b) (3 * drv + s)))

/-- WEAK of a bridge: some driver runs on one segment. -/
def Comp.setWeak (x : Comp) (b : Bool) : Comp :=
  x.wr (Reg.GDV_STAT.WEAK (bit b)) (bit ((List.range 6).any (fun drv => (x.goodSegs b drv).length == 1)))

/-- A segment failed the test of CALIB (R33, R151): retired with the service flag, recorded, and replaced by the spare where
it was in use. -/
def Dev.segFail (d : Dev) (c : CompId) (b : Bool) (drv seg : Nat) : Dev :=
  let good := (d.comp c).goodSegs b drv
  if good.contains seg && decide (drv < 6) then
    let used := (good.take 2).contains seg
    let d := ((d.wrC c (Reg.GDV_SEG.RETIRED (bit b) (3 * drv + seg)) 1).wearEntry c).serviceOf c
    if used && decide (3 ≤ good.length) then d.raiseC c b 36 sevDiag (drv + 16 * seg) else d
  else d

/-- The median of the three times measured at a driver (R151). -/
def median3 (ts : List Nat) : Nat :=
  let a := ts.getD 0 0
  let b := ts.getD 1 0
  let c := ts.getD 2 0
  max (min a b) (min (max a b) c)

/-- Segment `seg` of a measured driver fails (R151): its time differs by more than 25 % from the median of the three. -/
def segBad (ts : List Nat) (seg : Nat) : Bool :=
  decide (median3 ts < 4 * ((ts.getD seg 0 : Int) - median3 ts).natAbs)

/-- The segment test of one driver, then its outcome (R151): a driver with one good segment is weak, with the service flag and
DRV_WEAK; one with none locks its bridge out. -/
def Dev.segTest (d : Dev) (c : CompId) (b : Bool) (drv : Nat) (ts : List Nat) : Dev :=
  (List.range 3).foldl (fun d seg => if segBad ts seg then d.segFail c b drv seg else d) d

/-- What the good segments of a driver mean for this start (R151), whether the record or the test retired the others. -/
def Dev.driverState (d : Dev) (c : CompId) (b : Bool) (drv : Nat) : Dev :=
  match (d.comp c).goodSegs b drv with
  | [] => d.lockOut c b
  | [_] => (d.serviceOf c).raiseC c b 37 sevFault drv
  | _ => d

/-- The segment health of a start (R151): with VDRV present each driver is measured; WEAK, DRV_WEAK and the lockout follow
from the record as it then stands. -/
def Dev.segments (d : Dev) (c : CompId) (ts : List (Bool × Nat × List Nat)) : Dev :=
  let d := if (d.comp c).flag (Reg.GDV_STAT.VDRV_UV 0) then d else ts.foldl (fun d s => d.segTest c s.1 s.2.1 s.2.2) d
  let d := d.modComp c (fun x => [false, true].foldl Comp.setWeak x)
  [false, true].foldl (fun d b => (List.range 6).foldl (fun d drv => d.driverState c b drv) d) d

/-! ### Boost and derate (R139 to R142) -/

/-- Full boost account, in ticks (R141). -/
def Comp.acctFull (x : Comp) (b : Bool) : Nat := x.rd (Reg.PWM_LIMIT.BOOST_T (bit b)) * 100000000

/-- The account taken from full, in tenths of a tick, after `n` ticks: it falls by the elapsed time or rises at a tenth of
it (R141). -/
def acctStep (used full n : Nat) (falls : Bool) : Nat := if falls then min (used + 10 * n) (full * 10) else used - n

/-- The thermal derate is active: T_CMP above TDER × 2 °C (R142). With an unknown temperature I_CAP is NOM as well
(R160). -/
def Comp.derates (x : Comp) (b : Bool) : Bool :=
  match x.tCmp with
  | some t => decide ((x.rd (Reg.PWM_LIMIT.TDER (bit b)) : Int) * 32 < t)
  | none => true

/-- I_CAP (R140, R142): NOM without boost, NOM × (1 + BOOST/16) with it, and its boost part falling linearly to 0 over
10 °C above the derate start. -/
def Comp.capOf (x : Comp) (b boost : Bool) : Nat :=
  let i := bit b
  let nom : Int := x.rd (Reg.PWM_LIMIT.NOM i)
  let k : Int := x.rd (Reg.PWM_LIMIT.BOOST i)
  if !boost then nom.toNat
  else match x.tCmp with
    | none => nom.toNat
    | some t =>
      let above := t - (x.rd (Reg.PWM_LIMIT.TDER i) : Int) * 32
      if above ≤ 0 then (min (openDiv 140 (nom * (16 + k)) 16) 32767).toNat
      else if 160 ≤ above then nom.toNat
      else (nom + openDiv 142 ((min (nom * (16 + k)) (32767 * 16) - nom * 16) * (160 - above)) 2560).toNat

/-- Driven windings in a mask. -/
def windings (m : Nat) : Nat := bit (hasBit m 0) + bit (hasBit m 1) + bit (hasBit m 2)

/-- Share gain of a winding (R143, R145): 3/n with 14 fraction bits for a driven one, else 0. -/
def shareGain (mask pos : Nat) : Nat := if hasBit mask pos then 3 * 16384 / windings mask else 0

/-- The level at which boost is allowed for a companion (R140): that of the lane it is driven by. -/
def Dev.boostLevel (d : Dev) (c : CompId) : Bool :=
  match d.driver c with
  | some l => decide ((d.lane l).rd Reg.RDN_STAT.DL ≤ 3)
  | none => false

/-- The boost account at the end of a period of `n` ticks: BOOST_EXH and DRV_BOOST_EXH when it reaches 0, open again at a
quarter of full (R141). Time below the account's unit of 1 ms is kept, in tenths of a tick, and counts with the periods that
follow (DESIGN CHOICE, log 119). -/
def Dev.stepAcct (d : Dev) (c : CompId) (b : Bool) (n : Nat) : Dev :=
  let x := d.comp c
  let y := x.bridge b
  let i := bit b
  let full := x.acctFull b
  let falls := x.flag (Reg.PWM_STAT.BOOST_ON i) && decide (x.rd (Reg.PWM_LIMIT.NOM i) < y.peakI)
  let used := acctStep y.acctUsed full n falls
  let d := d.modComp c (·.modBridge b (fun y => { y with acctUsed := used }))
  let d := d.wrC c (Reg.PWM_STAT.BOOST_LEFT i) ((full * 10 - used) / 100000000)
  if x.flag (Reg.PWM_STAT.BOOST_EXH i) then
    if 4 * used ≤ 30 * full then d.wrC c (Reg.PWM_STAT.BOOST_EXH i) 0 else d
  else if used = full * 10 then (d.wrC c (Reg.PWM_STAT.BOOST_EXH i) 1).raiseC c b 35 sevFault 0
  else d

/-- Boost allowed, derate and I_CAP at a centre (R140, R142). -/
def Dev.stepCap (d : Dev) (c : CompId) (b : Bool) (mask : Nat) : Dev :=
  let i := bit b
  let boost := decide (windings mask < 3) && !(d.comp c).flag (Reg.PWM_STAT.BOOST_EXH i) && d.boostLevel c
  d.modComp c (fun x =>
    ((x.wr (Reg.PWM_STAT.BOOST_ON i) (bit boost)).wr (Reg.PWM_STAT.DERATE i) (bit (x.derates b))).modBridge b
      (fun y => { y with iCap := x.capOf b boost }))

/-- DRV_STAT of the drive block (R145). -/
def Comp.drvStat (x : Comp) (b : Bool) : Nat :=
  bit (x.flag (Reg.GDV_STAT.DESAT (bit b))) + 2 * bit (x.flag (Reg.GDV_STAT.HWOC (bit b))) +
    4 * bit (x.flag (Reg.GDV_STAT.LOCKOUT (bit b))) + 8 * bit (x.bridge b).limPrev + 16 * bit (x.supplyBad b)

end Sys2Proof.Machine
end

