-- ==== Sys2Proof/Machine/Measure.lean ====
section
/-!
DEFINITION. The measurement front end (R153 to R166): windows, calibrated results, modulators and their spares, the sum
check, temperatures, bridge sensors and calibration.
-/
namespace Sys2Proof.Machine

/-! ### Modulators and the channels they serve (R163 to R166) -/

/-- The companion with one modulator changed. -/
def Comp.modMod (x : Comp) (m : Nat) (f : ModState → ModState) : Comp :=
  { x with front := { x.front with mods := Sparse.set ({} : ModState) x.front.mods m (f (x.front.mod m)) } }

/-- SHADOW of spare `sp`. -/
def shadowFld (sp : Nat) : Fld := if sp = 0 then Reg.MFE_SPARE.SHADOW0 else Reg.MFE_SPARE.SHADOW1

/-- Spare `sp` isolates a channel (R164). -/
def Comp.isolates (x : Comp) (sp : Nat) : Bool :=
  [x.b0, x.b1].any (fun y => match y.iso with
    | some i => i.spare == sp
    | none => false)

/-- The lower-numbered spare that has not failed and substitutes no channel (R165). -/
def Comp.freeSpare (x : Comp) : Option Nat :=
  [0, 1].find? (fun sp => !x.flag (Reg.MFE_STAT.SPARE_FAIL sp) && x.rd (subFld sp) == 15)

/-- A free spare that does not isolate a channel either (R164): `sp` where both are. -/
def Comp.idleSpare (x : Comp) (sp : Nat) : Option Nat :=
  [sp % 2, 1 - sp % 2].find? (fun sp => !x.flag (Reg.MFE_STAT.SPARE_FAIL sp) && x.rd (subFld sp) == 15 && !x.isolates sp)

/-- The isolation that spare `sp` makes ends. -/
def Comp.endIso (x : Comp) (sp : Nat) : Comp :=
  [false, true].foldl (fun x b => x.modBridge b (fun y =>
    { y with iso := y.iso.filter (fun i => i.spare != sp) })) x

/-- Decimation N of the sinc3 filter (R154). -/
def Comp.decim (x : Comp) : Nat := 16 * 2 ^ min (x.rd Reg.MFE_CFG.DEC) 4

/-- A bridge without a protecting current path (R166): two or more of its channels have no modulator. -/
def Comp.unprotected (x : Comp) (b : Bool) : Bool :=
  decide (2 ≤ ((List.range 3).filter (fun p => (x.server (3 * bit b + p)).isNone)).length)

/-- A channel lost its modulator (R165, R166): a free spare takes it and settles over 3N − 2 bits; with none free
MFE_NOSPARE is raised, and a bridge left unprotected is locked out. -/
def Dev.substitute (d : Dev) (c : CompId) (ch : Nat) : Dev :=
  match (d.comp c).freeSpare with
  | some sp =>
    let d := d.modComp c (fun x =>
      (((x.endIso sp).wr (subFld sp) ch).wr (shadowFld sp) 15).modMod (6 + sp) (fun m =>
        { m with settling := true, since := d.clk }))
    d.wearEntry c
  | none =>
    let b := decide (3 ≤ ch)
    let d := d.raiseC c b 42 sevFault ch
    if (d.comp c).unprotected b then d.lockOut c b else d

/-- The channel a modulator serves or, for a spare, shadows. -/
def Comp.channelOf (x : Comp) (m : Nat) : Nat :=
  if m < 6 then m else if x.rd (subFld (m - 6)) = 15 then x.rd (shadowFld (m - 6)) % 8 else x.rd (subFld (m - 6))

/-- Modulator `m` has failed (R33, R163): recorded, MFE_CH_FAIL and the service flag, and its channel is substituted. -/
def Dev.modFail (d : Dev) (c : CompId) (m : Nat) : Dev :=
  let x := d.comp c
  let ch := x.channelOf m
  let serving := decide (m < 6) || x.rd (subFld (m - 6)) != 15
  let d := d.modComp c (fun x =>
    if m < 6 then x.wr (Reg.MFE_STAT.CH_FAIL m) 1
    else (((x.endIso (m - 6)).wr (Reg.MFE_STAT.SPARE_FAIL (m - 6)) 1).wr (subFld (m - 6)) 15).wr (shadowFld (m - 6)) 15)
  let d := (d.wearEntry c).raiseC c (decide (3 ≤ ch && ch < 6)) 39 sevFault (ch % 8 + 16 * (if m < 6 then 0 else m - 5))
  let d := d.serviceOf c
  if serving then d.substitute c ch else d

/-- Modulator `m` is still held good. -/
def Comp.modGood (x : Comp) (m : Nat) : Bool :=
  if m < 6 then !x.flag (Reg.MFE_STAT.CH_FAIL m) else !x.flag (Reg.MFE_STAT.SPARE_FAIL (m - 6))

/-! ### Windows (R154, R155, R361) -/

/-- The last bit of the window of a centre, in ticks of T_corr: with END the latest bit instant not later than 100 ns before
it, with CENTRE the first that puts the weighted centre not more than 25 ns away. Bit instants lie at multiples of five
ticks. -/
def Comp.windowLast (x : Comp) (tC : Nat) : Nat :=
  if x.flag Reg.MFE_CFG.ALIGN then (tC + 5 * (3 * x.decim - 4) / 2 + 4) / 5 * 5 else (tC - 10) / 5 * 5

/-- The first bit of the window: 3N − 3 bits earlier. -/
def Comp.windowFirst (x : Comp) (tC : Nat) : Nat := x.windowLast tC - 5 * (3 * x.decim - 3)

/-- An instant of T_corr on the model's clock. -/
def Comp.clkOf (x : Comp) (clk t : Nat) : Nat := clk + t - x.tcorr

/-- Channel `ch` delivers a valid result for a centre (R161, R163, R165, R361): calibrated, with a settled modulator, and the
whole window after its settling and after the latest restart. -/
def Comp.chValid (x : Comp) (clk : Nat) (b : Bool) (ch tC : Nat) : Bool :=
  let from_ := x.clkOf clk (x.windowFirst tC)
  match x.server ch with
  | some m => x.front.calibrated && !(x.front.mod m).settling && decide ((x.front.mod m).since ≤ from_) &&
      decide ((x.bridge b).restartAt ≤ from_)
  | none => false

/-! ### Results (R153, R161) -/

/-- A calibrated current result in channel units: offset taken off, gain error divided out, within 16 bits. -/
def ModState.result (m : ModState) (raw : Int) : Int :=
  clampI (-32768) 32767 (openDiv 161 ((raw * 16 - m.offset) * 10000) (16 * (10000 + m.gain)))

/-- The results of the three phases of a bridge, through the modulators that serve them (an own one where none does). -/
def Comp.currents (x : Comp) (b : Bool) (o : CentreObs) : List Int :=
  let f := fun (p : Nat) (raw : Int) =>
    let ch := 3 * bit b + p
    (x.front.mod ((x.server ch).getD ch)).result raw
  [f 0 o.iU, f 1 o.iV, f 2 o.iW]

/-- The result of spare `sp` at a centre, through its own offset and gain (R161). -/
def Comp.spareResult (x : Comp) (sp : Nat) (o : CentreObs) : Int := (x.front.mod (6 + sp)).result (if sp = 0 then o.s0 else o.s1)

/-- A shadowing spare has settled over 3N − 2 bits before the window of a centre (R164, R165). -/
def Comp.shadowReady (x : Comp) (clk sp tC : Nat) : Bool :=
  decide ((x.front.mod (6 + sp)).since + 5 * (3 * x.decim - 2) ≤ x.clkOf clk (x.windowFirst tC))

/-- A shadow differs from its channel by more than SUM_TH × 64 units (R164). -/
def Comp.shadowDiffers (x : Comp) (shadow own : Int) : Bool := decide (x.rd Reg.MFE_CFG.SUM_TH * 64 < (shadow - own).natAbs)

/-- The largest magnitude of some currents. -/
def peakOf (is : List Int) : Nat := is.foldl (fun a i => max a i.natAbs) 0

/-- The sum check of a centre fails (R164). -/
def Comp.sumFails (x : Comp) (is : List Int) : Bool :=
  x.rd Reg.MFE_CFG.SUM_TH != 0 && decide (x.rd Reg.MFE_CFG.SUM_TH * 64 < (is.foldl (· + ·) 0).natAbs)

/-- MEAS_STAT without its SENT bits (R159). -/
def Comp.measStat (x : Comp) : Nat :=
  bitsOf 2 (fun s => x.flag (Reg.MFE_VCFG.BRS_EN s) && x.front.calibrated && !Sparse.get false x.front.brsOpen s) +
    4 * bitsOf 4 (fun a => x.flag (Reg.MFE_VCFG.AUX_EN a) && !x.front.sarBad.contains (8 + a)) +
    1024 * bit x.front.tDis

/-- T_CMP as the measurement block carries it: 0x7FFF for an unknown temperature (R160). -/
def Comp.tCmpField (x : Comp) : Int := x.tCmp.getD 0x7FFF

/-- A 12-bit code, left-justified in 16 bits (R153). -/
def left12 (code : Nat) : Nat := code % 4096 * 16

/-- A phase voltage (R157): the mean of the period's samples with AVG, the sample at the centre with INST. -/
def Comp.phaseVolt (x : Comp) (codes : List Nat) : Nat :=
  if x.flag Reg.MFE_CFG.VMODE then left12 (codes.getLastD 0)
  else (openDiv 157 ((codes.map left12).foldl (· + ·) 0 : Nat) codes.length).toNat % 65536

/-- Range of the bridge sensors in nV (R158). -/
def Comp.brsRange (x : Comp) : Nat := 10000000 * 2 ^ x.rd Reg.MFE_VCFG.BRS_RANGE

/-- A bridge-sensor result (R153, R158): the input in parts of the range, ratiometric to the excitation of 2.5 V, as a 24-bit
conversion left-justified in 32 bits (log 123). -/
def Comp.brsResult (x : Comp) (o : Int × Nat) : Int :=
  clampI (-8388608) 8388607 (openDiv 158 (o.1 * 2500000 * 8388608) (o.2 * x.brsRange)) * 256

/-- An auxiliary result (R153, R158): of 0 to 2.5 V, or a fraction of VREF where AUX_RATIO is set (log 123). -/
def Comp.auxResult (x : Comp) (a uv vref : Nat) : Nat :=
  left12 (min 4095 (openDiv 153 (uv * 4096) (if x.flag (Reg.MFE_VCFG.AUX_RATIO a) then vref else 2500000 : Nat)).toNat)

/-- The measured part of the samples of a centre (R68, R159). -/
def Comp.measSamples (x : Comp) (clk : Nat) (b : Bool) (tC : Nat) (o : CentreObs) (s : Samples) : Samples :=
  let is := x.currents b o
  { s with tC := tC, iU := is.getD 0 0, iV := is.getD 1 0, iW := is.getD 2 0
           iStat := bitsOf 3 (fun p => x.chValid clk b (3 * bit b + p) tC)
           vBr := left12 o.vBr, vU := x.phaseVolt o.vU, vV := x.phaseVolt o.vV, vW := x.phaseVolt o.vW
           brs0 := x.brsResult o.brs0, brs1 := x.brsResult o.brs1
           aux := (List.range 4).map (fun a => x.auxResult a (o.aux.getD a 0) o.vref)
           tCmp := x.tCmpField, measStat := x.measStat }

/-- MFE_STAT after a centre: the validity of the bridge's channels. -/
def Comp.putValid (x : Comp) (b : Bool) (iStat : Nat) : Comp :=
  [0, 1, 2].foldl (fun x p => x.wr (Reg.MFE_STAT.CH_VALID (3 * bit b + p)) (bit (hasBit iStat p))) x

/-- Offset tracking of one channel (R162): the offset moves by a sixteenth of the result, unless that is above 1 % of full
scale. -/
def Comp.trackOfs (x : Comp) (ch : Nat) (i : Int) : Comp :=
  match x.server ch with
  | some m => if 100 * i.natAbs ≤ 32768 then x.modMod m (fun y => { y with offset := y.offset + i }) else x
  | none => x

/-- Offset tracking of a bridge whose gates have been off for 2 ms (R162). -/
def Comp.trackBridge (x : Comp) (clk : Nat) (b : Bool) (is : List Int) : Comp :=
  let off := match (x.bridge b).gatesOffAt with
    | some t => decide (t + 200000 ≤ clk)
    | none => false
  if x.flag Reg.MFE_CFG.OFS_TRK && off then
    [0, 1, 2].foldl (fun x p => x.trackOfs (3 * bit b + p) (is.getD p 0)) x
  else x

/-! ### Temperatures (R160) -/

/-- MFE_STAT.TEMP_DIS (R160): the sensors disagree, or the temperature is unknown. -/
def Comp.putTempDis (x : Comp) : Comp := x.wr Reg.MFE_STAT.TEMP_DIS (bit (x.front.tDis || x.front.tUnk))

/-- New temperature readings (R160): the registers, the start of a difference above 8 °C and its end within 6 °C, and a
temperature that becomes unknown, with the service flag and MFE_TEMP_DIS. -/
def Dev.temps (d : Dev) (c : CompId) (t0 t1 : Int) : Dev :=
  let diff := (t0 - t1).natAbs
  let before := (d.comp c).front.tUnk
  let d := d.modComp c (fun x =>
    let x := { x with front := { x.front with t0 := t0, t1 := t1
                                              tempAt := if 128 < diff then some (x.front.tempAt.getD d.clk) else none
                                              tDis := x.front.tDis && decide (96 < diff) } }
    let x := { x with front := { x.front with tUnk := x.tCmp.isNone } }
    ((x.wr Reg.MFE_TEMP.T0 (enc 16 t0)).wr Reg.MFE_TEMP.T1 (enc 16 t1)).putTempDis)
  if (d.comp c).front.tUnk && !before then (d.serviceOf c).raiseC c false 45 sevDiag 0 else d

/-- The sensors disagree (R160): TEMP_DIS and MEAS_STAT bit 10, with MFE_TEMP_DIS. -/
def Dev.tempDis (d : Dev) (c : CompId) : Dev :=
  if (d.comp c).front.tDis then d
  else (d.modComp c (fun x => { x with front := { x.front with tDis := true } }.putTempDis)).raiseC c false 45 sevDiag 0

/-- TEMP_DISAGREE (R160): a difference above 8 °C for 10 ms. -/
def execTempDisagree (tm : Nat) (c : CompId) (t0 t1 : Int) (s : State) : Host.Outcome State Fault Refusal :=
  s.act tm (fun t d =>
    if (d.comp c).powered then
      let d := d.temps c t0 t1
      match (d.comp c).front.tempAt with
      | some a => if a + 1000000 ≤ t then d.tempDis c else d
      | none => d
    else d)

/-! ### Rows of the front end -/

/-- MODULATOR_FAIL (R163): 64 equal bits. A window of the latest centre that still runs and contains them loses its valid
bit. -/
def execModulatorFail (tm : Nat) (c : CompId) (m : Nat) (s : State) : Host.Outcome State Fault Refusal :=
  s.act tm (fun t d =>
    let x := d.comp c
    if x.powered && decide (m < 8) && x.modGood m then
      let ch := x.channelOf m
      let b := decide (3 ≤ ch)
      let last := x.clkOf t (x.windowLast (x.bridge b).lastC)
      let d := if x.server ch == some m && decide (ch < 6) && decide (t ≤ last) then
          d.modComp c (fun x =>
            (x.modBridge b (fun y => { y with samples := { y.samples with iStat := putBit y.samples.iStat (ch % 3) false } })).wr
              (Reg.MFE_STAT.CH_VALID ch) 0)
        else d
      d.modFail c m
    else d)

/-- SPARE_SETTLED (R165): 3N − 2 bits after its connection a substituting spare delivers. -/
def execSpareSettled (tm : Nat) (c : CompId) (sp : Nat) (s : State) : Host.Outcome State Fault Refusal :=
  s.act tm (fun t d =>
    let x := d.comp c
    let y := x.front.mod (6 + sp)
    let done := y.since + 5 * (3 * x.decim - 2)
    if x.powered && decide (sp < 2) && y.settling && decide (done ≤ t) then
      d.modComp c (fun x => x.modMod (6 + sp) (fun y => { y with settling := false, since := done }))
    else d)

/-- SUM of a bridge in MFE_STAT. -/
def sumFld (b : Bool) : Fld := if b then Reg.MFE_STAT.SUM_B2 else Reg.MFE_STAT.SUM_B1

/-- Spare `sp` connects to channel `ch` as its shadow at clock `t` (R164). -/
def Comp.shadow (x : Comp) (sp ch t : Nat) : Comp :=
  ({ x with front := { x.front with shadowN := Sparse.set 0 x.front.shadowN sp 0
                                    shadowRun := Sparse.set 0 x.front.shadowRun sp 0 } }.wr (shadowFld sp) ch).modMod (6 + sp)
    (fun y => { y with settling := false, since := t })

/-- SUM_CHECK_FAIL (R164): on the fourth failing centre in a row an idle spare begins to isolate the channel, at phase U. -/
def execSumCheckFail (tm : Nat) (c : CompId) (b : Bool) (sp : Nat) (s : State) : Host.Outcome State Fault Refusal :=
  s.act tm (fun t d =>
    let x := d.comp c
    if x.powered && decide (4 ≤ (x.bridge b).sumRun) && !x.flag (sumFld b) then
      let d := (d.wrC c (sumFld b) 1).raiseC c b 40 sevFault 0
      match x.idleSpare sp with
      | none => d.raiseC c b 42 sevFault (Config.noSpareChannel (bit b) % 8)
      | some sp => d.modComp c (fun x =>
          (x.shadow sp (3 * bit b) t).modBridge b (fun y => { y with iso := some { spare := sp } }))
    else d)

/-- SPARE_SHADOW_ROTATE (R164): a spare that neither substitutes nor isolates goes on to the next channel after 256
periods; one that shadows none begins at `at_`. -/
def execSpareShadowRotate (tm : Nat) (c : CompId) (sp at_ : Nat) (s : State) : Host.Outcome State Fault Refusal :=
  s.act tm (fun t d =>
    let x := d.comp c
    let ch := x.rd (shadowFld sp)
    if x.powered && decide (sp < 2) && !x.flag (Reg.MFE_STAT.SPARE_FAIL sp) && x.rd (subFld sp) == 15 && !x.isolates sp &&
        x.front.calibrated && (ch == 15 || decide (256 ≤ Sparse.get 0 x.front.shadowN sp)) then
      d.modComp c (·.shadow sp (if ch = 15 then at_ % 6 else (ch + 1) % 6) t)
    else d)

/-- BRIDGE_SENSOR_OPEN (R158): the valid bit is cleared and MFE_BRS_OPEN raised. -/
def Dev.brsOpen (d : Dev) (c : CompId) (sensor : Nat) : Dev :=
  let x := d.comp c
  if decide (sensor < 2) && x.flag (Reg.MFE_VCFG.BRS_EN sensor) && !Sparse.get false x.front.brsOpen sensor then
    (d.modComp c (fun x => { x with front := { x.front with brsOpen := Sparse.set false x.front.brsOpen sensor true } })).raiseC
      c false 44 sevFault sensor
  else d

/-- BRIDGE_SENSOR_OPEN (R158). -/
def execBridgeSensorOpen (tm : Nat) (c : CompId) (sensor : Nat) (s : State) : Host.Outcome State Fault Refusal :=
  s.act tm (fun _ d => if (d.comp c).powered then d.brsOpen c sensor else d)

/-! ### The part of a centre that is measured (R23, R141, R154 to R164) -/

/-- The periods that free spares have shadowed the channels of a bridge. -/
def Comp.countShadow (x : Comp) (b : Bool) : Comp :=
  [0, 1].foldl (fun x sp =>
    let ch := x.rd (shadowFld sp)
    if ch < 6 && decide (3 ≤ ch) == b then
      { x with front := { x.front with shadowN := Sparse.set 0 x.front.shadowN sp (Sparse.get 0 x.front.shadowN sp + 1) } }
    else x) x

/-- The isolation of bridge `b` after a centre (R164): four comparisons at a phase either name its channel failed or go on to
the next phase; after W nothing is found and MFE_SUM_CLEAR is raised. -/
def Dev.stepIso (d : Dev) (c : CompId) (b : Bool) (tC : Nat) (o : CentreObs) (is : List Int) : Dev :=
  let x := d.comp c
  match (x.bridge b).iso with
  | none => d
  | some i =>
    if !x.shadowReady d.clk i.spare tC then d
    else
      let diffs := i.diffs + bit (x.shadowDiffers (x.spareResult i.spare o) (is.getD i.phase 0))
      let put := fun (d : Dev) (i : Option Isolation) => d.modComp c (·.modBridge b (fun y => { y with iso := i }))
      if i.seen + 1 < 4 then put d (some { i with seen := i.seen + 1, diffs := diffs })
      else
        match decide (diffs = 4), x.server (3 * bit b + i.phase) with
        | true, some m => ((put d none).wrC c (shadowFld i.spare) 15).modFail c m
        | _, _ =>
          if i.phase < 2 then
            put (d.modComp c (·.shadow i.spare (3 * bit b + i.phase + 1) d.clk)) (some { spare := i.spare, phase := i.phase + 1 })
          else ((put d none).wrC c (shadowFld i.spare) 15).raiseC c b 41 sevDiag 0

/-- The round robin of spare `sp` at a centre of bridge `b` (R164): a shadow that differs on four centres in a row raises
MFE_SHADOW_DEV. It compares by SUM_TH as the isolation does, and not at all with SUM_TH = 0 (log 124). -/
def Dev.stepShadow (d : Dev) (c : CompId) (b : Bool) (tC : Nat) (o : CentreObs) (is : List Int) (sp : Nat) : Dev :=
  let x := d.comp c
  let ch := x.rd (shadowFld sp)
  if x.isolates sp || !(decide (ch < 6) && decide (3 ≤ ch) == b) || !x.shadowReady d.clk sp tC then d
  else
    let run := if x.rd Reg.MFE_CFG.SUM_TH != 0 && x.shadowDiffers (x.spareResult sp o) (is.getD (ch % 3) 0) then
      Sparse.get 0 x.front.shadowRun sp + 1 else 0
    let d := d.modComp c (fun x => { x with front := { x.front with shadowRun := Sparse.set 0 x.front.shadowRun sp run } })
    if run = 4 then d.raiseC c b 43 sevDiag (ch + 16 * sp) else d

/-- Currents, voltages, sensors and temperatures latched at a centre, with the sum check, its isolation, the shadows and
offset tracking. The results at both centres that bound a period count toward its largest magnitude (DESIGN CHOICE, log
120). -/
def Dev.measureCentre (d : Dev) (c : CompId) (b : Bool) (tC : Nat) (o : CentreObs) : Dev :=
  let d := d.temps c o.t0 o.t1
  let drives := d.driving c b
  let is := (d.comp c).currents b o
  let d := d.modComp c (fun x =>
    let fails := drives && x.sumFails is
    let x := (x.putValid b (bitsOf 3 (fun p => x.chValid d.clk b (3 * bit b + p) tC))).countShadow b
    let x := x.modBridge b (fun y => { y with samples := x.measSamples d.clk b tC o y.samples
                                              peakI := max y.peakI (peakOf is), sumRun := if fails then y.sumRun + 1 else 0 })
    let x := if fails then x else x.wr (sumFld b) 0
    x.trackBridge d.clk b is)
  [0, 1].foldl (fun d sp => d.stepShadow c b tC o is sp) (d.stepIso c b tC o is)

/-! ### Calibration (R151, R161, R165) -/

/-- Offset and gain of the eight modulators as CALIB finds them. -/
def Comp.calMods (x : Comp) (r : CalibRes) : Comp :=
  (List.range 8).foldl (fun x m => x.modMod m (fun y =>
    { y with offset := r.ofs.getD m 0 * 16, gain := r.gain.getD m 0, settling := false, since := 0 })) x

/-- Modulator `m` fails in CALIB: an offset above ±2 % of full scale or a gain error above ±1 % (R161). -/
def calModBad (r : CalibRes) (m : Nat) : Bool :=
  decide (32768 < 50 * (r.ofs.getD m 0).natAbs) || decide (100 < (r.gain.getD m 0).natAbs)

/-- A spare that takes a channel in CALIB is settled when CALIB ends. -/
def Comp.settled (x : Comp) : Comp :=
  [6, 7].foldl (fun x m => x.modMod m (fun y => { y with settling := false, since := 0 })) x

/-- Calibration of a companion (R151, R161): segments, modulators with the substitutions of the wear record reapplied, SAR
channels, bridge sensors and temperatures; CAL_DONE where everything ended in time. -/
def Dev.calibrate (d : Dev) (c : CompId) (r : CalibRes) : Dev :=
  let d := d.segments c r.segs
  let d := d.modComp c (fun x => (x.calMods r))
  let d := d.modComp c (fun x => [0, 1].foldl (fun x sp =>
    let ch := x.rd (subFld sp)
    if ch < 6 then x.wr (Reg.MFE_STAT.CH_FAIL ch) 1 else x) x)
  let d := (List.range 8).foldl (fun d m => if calModBad r m && (d.comp c).modGood m then d.modFail c m else d) d
  let d := r.brs.foldl (fun d s => d.brsOpen c s)
    (d.modComp c (fun x => { x.settled with front := { x.settled.front with sarBad := r.sar, brsOpen := [] }
                                            b0 := { x.b0 with iso := none }, b1 := { x.b1 with iso := none } }))
  let d := d.temps c r.t0 r.t1
  d.modComp c (fun x =>
    { x with calRun := true, front := { x.front with calibrated := r.done } }.wr Reg.MFE_STAT.CAL_DONE (bit r.done))

end Sys2Proof.Machine
end

