-- ==== Sys2Proof/Machine/Binary32.lean ====
section
/-!
DEFINITION. IEEE 754 binary32 arithmetic as R48 to R51 state it: round to nearest even, subnormals in full, canonical
quiet NaN, tininess after rounding, and the flags of every operation. Values are computed exactly and rounded once.
-/
namespace Sys2Proof.Machine

/-! ### Parts and classes -/

/-- Sign bit. -/
def fSign (a : BitVec 32) : Bool := a.getLsbD 31
/-- Biased exponent field. -/
def fExp (a : BitVec 32) : Nat := (a.toNat / 2 ^ 23) % 256
/-- Fraction field. -/
def fFrac (a : BitVec 32) : Nat := a.toNat % 2 ^ 23

def fIsNan (a : BitVec 32) : Bool := fExp a == 255 && fFrac a != 0
def fIsSnan (a : BitVec 32) : Bool := fIsNan a && decide (fFrac a < 2 ^ 22)
def fIsInf (a : BitVec 32) : Bool := fExp a == 255 && fFrac a == 0
def fIsZero (a : BitVec 32) : Bool := fExp a == 0 && fFrac a == 0
def fIsSub (a : BitVec 32) : Bool := fExp a == 0 && fFrac a != 0

/-- The integer significand of a finite value. -/
def fMant (a : BitVec 32) : Nat := if fExp a = 0 then fFrac a else fFrac a + 2 ^ 23
/-- The exponent of the significand's last place. -/
def fScale (a : BitVec 32) : Int := if fExp a = 0 then -149 else (fExp a : Int) - 150

/-- The canonical quiet NaN (R49). -/
def fNan : BitVec 32 := 0x7FC00000#32

/-- A value from its sign, exponent field and fraction field. -/
def fMake (s : Bool) (e f : Nat) : BitVec 32 := BitVec.ofNat 32 (bit s * 2 ^ 31 + e * 2 ^ 23 + f)

def fInf (s : Bool) : BitVec 32 := fMake s 255 0
def fZero (s : Bool) : BitVec 32 := fMake s 0 0

/-! ### Rounding (R49) -/

/-- Number of bits of a number. -/
def bitLen (n : Nat) : Nat := if n = 0 then 0 else Nat.log2 n + 1

/-- `m` shifted right by `k` and rounded to nearest even, with whether it was inexact; `sticky` says that a further part,
less than one unit of `m`, lies below. -/
def shiftRne (m k : Nat) (sticky : Bool) : Nat × Bool :=
  let q := m / 2 ^ k
  let r := m % 2 ^ k
  let half := 2 ^ k / 2
  if k = 0 then (q, sticky)
  else
    let up := decide (half < r) || (r == half && (sticky || q % 2 == 1))
    (if up then q + 1 else q, decide (r ≠ 0) || sticky)

/-- The exact value (−1)^s × m × 2^e, with a part below one unit of `m` when `sticky`, rounded to binary32 (R49). A sticky
value has at least 27 significant bits in `m`. -/
def fRound (s : Bool) (m : Nat) (e : Int) (sticky : Bool) : BitVec 32 × Flags :=
  if m = 0 then (fZero s, {})
  else
    let free := e + (bitLen m : Int) - 24
    let at_ := max free (-149)
    let r := if e ≤ at_ then shiftRne m (at_ - e).toNat sticky else (m * 2 ^ (e - at_).toNat, sticky)
    let wide := if e ≤ free then (shiftRne m (free - e).toNat sticky).1 else m * 2 ^ (e - free).toNat
    let tiny := decide (free + (bitLen wide : Int) ≤ -126)
    let m2 := if 2 ^ 24 ≤ r.1 then r.1 / 2 else r.1
    let at2 := if 2 ^ 24 ≤ r.1 then at_ + 1 else at_
    if 104 < at2 then (fInf s, { of := true, nx := true })
    else
      let v := if m2 < 2 ^ 23 then fMake s 0 m2 else fMake s (at2 + 150).toNat (m2 - 2 ^ 23)
      (v, { nx := r.2, uf := tiny && r.2 })

/-- An exact signed sum (in units of 2^e) rounded; an exact zero takes the sign `z`. -/
def fRoundInt (x : Int) (e : Int) (z : Bool) : BitVec 32 × Flags :=
  if x = 0 then (fZero z, {}) else fRound (decide (x < 0)) x.natAbs e false

/-- The signed significand of a finite value in units of 2^e, for `e` not above its own scale. -/
def fInt (a : BitVec 32) (e : Int) : Int :=
  let v : Int := (fMant a * 2 ^ (fScale a - e).toNat : Nat)
  if fSign a then -v else v

/-! ### NaN operands -/

/-- A NaN result: canonical, with NV for a signalling operand. -/
def fNanOf (as : List (BitVec 32)) : BitVec 32 × Flags := (fNan, { nv := as.any fIsSnan })

/-- An invalid operation: canonical NaN and NV. -/
def fInvalid : BitVec 32 × Flags := (fNan, { nv := true })

/-! ### Arithmetic (R50) -/

/-- The sign bit inverted. -/
def fNegate (a : BitVec 32) : BitVec 32 := a ^^^ 0x80000000#32

/-- a + b. -/
def fAdd (a b : BitVec 32) : BitVec 32 × Flags :=
  if fIsNan a || fIsNan b then fNanOf [a, b]
  else if fIsInf a then (if fIsInf b && fSign a != fSign b then fInvalid else (a, {}))
  else if fIsInf b then (b, {})
  else
    let e := min (fScale a) (fScale b)
    fRoundInt (fInt a e + fInt b e) e (fIsZero a && fIsZero b && fSign a && fSign b)

/-- a − b: a NaN operand is checked before the sign changes. -/
def fSub (a b : BitVec 32) : BitVec 32 × Flags :=
  if fIsNan a || fIsNan b then fNanOf [a, b] else fAdd a (fNegate b)

/-- a × b. -/
def fMul (a b : BitVec 32) : BitVec 32 × Flags :=
  let s := xor (fSign a) (fSign b)
  if fIsNan a || fIsNan b then fNanOf [a, b]
  else if fIsInf a || fIsInf b then (if fIsZero a || fIsZero b then fInvalid else (fInf s, {}))
  else fRound s (fMant a * fMant b) (fScale a + fScale b) false

/-- a / b; a finite non-zero a over ±0 gives a signed infinity and DZ. -/
def fDiv (a b : BitVec 32) : BitVec 32 × Flags :=
  let s := xor (fSign a) (fSign b)
  if fIsNan a || fIsNan b then fNanOf [a, b]
  else if fIsInf a then (if fIsInf b then fInvalid else (fInf s, {}))
  else if fIsInf b then (fZero s, {})
  else if fIsZero b then (if fIsZero a then fInvalid else (fInf s, { dz := true }))
  else
    let n := fMant a * 2 ^ 52
    fRound s (n / fMant b) (fScale a - fScale b - 52) (n % fMant b != 0)

/-- Integer square root of a number below 2^(2 × `k`), by digits from the top. -/
def isqrtN : Nat → Nat → Nat → Nat
  | 0, r, _ => r
  | k + 1, r, n => isqrtN k (if (r + 2 ^ k) * (r + 2 ^ k) ≤ n then r + 2 ^ k else r) n

/-- Integer square root of a number below 2^80. -/
def isqrt (n : Nat) : Nat := isqrtN 40 0 n

/-- √a; √(−0) = −0; a negative non-zero a gives NaN and NV. -/
def fSqrt (a : BitVec 32) : BitVec 32 × Flags :=
  if fIsNan a then fNanOf [a]
  else if fIsZero a then (a, {})
  else if fSign a then fInvalid
  else if fIsInf a then (a, {})
  else
    let e := fScale a
    let n := if e % 2 = 0 then fMant a * 2 ^ 50 else fMant a * 2 ^ 51
    let e2 := if e % 2 = 0 then e - 50 else e - 51
    let r := isqrt n
    fRound false r (e2 / 2) (r * r != n)

/-- The smaller operand under the NaN and zero rules (`lo`), or the larger. -/
def fMinMax (lo : Bool) (a b : BitVec 32) : BitVec 32 × Flags :=
  let f : Flags := { nv := fIsSnan a || fIsSnan b }
  if fIsNan a && fIsNan b then (fNan, f)
  else if fIsNan a then (b, f)
  else if fIsNan b then (a, f)
  else
    let key := fun (x : BitVec 32) => let m : Int := (x.toNat % 2 ^ 31 : Nat)
      if fSign x then -m - 1 else m
    if lo then (if key a ≤ key b then a else b, {}) else (if key b ≤ key a then a else b, {})

/-- d + a × b, fused, with one rounding; `neg` subtracts the product. -/
def fFma (neg : Bool) (d a b : BitVec 32) : BitVec 32 × Flags :=
  let ps := xor (xor (fSign a) (fSign b)) neg
  if (fIsInf a && fIsZero b) || (fIsZero a && fIsInf b) then fInvalid
  else if fIsNan a || fIsNan b || fIsNan d then fNanOf [a, b, d]
  else if fIsInf a || fIsInf b then (if fIsInf d && fSign d != ps then fInvalid else (fInf ps, {}))
  else if fIsInf d then (d, {})
  else
    let pe := fScale a + fScale b
    let e := min pe (fScale d)
    let p : Int := (fMant a * fMant b * 2 ^ (pe - e).toNat : Nat)
    let p := if ps then -p else p
    fRoundInt (p + fInt d e) e (ps && fSign d && decide (p = 0) && fIsZero d)

/-! ### Conversions (R50) -/

/-- A finite value × 2^k rounded to an integer, to nearest even, with whether it was inexact. -/
def fToInt (a : BitVec 32) (k : Nat) : Int × Bool :=
  let e := fScale a + k
  let r := if 0 ≤ e then (fMant a * 2 ^ e.toNat, false) else shiftRne (fMant a) (-e).toNat false
  (if fSign a then -(r.1 : Int) else r.1, r.2)

/-- a × 2^k rounded to a 32-bit integer: out of range saturates and sets NV, NaN gives 0 and NV, an inexact result sets
NX when NV is not set. -/
def fToI32 (a : BitVec 32) (k : Nat) : Int × Flags :=
  if fIsNan a then (0, { nv := true })
  else if fIsInf a then (if fSign a then -2147483648 else 2147483647, { nv := true })
  else
    let r := fToInt a k
    if clips32 r.1 then (sat32 r.1, { nv := true }) else (r.1, { nx := r.2 })

/-- A 32-bit integer × 2^−k as binary32; NX when the conversion rounds. -/
def fOfInt (x : Int) (k : Nat) : BitVec 32 × Flags := fRoundInt x (-(k : Int)) false

/-- FCLASS: one-hot class from bit 0 up (R50). -/
def fClass (a : BitVec 32) : Nat :=
  let s := fSign a
  if fIsSnan a then 256
  else if fIsNan a then 512
  else if fIsInf a then (if s then 1 else 128)
  else if fIsZero a then (if s then 8 else 16)
  else if fIsSub a then (if s then 4 else 32)
  else (if s then 2 else 64)

/-! ### Compares (R51) -/

/-- The number line position of an ordered value; both zeros lie at 0. -/
def fKey (a : BitVec 32) : Int :=
  let m : Int := (a.toNat % 2 ^ 31 : Nat)
  if fSign a then -m else m

/-- FCMP: the predicate and NV (R51). -/
def fCmp (c : FCond) (a b : BitVec 32) : Bool × Flags :=
  let un := fIsNan a || fIsNan b
  let quiet : Flags := { nv := fIsSnan a || fIsSnan b }
  match c with
  | .feq => (!un && decide (fKey a = fKey b), quiet)
  | .fne => (un || decide (fKey a ≠ fKey b), quiet)
  | .flt => (!un && decide (fKey a < fKey b), { nv := un })
  | .fge => (!un && decide (fKey b ≤ fKey a), { nv := un })
  | .funord => (un, quiet)

/-! ### Scaled shadows (R112 to R114) -/

/-- An operand that R112's predictions use: finite and not zero. -/
def fCounts (a : BitVec 32) : Bool := fExp a != 255 && !fIsZero a

/-- An operand is subnormal, or its exponent shifted by `s` leaves 1 … 254 (R113). -/
def fOutOf (a : BitVec 32) (s : Int) : Bool :=
  fIsSub a || (fCounts a && (decide ((fExp a : Int) + s < 1) || decide (254 < (fExp a : Int) + s)))

/-- The result test of R113 on a predicted exponent range. -/
def fRange (lo hi s : Int) : Bool := decide (lo < 1) || decide (lo + s < 1) || decide (254 < hi) || decide (254 < hi + s)

/-- An operand is infinite or a NaN: the instruction then receives no result test (R112). -/
def fSpecial (a : BitVec 32) : Bool := fExp a == 255

/-- The shapes of R112's table. -/
inductive ScaleKind where
  | add | minmax | cmp | mul | div | sqrt | fma
deriving DecidableEq, Repr

/-- The fallback decision of stage O2 for operands a, b and, for FMAC and FMSC, d (R112, R113). -/
def fallback (kind : ScaleKind) (r : Nat) (a b d : BitVec 32) : Bool :=
  let k := rotShift r
  let ea : Int := fExp a
  let eb : Int := fExp b
  let ed : Int := fExp d
  match kind with
  | .add =>
    fOutOf a k || fOutOf b k || (!fSpecial a && !fSpecial b &&
      (match fIsZero a, fIsZero b with
        | true, true => false
        | true, false => fRange (eb - 23) (eb + 1) k
        | false, true => fRange (ea - 23) (ea + 1) k
        | false, false => fRange (min ea eb - 23) (max ea eb + 1) k))
  | .minmax =>
    fOutOf a k || fOutOf b k || (!fSpecial a && !fSpecial b &&
      (match fIsZero a, fIsZero b with
        | true, true => false
        | true, false => fRange eb eb k
        | false, true => fRange ea ea k
        | false, false => fRange (min ea eb) (max ea eb) k))
  | .cmp => fOutOf a k || fOutOf b k
  | .mul => fOutOf a k || fOutOf b k || (fCounts a && fCounts b && fRange (ea + eb - 127) (ea + eb - 126) (2 * k))
  | .div => fOutOf a (2 * k) || fOutOf b k || (fCounts a && fCounts b && fRange (ea - eb + 126) (ea - eb + 127) k)
  | .sqrt => fOutOf a (2 * k) || (fCounts a && fRange ((ea + 126) / 2) ((ea + 128) / 2) k)
  | .fma =>
    fOutOf d (2 * k) || fOutOf a k || fOutOf b k || (!fSpecial a && !fSpecial b && !fSpecial d &&
      (match fIsZero d, fIsZero a || fIsZero b with
        | true, true => false
        | true, false => fRange (ea + eb - 173) (ea + eb - 126 + 1) (2 * k)
        | false, true => fRange (ed - 23) (ed + 1) (2 * k)
        | false, false => fRange (min (ed - 23) (ea + eb - 173)) (max ed (ea + eb - 126) + 1) (2 * k)))

/-- The shadow copy of a binary32 result (R112, R114): SCALED under rotation `r` when the scaled value is normal, else plain.
That a zero, an infinity or a NaN, held unscaled, carries tag PLAIN is the model's choice (the log's entry on shadow tags). -/
def fShadow (r : Nat) (v : BitVec 32) : PReg :=
  let e : Int := (fExp v : Int) + rotShift r
  if fExp v ≠ 0 ∧ fExp v ≠ 255 ∧ 1 ≤ e ∧ e ≤ 254 then
    PReg.of ((fShift v (rotShift r)).zeroExtend 72) (BitVec.ofNat 4 (4 + r % 4))
  else PReg.of (v.zeroExtend 72) tagPlain

/-- The operands of a SCALE-class instruction as its T slice takes them: unscaled on fallback, else moved by `s` (R112, R113). -/
def fOp (fb : Bool) (v : BitVec 32) (s : Int) : BitVec 32 := if fb then v else fShift v s

/-- A scaled result brought back (R112). -/
def fBack (fb : Bool) (r : BitVec 32 × Flags) (s : Int) : BitVec 32 × Flags := (if fb then r.1 else fShift r.1 (-s), r.2)

end Sys2Proof.Machine
end

