-- ==== Sys2Proof/Machine/MotorOps.lean ====
section
/-!
DEFINITION. The arithmetic of the motor primitives (R53 to R55, R483): the CORDIC of SINCOS and ATAN2, Clarke and Park
transforms, and space-vector modulation with exact duties.
-/
namespace Sys2Proof.Machine

/-- α_i of R483: round(2^40 × atan(2^−i) / (2π)), i = 0 to 31. -/
def cordicAngles : List Int :=
  [137438953472, 81134951838, 42869480287, 21761217566, 10922836750, 5466743129, 2734038620, 1367102738] ++
  [683561799, 341782203, 170891265, 85445653, 42722829, 21361415, 10680707, 5340354] ++
  [2670177, 1335088, 667544, 333772, 166886, 83443, 41722, 20861] ++
  [10430, 5215, 2608, 1304, 652, 326, 163, 81]

/-- G of R483. -/
def cordicGain : Int := 166920415761

/-- x, y and z of the CORDIC. -/
structure Cordic where
  x : Int
  y : Int
  z : Int
deriving DecidableEq, Repr

/-- One rotation step: the SINCOS loop turns by the sign of z (R483). -/
def sincosStep (c : Cordic) (i : Nat) (al : Int) : Cordic :=
  if 0 ≤ c.z then ⟨c.x - c.y / 2 ^ i, c.y + c.x / 2 ^ i, c.z - al⟩
  else ⟨c.x + c.y / 2 ^ i, c.y - c.x / 2 ^ i, c.z + al⟩

/-- One vectoring step: the ATAN2 loop turns by the sign of y (R483). -/
def atan2Step (c : Cordic) (i : Nat) (al : Int) : Cordic :=
  if 0 ≤ c.y then ⟨c.x + c.y / 2 ^ i, c.y - c.x / 2 ^ i, c.z + al⟩
  else ⟨c.x - c.y / 2 ^ i, c.y + c.x / 2 ^ i, c.z - al⟩

/-- The 32 steps of a loop, from index `i`. -/
def cordicLoop (step : Cordic → Nat → Int → Cordic) : List Int → Nat → Cordic → Cordic
  | [], _, c => c
  | al :: t, i, c => cordicLoop step t (i + 1) (step c i al)

/-- SINCOS of a 32-bit turn fraction: cosine and sine in Q31 (R483). -/
def sincos (th : BitVec 32) : Int × Int :=
  let q := th.toNat / 2 ^ 30
  let f := th.toNat % 2 ^ 30
  if f = 0 then
    match q with
    | 0 => (2147483647, 0)
    | 1 => (0, 2147483647)
    | 2 => (-2147483648, 0)
    | _ => (0, -2147483648)
  else
    let r := cordicLoop sincosStep cordicAngles 0 ⟨cordicGain, 0, ((f * 256 : Nat) : Int)⟩
    let c := sat32 ((r.x + 64) / 128)
    let s := sat32 ((r.y + 64) / 128)
    match q with
    | 0 => (c, s)
    | 1 => (-s, c)
    | 2 => (-c, -s)
    | _ => (s, -c)

/-- ATAN2 of a Q31 vector: angle as a 32-bit turn fraction, magnitude in Q31, and whether it was clamped (R483). -/
def atan2 (xv yv : Int) : Int × Int × Bool :=
  let bx := xv * 128
  let by_ := yv * 128
  if bx = 0 ∧ by_ = 0 then (0, 0, false)
  else
    let x := if bx < 0 then -bx else bx
    let y := if bx < 0 then -by_ else by_
    let z : Int := if bx < 0 then 2 ^ 39 else 0
    let top := max x.natAbs y.natAbs
    let k := if top * 2 ^ (39 - bitLen top) ≤ 2 ^ 38 then 39 - bitLen top else 38 - bitLen top
    let r := cordicLoop atan2Step cordicAngles 0 ⟨x * 2 ^ k, y * 2 ^ k, z⟩
    let angle : Int := ((r.z + 128) / 256) % 2 ^ 32
    let m : Int := ((r.x * cordicGain) / 2 ^ 38 + 2 ^ (6 + k)) / 2 ^ (7 + k)
    if 2147483647 < m then (angle, 2147483647, true) else (angle, m, false)

/-- 1/√3 as a Q31 number (R53). -/
def invSqrt3 : Int := 0x49E69D16

/-- A pair of exact products, each rounded once and clamped once; SAT when either clamps (R53). -/
def pairRound (p0 p1 : Int) : Dword × Flags :=
  (pack (sat32 (rnd31 p0)) (sat32 (rnd31 p1)), satFlag (clips32 (rnd31 p0) || clips32 (rnd31 p1)))

/-- CLARKE: α = iU, β = (iU + 2 iV) × 1/√3 (R53). -/
def clarke (iu iv : Int) : Dword × Flags :=
  let b := rnd31 ((iu + 2 * iv) * invSqrt3)
  (pack iu (sat32 b), satFlag (clips32 b))

/-- PARK: d = α cos θ + β sin θ, q = β cos θ − α sin θ (R53). -/
def park (al be co si : Int) : Dword × Flags := pairRound (al * co + be * si) (be * co - al * si)

/-- IPARK: α = d cos θ − q sin θ, β = d sin θ + q cos θ (R53). -/
def ipark (dd qq co si : Int) : Dword × Flags := pairRound (dd * co - qq * si) (dd * si + qq * co)

/-! ### Space-vector modulation (R55) -/

/-- A number p + q × √3. -/
structure Root3 where
  p : Int
  q : Int
deriving DecidableEq, Repr

/-- p + q × √3 is not negative. -/
def Root3.nonneg (a : Root3) : Bool :=
  if 0 ≤ a.p then decide (0 ≤ a.q) || decide (3 * a.q * a.q ≤ a.p * a.p)
  else decide (0 < a.q) && decide (a.p * a.p ≤ 3 * a.q * a.q)

def Root3.sub (a b : Root3) : Root3 := ⟨a.p - b.p, a.q - b.q⟩
def Root3.max (a b : Root3) : Root3 := if (a.sub b).nonneg then a else b
def Root3.min (a b : Root3) : Root3 := if (a.sub b).nonneg then b else a

/-- Twice the three phase voltages of R55: 2α, −α + √3 β, −α − √3 β. -/
def svmPhases (a b : Int) : Root3 × Root3 × Root3 := (⟨2 * a, 0⟩, ⟨-a, b⟩, ⟨-a, -b⟩)

/-- Integer square root of a number below 2^160. -/
def isqrtBig (n : Nat) : Nat := isqrtN 80 0 n

/-- ⌊p × √3⌋. -/
def floorRoot3 (p : Int) : Int :=
  if 0 ≤ p then (isqrtBig (3 * p.natAbs * p.natAbs) : Int)
  else -(isqrtBig (3 * p.natAbs * p.natAbs) : Int) - 1

/-- A duty before its clamp: (0.5 + (v + offset) / √3) × 65,536 rounded half up, where 4 × 2^31 × (v + offset) is
P + Q × √3 (R55): ⌊(P √3 + 3 Q) / (3 × 2^17) + 32,768 + 1/2⌋. -/
def svmDuty (w : Root3) : Int := (floorRoot3 w.p + 3 * w.q + 3 * 131072 * 32768 + 3 * 65536) / (3 * 131072)

/-- A duty clamped to 0 … 0xFFFF. -/
def svmClamp (d : Int) : Int := clampI 0 65535 d

/-- The sector of the exact vector (α, β): k + 1 for k × 60° ≤ φ < (k + 1) × 60°; 1 for the zero vector (R55). -/
def svmSector (a b : Int) : Nat :=
  let steep := decide (3 * a * a < b * b)
  if a = 0 ∧ b = 0 then 1
  else if 0 < b ∨ (b = 0 ∧ 0 < a) then (if steep then 2 else if 0 < a then 1 else 3)
  else (if steep then 5 else if a < 0 then 4 else 6)

/-- SVM: the three duties, the sector, and SAT when a duty clamps (R55). -/
def svm (a b : Int) : Dword × Flags :=
  let v := svmPhases a b
  let hi := (v.1.max v.2.1).max v.2.2
  let lo := (v.1.min v.2.1).min v.2.2
  let duty := fun (x : Root3) => svmDuty ⟨2 * x.p - hi.p - lo.p, 2 * x.q - hi.q - lo.q⟩
  let u := duty v.1
  let w := duty v.2.1
  let t := duty v.2.2
  (BitVec.ofInt 64 (svmClamp u + svmClamp w * 65536 + svmClamp t * 4294967296 + svmSector a b * 281474976710656),
   satFlag (decide (svmClamp u ≠ u) || decide (svmClamp w ≠ w) || decide (svmClamp t ≠ t)))

end Sys2Proof.Machine
end

