-- ==== Sys2Proof/Machine/Position.lean ====
section
/-!
DEFINITION. The position front end (R170 to R193): tracks and their checks, counts, index, absolute track, probes, speed
windows and plausibility, and the SENT receivers that feed them (R167 to R169).
-/
namespace Sys2Proof.Machine

/-! ### Channels and tracks -/

/-- Position channel P1 (`false`) or P2. -/
def Comp.chan (x : Comp) (b : Bool) : PosCh := Sparse.get ({} : PosCh) x.front.chans (bit b)

/-- The companion with one position channel changed. -/
def Comp.modChan (x : Comp) (b : Bool) (f : PosCh → PosCh) : Comp :=
  { x with front := { x.front with chans := Sparse.set ({} : PosCh) x.front.chans (bit b) (f (x.chan b)) } }

/-- Track of converter pair `k`. -/
def Comp.track (x : Comp) (k : Nat) : Track := Sparse.get ({} : Track) x.front.tracks k

/-- The companion with one track changed. -/
def Comp.modTrack (x : Comp) (k : Nat) (f : Track → Track) : Comp :=
  { x with front := { x.front with tracks := Sparse.set ({} : Track) x.front.tracks k (f (x.track k)) } }

/-- Channel `b` is enabled. -/
def Comp.posEn (x : Comp) (b : Bool) : Bool := x.flag (Reg.POS_CFG.EN (bit b))
/-- Pair `k` is the incremental source of the enabled channel `b`. -/
def Comp.incIs (x : Comp) (b : Bool) (k : Nat) : Bool := x.posEn b && x.rd (Reg.POS_CFG.INC (bit b)) == k
/-- Pair `k` is the absolute source of the enabled channel `b`. -/
def Comp.absIs (x : Comp) (b : Bool) (k : Nat) : Bool := x.posEn b && x.rd (Reg.POS_CFG.ABS (bit b)) == k + 1
/-- An enabled channel uses pair `k`. -/
def Comp.pairUsed (x : Comp) (k : Nat) : Bool := [false, true].any (fun b => x.incIs b k || x.absIs b k)

/-- Counts per line K (R172). -/
def Comp.lineK (x : Comp) (b : Bool) : Nat := if x.rd (Reg.POS_CFG.INC (bit b)) = 3 then 4 else 4096
/-- Counts per revolution (R172). -/
def Comp.cpr (x : Comp) (b : Bool) : Nat := x.rd (Reg.POS_CFG.LINES (bit b)) * x.lineK b

/-- The value nearest `c` that is congruent to `v` modulo `n`; at a tie which one is open. -/
def nearest (c v : Int) (n : Nat) : Int :=
  let r := (v - c) % n
  if 2 * r < n then c + r
  else if (n : Int) < 2 * r then c + r - n
  else if Config.roundsUp 182 r n then c + r else c + r - n

/-- POS of a channel: its count modulo 2^32 (R172). -/
def PosCh.pos32 (p : PosCh) : Nat := enc 32 p.pos

/-- ANGLE of a POS (R172). -/
def angleOf (pos cpr : Nat) : Nat := pos % cpr * 2 ^ 32 / cpr

/-! ### The qualifier (R192) -/

/-- A position fault stands at channel `b`. -/
def Comp.posFault (x : Comp) (b : Bool) : Bool := x.flag (Reg.POS_STAT.FAULT (bit b))

/-- A track check runs at the incremental pair of channel `b` (R178). -/
def Comp.checking (x : Comp) (b : Bool) : Bool :=
  let inc := x.rd (Reg.POS_CFG.INC (bit b))
  decide (inc < 3) && (x.track inc).check.isSome

/-- STATE of channel `b`: 0 OK, 1 NOT_HOMED, 2 DOUBT, 3 ABS, 4 INVALID, 5 OFF. A channel whose pair is checked is qualified
DOUBT, homed or not (R178). -/
def Comp.posState (x : Comp) (b : Bool) : Nat :=
  let i := bit b
  if !x.posEn b then 5
  else if x.posFault b then (if (x.chan b).absMode then 3 else 4)
  else if x.checking b then 2
  else if !(x.chan b).homed then 1
  else if x.flag (Reg.POS_STAT.DBT_IDX i) || x.flag (Reg.POS_STAT.DBT_ABZ i) || x.flag (Reg.POS_STAT.DBT_CONV i) ||
      x.flag (Reg.POS_STAT.DBT_PLAUS i) then 2
  else 0

/-- QUAL and RUN in POS_STAT after a change. -/
def Comp.qualRegs (x : Comp) (b : Bool) : Comp :=
  (x.wr (Reg.POS_STAT.QUAL (bit b)) (x.posState b)).wr (Reg.POS_STAT.RUN (bit b)) (min (x.chan b).misRun 2)

/-! ### Speed qualifier at samples (R189) -/

/-- The rule of R189 at a sample with count `c`. -/
def PosCh.speedSample (p : PosCh) (band : Nat) (c : Int) : PosCh :=
  let p := match p.dir with
    | .none => if (band : Int) < (c - p.x).natAbs then { p with dir := if p.x < c then .up else .down, x := c } else p
    | .up =>
      if p.x < c then { p with x := c }
      else if band < p.x - c then { p with dir := .down, x := c, flipped := true } else p
    | .down =>
      if c < p.x then { p with x := c }
      else if band < c - p.x then { p with dir := .up, x := c, flipped := true } else p
  if (band : Int) < (c - p.r).natAbs then { p with quiet := false } else p

/-- STILL_BAND of channel `b`. -/
def Comp.band (x : Comp) (b : Bool) : Nat := x.rd (Reg.POS_SPD_CFG.STILL_BAND (bit b))

/-- A step of an index correction, a homing or a source switch: POS moves by `e`, and the speed window and the counts of
R189 with it (R188, R189). -/
def PosCh.step (p : PosCh) (e : Int) (switch : Bool) : PosCh :=
  { p with pos := p.pos + e, winPos := p.winPos + e, x := p.x + e, r := p.r + e, c0 := p.c0 + e, c1 := p.c1 + e
           winCorr := true, winSw := p.winSw || switch }

/-- A new count of a channel at grid time `t` (R174, R189). -/
def PosCh.sample (p : PosCh) (band t : Nat) (c : Int) : PosCh :=
  ({ p with pos := c, t0 := p.t1, c0 := p.c1, t1 := t, c1 := c }).speedSample band c

/-! ### The absolute track (R180, R184, R191) -/

/-- The absolute angle of channel `b` from an angle of 16 bits: direction and offset (R180). -/
def Comp.absOf (x : Comp) (b : Bool) (raw : Nat) : Nat :=
  let v := if x.flag (Reg.POS_CFG.ABS_DIR (bit b)) then (65536 - raw % 65536) % 65536 else raw % 65536
  (v + x.rd (Reg.POS_ABS_CFG.ABS_OFS (bit b))) % 65536

/-- SENT data as an angle of 16 bits (R180). -/
def sentAngle (v nib : Nat) : Nat := if nib ≤ 4 then v * 2 ^ (16 - 4 * nib) else v / 2 ^ (4 * nib - 16)

/-- The absolute source of channel `b` now: its angle while it is valid (R180). -/
def Comp.absNow (x : Comp) (b : Bool) : Option Nat :=
  let a := x.rd (Reg.POS_CFG.ABS (bit b))
  if a = 0 then none
  else if a < 4 then
    if x.flag (Reg.POS_TRK_STAT.FAIL (a - 1)) || !(x.track (a - 1)).started then none
    else some (x.absOf b ((x.track (a - 1)).angle * 16))
  else if x.flag (Reg.SNT_STAT.VALID (a - 4)) then
    some (x.absOf b (sentAngle (Sparse.get ({} : SentCh) x.front.sent (a - 4)).data (x.rd (Reg.SNT_CFG.NIB (a - 4)))))
  else none

/-- The count that the absolute track gives, nearest the present one (R184). -/
def Comp.absPos (x : Comp) (b : Bool) (a : Nat) : Int :=
  let p := x.chan b
  p.pos + (nearest p.pos32 (a * x.cpr b / 65536 : Nat) (x.cpr b) - p.pos32)

/-! ### What a centre latches (R174, R185, R186, R188) -/

/-- The count of a channel at a time between its two latest grid samples, to the nearest count (R186). -/
def PosCh.countAt (p : PosCh) (t : Nat) : Int :=
  if p.t1 ≤ t then p.c1 else if t ≤ p.t0 then p.c0
  else p.c0 + openNear 186 ((p.c1 - p.c0) * ((t : Int) - p.t0)) ((p.t1 : Int) - p.t0)

/-- The latest index edge came at or after t_P of the latched sample: its step belongs to the next centre (R185). -/
def PosCh.edgeLate (p : PosCh) : Bool := decide (p.latch ≤ p.edgeAt) && p.idxBetween

/-- POS of the sample latched for the latest centre (R174, R185). -/
def PosCh.latched (p : PosCh) : Int := p.countAt p.latch - (if p.edgeLate then p.edgeBy else 0)

/-- The samples of bridge `b` take the POS latched for its centre; index edges before t_P show in POS_QUAL.IDX (R172, R185). -/
def Comp.latchPos (x : Comp) (b : Bool) : Comp :=
  let p := x.chan b
  let pos := enc 32 p.latched
  x.modBridge b (fun y => { y with samples := { y.samples with
    pos := pos, angle := if x.cpr b = 0 then 0 else angleOf pos (x.cpr b)
    posQual := if p.idxBetween && !p.edgeLate then putBit y.samples.posQual 4 true else y.samples.posQual } })

/-- A sample or an index edge that comes after the centre and not after t_P of its sample belongs to that centre still
(R174, R185). -/
def Comp.relatch (x : Comp) (b : Bool) (t : Nat) : Comp :=
  let p := x.chan b
  if p.started && decide (t ≤ p.latch) then
    (x.latchPos b).modChan b (fun p => { p with idxBetween := p.idxBetween && p.edgeLate })
  else x

/-- Probe `p` of a companion. -/
def Comp.probe (x : Comp) (p : Nat) : Probe := Sparse.get ({} : Probe) x.front.probes p

/-- The companion with one probe changed. -/
def Comp.modProbe (x : Comp) (p : Nat) (f : Probe → Probe) : Comp :=
  { x with front := { x.front with probes := Sparse.set ({} : Probe) x.front.probes p (f (x.probe p)) } }

/-- An edge whose later grid sample has come takes its interpolated count and the DOUBT bit of that sample (R186). -/
def Comp.settleEdge (x : Comp) (b force : Bool) (e : PrbEdge) : PrbEdge :=
  if e.settled || !(force || decide (e.time ≤ (x.chan b).t1)) then e
  else { e with settled := true, pos := (x.chan b).countAt e.time, doubt := x.posState b != 0 }

/-- The edges that probe `p` holds, after a sample of its channel, or at a delivery (`force`). -/
def Comp.settleProbe (x : Comp) (p : Nat) (force : Bool) : Comp :=
  let b := x.flag (Reg.POS_PRB_CFG.CHAN p)
  x.modProbe p (fun y => { y with held := y.held.map (x.settleEdge b force) })

/-- Channel `b` has a new grid sample at T_corr `t`. -/
def Comp.newSample (x : Comp) (b : Bool) (t : Nat) : Comp := (([0, 1].foldl (fun x p => x.settleProbe p false) x).relatch b t)

/-- The absolute track of channel `b` after its source changed (R180, R184, R191): POS follows it in state ABS; a loss is
raised once and turns ABS into INVALID. -/
def Dev.refreshAbs (d : Dev) (c : CompId) (b : Bool) : Dev :=
  let x := d.comp c
  let i := bit b
  if !(x.posEn b && (x.chan b).started) then d
  else match x.absNow b with
    | some a =>
      d.modComp c (fun x =>
        let x := (x.wr (Reg.POS_STAT.ABS_VALID i) 1).modChan b (fun p => { p with absAngle := a })
        if (x.chan b).absMode then
          (x.modChan b (fun p => p.sample (x.band b) (x.tcorr / 10 * 10) (x.absPos b a))).newSample b (x.tcorr / 10 * 10)
        else x)
    | none =>
      if x.flag (Reg.POS_STAT.ABS_VALID i) then
        let d := d.modComp c (fun x =>
          ((x.wr (Reg.POS_STAT.ABS_VALID i) 0).modChan b (fun p => { p with absMode := false, plausRun := 0, plausOk := 0
                                                                            })).qualRegs b)
        d.raiseC c b 59 sevFault 0
      else d

/-! ### Position faults and the index (R181 to R185) -/

/-- A position fault (R184): ABS with a valid absolute track, else INVALID. -/
def Dev.posFail (d : Dev) (c : CompId) (b : Bool) : Dev :=
  let x := d.comp c
  if x.posFault b || !x.posEn b then d
  else
    let valid := x.flag (Reg.POS_STAT.ABS_VALID (bit b))
    let d := d.modComp c (fun x =>
      let x := x.wr (Reg.POS_STAT.FAULT (bit b)) 1
      let e := if valid then x.absPos b (x.chan b).absAngle - (x.chan b).pos else 0
      (x.modChan b (fun p => { (if valid then p.step e true else { p with winSw := true }) with absMode := valid })).qualRegs b)
    d.raiseC c b 51 sevFault (bit valid)

/-- The outcome MISMATCH or MISSING (R182 to R184). -/
def Dev.mismatch (d : Dev) (c : CompId) (b missing : Bool) : Dev :=
  let i := bit b
  let d := d.modComp c (fun x =>
    (((x.modChan b (fun p => { p with misRun := p.misRun + 1 })).wr (Reg.POS_STAT.DBT_IDX i) 1).inc
      (Reg.POS_IDX_STAT.MISM_CNT i)).qualRegs b)
  let x := d.comp c
  let run := (x.chan b).misRun
  let d := d.raiseC c b 50 sevFault (x.rd (Reg.POS_IDX_STAT.IDX_DEV i) + 65536 * bit missing + 131072 * min run 3)
  if 3 ≤ run then d.posFail c b else d

/-- MATCH and ADJUST clear the mismatch run and the DOUBT causes IDX, ABZ and CONV (R182). -/
def Comp.indexGood (x : Comp) (b : Bool) : Comp :=
  let i := bit b
  ((((x.modChan b (fun p => { p with misRun := 0 })).wr (Reg.POS_STAT.DBT_IDX i) 0).wr (Reg.POS_STAT.DBT_ABZ i) 0).wr
    (Reg.POS_STAT.DBT_CONV i) 0).qualRegs b

/-- The step of an index correction or a homing at T_corr `t` (R181, R182, R185). -/
def PosCh.indexStep (p : PosCh) (e : Int) : PosCh :=
  { p.step (-e) false with edgeBy := -e, edgeFirst := !p.winCorr, idxFrom := p.pos - e }

/-- An index edge at channel `b` (R181, R182). -/
def Dev.indexOutcome (d : Dev) (c : CompId) (b : Bool) : Dev :=
  let x := d.comp c
  let i := bit b
  if !x.posEn b || !(x.chan b).started || x.posFault b || x.checking b || x.cpr b = 0 then d
  else
    let d := d.modComp c (fun x => x.modChan b (fun p =>
      { p with idxBetween := true, edgeAt := x.tcorr, edgeBy := 0, edgeFirst := false }))
    if !x.flag (Reg.POS_IDX_CFG.IDX_EN i) then d
    else
      let pos := (x.chan b).pos
      let e := (x.chan b).pos32 - nearest (x.chan b).pos32 (x.rd (Reg.POS_IDX_REF.REF i)) (x.cpr b)
      if !(x.chan b).homed then
        let d := d.modComp c (fun x =>
          ((x.modChan b (fun p => { p.indexStep e with homed := true })).wr (Reg.POS_STAT.HOMED i) 1).indexGood b)
        d.raiseC c b 48 sevDiag 0
      else
        let k : Int := x.lineK b
        let dev := clampI (-32768) 32767 (openDiv 183 (e * 64) k)
        let d := d.modComp c (fun x => (x.wr (Reg.POS_IDX_STAT.IDX_DEV i) (enc 16 dev)).modChan b (fun p =>
          { p with idxFrom := pos }))
        if (e.natAbs : Int) * 64 ≤ (x.rd (Reg.POS_IDX_CFG.IDX_DEAD i) : Int) * k then d.modComp c (·.indexGood b)
        else if (e.natAbs : Int) ≤ (x.rd (Reg.POS_IDX_CFG.INDEX_TOL i) : Int) * k then
          let d := d.modComp c (fun x => ((x.modChan b (·.indexStep e)).indexGood b).inc (Reg.POS_IDX_STAT.ADJ_CNT i))
          d.raiseC c b 49 sevDiag (enc 16 dev)
        else d.mismatch c b false

/-- An index edge at channel `b`, which belongs to the POS of the centre whose t_P it precedes (R185). -/
def Dev.indexEdge (d : Dev) (c : CompId) (b : Bool) : Dev :=
  (d.indexOutcome c b).modComp c (fun x => if (x.chan b).idxBetween then x.relatch b (x.tcorr + 1) else x)

/-- The quadrature decoder takes a level (R179): it comes from the receiver that DIFF selects and has been stable for FILT
ticks. -/
def Comp.abzAccepts (x : Comp) (diff : Bool) (stable : Nat) : Bool :=
  x.powered && x.running && x.flag Reg.POS_ABZ_CFG.DIFF == diff && decide (x.rd Reg.POS_ABZ_CFG.FILT ≤ stable)

/-- INDEX_EDGE (R179, R182): the index input has risen and been stable; accepted, the edge serves both channels. -/
def execIndexEdge (tm : Nat) (x : IndexIn) (s : State) : Host.Outcome State Fault Refusal :=
  s.act tm (fun _ d =>
    if (d.comp x.comp).abzAccepts x.diff x.stable then (d.indexEdge x.comp false).indexEdge x.comp true else d)

/-- INDEX_MISSING (R183): movement beyond CPR + INDEX_TOL × K with no index edge. -/
def execIndexMissing (tm : Nat) (c : CompId) (b : Bool) (s : State) : Host.Outcome State Fault Refusal :=
  s.act tm (fun _ d =>
    let x := d.comp c
    let p := x.chan b
    let far := x.cpr b + x.rd (Reg.POS_IDX_CFG.INDEX_TOL (bit b)) * x.lineK b
    if x.powered && x.posEn b && p.homed && x.flag (Reg.POS_IDX_CFG.IDX_EN (bit b)) && !x.posFault b &&
        decide (far < (p.pos - p.idxFrom).natAbs) then
      (d.modComp c (fun x => x.modChan b (fun p => { p with idxFrom := p.pos }))).mismatch c b true
    else d)

/-! ### Sin/cos tracks (R174 to R178) -/

/-- A channel that uses pair `k`, the lower first: the bridge named in its events. -/
def Comp.pairBridge (x : Comp) (k : Nat) : Bool := !(x.incIs false k || x.absIs false k) && (x.incIs true k || x.absIs true k)

/-- The bridge that an event of pair `k` names: that of the channel which uses it, `b` where both do. -/
def Comp.pairNamed (x : Comp) (k : Nat) (b : Bool) : Bool :=
  if x.incIs b k || x.absIs b k then b else x.pairBridge k

/-- FAIL of pair `k` with POS_TRK_FAIL for bridge `n` (R178). -/
def Dev.trackLost (d : Dev) (c : CompId) (k : Nat) (n : Bool) : Dev :=
  (d.wrC c (Reg.POS_TRK_STAT.FAIL k) 1).raiseC c n 54 sevFault k

/-- Pair `k` has failed (R178): FAIL, POS_TRK_FAIL, a position fault where it counts, the absolute track invalid where it
is absolute. -/
def Dev.trackFail (d : Dev) (c : CompId) (k : Nat) (n : Bool) : Dev :=
  if (d.comp c).flag (Reg.POS_TRK_STAT.FAIL k) then d
  else [false, true].foldl (fun d b =>
      let d := if (d.comp c).absIs b k then d.refreshAbs c b else d
      if (d.comp c).incIs b k then d.posFail c b else d) (d.trackLost c k n)

/-- Converter pair S takes over pair `k` (R33, R178): recorded, with POS_CONV_SWAP and the service flag. -/
def Dev.convSwap (d : Dev) (c : CompId) (k : Nat) (n : Bool) : Dev :=
  let d := d.modComp c (fun x => ((x.wr Reg.POS_SPARE.SUB k).wr Reg.POS_SPARE.SHADOW 3).wr (Reg.POS_TRK_STAT.CONV_FAIL k) 1)
  ((d.wearEntry c).raiseC c n 55 sevDiag k).serviceOf c

/-- S is free: it has not failed, substitutes no pair and checks none (R178). -/
def Comp.sFree (x : Comp) : Bool :=
  !x.flag Reg.POS_SPARE.SPARE_FAIL && x.rd Reg.POS_SPARE.SUB == 3 && [0, 1, 2].all (fun k => (x.track k).check.isNone)

/-- The difference of two angles within the line, in counts from −2,048 to 2,047: lines are counted from it. -/
def angleStep (old new : Nat) : Int := ((new : Int) - old + 2048) % 4096 - 2048

/-- One estimate moves by 1/256 of the error a line showed and is held at its limit (R175); whether it would pass it. -/
def learn (est err lim : Int) : Int × Bool := (clampI (-lim) lim (est + err), decide (lim < (est + err).natAbs))

/-- The corrections of a track after a line (R175), and the kinds that met their limit: 0 offset, 1 ratio, 2 phase. -/
def Track.learnLine (t : Track) (e : Int × Int × Int × Int) : Track × List Nat :=
  let s := learn t.offS e.1 52428
  let c := learn t.offC e.2.1 52428
  let r := learn t.ratio e.2.2.1 104857
  let p := learn t.phase e.2.2.2 91505
  ({ t with offS := s.1, offC := c.1, ratio := r.1, phase := p.1, moved := t.moved + 1 },
    (if s.2 || c.2 then [0] else []) ++ (if r.2 then [1] else []) ++ (if p.2 then [2] else []))

/-- A line ends at pair `k`: learning while enabled, at 1 Hz to 20 kHz and `within` the warning limits (R175). -/
def Dev.lineEnd (d : Dev) (c : CompId) (k : Nat) (within_ : Bool) (e : Int × Int × Int × Int) : Dev :=
  let x := d.comp c
  let t := x.track k
  let gap := d.clk - t.lineAt
  let on := [false, true].any (fun b => (x.incIs b k || x.absIs b k) && x.flag (Reg.POS_CFG.LEARN (bit b)))
  let d := d.modComp c (·.modTrack k (fun t => { t with lineAt := d.clk }))
  if on && decide (5000 ≤ gap) && decide (gap ≤ 100000000) && within_ then
    let r := t.learnLine e
    let d := d.modComp c (fun x =>
      let x := x.modTrack k (fun _ => { r.1 with lineAt := d.clk })
      if 2048 ≤ r.1.moved then x.wr (Reg.POS_TRK_STAT.LEARNED k) 1 else x)
    d.each r.2 (fun d kind => d.raiseC c ((d.comp c).pairBridge k) 57 sevDiag (k + 4 * kind))
  else d

/-- Sine and cosine in µV after the learned corrections (R174, R175): the offsets are subtracted, in parts of the `peak`
amplitude; how ratio and phase act is open (log 128). -/
def Track.correct (t : Track) (peak : Int) (v : Int × Int) : Int × Int :=
  let s := v.1 - openDiv 175 (t.offS * peak) 1048576
  let c := v.2 - openDiv 175 (t.offC * peak) 1048576
  if t.ratio = 0 ∧ t.phase = 0 then (s, c) else Config.ratioPhase s c t.ratio t.phase

/-- s² + c², the square of half the amplitude of R176, in µV². -/
def ampSq (v : Int × Int) : Nat := (v.1 * v.1 + v.2 * v.2).toNat

/-- The amplitude lies outside the limits `lo` to `hi`, in µVpp (R176). -/
def outside (lo hi : Nat) (v : Int × Int) : Bool := decide (4 * ampSq v < lo * lo) || decide (hi * hi < 4 * ampSq v)

/-- Outside 0.5 to 1.2 Vpp, the warning limits of R176. -/
def ampWarn (v : Int × Int) : Bool := outside 500000 1200000 v

/-- Outside 0.3 to 1.5 Vpp, the limits of the track check. -/
def ampBad (v : Int × Int) : Bool := outside 300000 1500000 v

/-- AMPL of POS_TRK_STAT: the amplitude in units of 2 mVpp, within its ten bits. -/
def amplField (v : Int × Int) : Nat :=
  let r := isqrtBig (ampSq v / 1000000)
  min 1023 (r + (if r * r * 1000000 = ampSq v then 0 else bit (Config.roundsUp 176 (ampSq v) 1000000)))

/-- The angle within the line to 12 bits, by the CORDIC of R483 (R174; log 128). -/
def lineAngle (v : Int × Int) : Nat := (openDiv 174 (atan2 (v.2 * 1024) (v.1 * 1024)).1 1048576 % 4096).toNat

/-- The run lengths of the amplitude checks after a sample (R176). -/
def Track.runs (t : Track) (v : Int × Int) : Track :=
  { t with warnRun := if ampWarn v then t.warnRun + 1 else 0, okRun := if ampWarn v then 0 else t.okRun + 1
           badRun := if ampBad v then t.badRun + 1 else 0 }

/-- What converter pair S reads at a pair it checks or shadows (R178): in a check a reading outside 0.3 to 1.5 Vpp, a jump or
none at all speaks against S; in a shadow a difference of more than 16 counts from the pair counts. -/
def Track.spareReads (t : Track) (own : Nat) : Option (Int × Int) → Track
  | some v =>
    let a := lineAngle v
    let jump := match t.sAngle with
      | some o => decide (512 < (angleStep o a).natAbs)
      | none => false
    { t with sAngle := some a, sBad := t.sBad || ampBad v || jump
             devRun := if 16 < (angleStep own a).natAbs then t.devRun + 1 else 0 }
  | none => { t with sBad := true, devRun := 0 }

/-- The incremental count of channel `b` moves by `n` counts at grid time `t`. -/
def Comp.moveCount (x : Comp) (b : Bool) (n : Int) (t : Nat) : Comp :=
  if x.posFault b || !(x.chan b).started then x
  else
    let n := if x.flag (Reg.POS_CFG.DIR (bit b)) then -n else n
    (x.modChan b (fun p => p.sample (x.band b) t (p.pos + n))).newSample b t

/-- A sample of pair `k` (R174 to R178): corrections, angle, amplitude checks, line count, learning and the channels that use
it. While a track check is due or runs, POS holds; a jump is not counted. -/
def Dev.pairSample (d : Dev) (c : CompId) (k : Nat) (o : PairObs) : Dev :=
  let x := d.comp c
  let t := x.track k
  let peak : Int := x.rd (Reg.POS_TRK_STAT.AMPL k) * 1000
  let v := t.correct peak (o.sin, o.cos)
  let angle := lineAngle v
  let step := angleStep t.angle angle
  let grid := x.tcorr / 10 * 10
  let shadowed := x.rd Reg.POS_SPARE.SHADOW == k
  let jump := t.started && decide (512 < step.natAbs)
  let held := t.check.isSome || t.jump || decide (4 ≤ t.badRun) || jump
  let d := d.modComp c (fun x =>
    let x := x.modTrack k (fun t =>
      let t := if t.check.isSome then { t with check := t.check.map (· - 1) }
        else { t.runs v with jump := t.jump || jump }
      let t := if shadowed then t.spareReads angle (o.spare.map (t.correct peak)) else t
      { t with started := true, angle := angle })
    let x := x.wr (Reg.POS_TRK_STAT.AMPL k) (amplField v)
    let x := if 16 ≤ (x.track k).okRun then x.wr (Reg.POS_TRK_STAT.SIG_WARN k) 0 else x
    if held || !t.started then x
    else [false, true].foldl (fun x b => if x.incIs b k then x.moveCount b step grid else x) x)
  let d := match o.extrema with
    | some e => d.lineEnd c k (!ampWarn v) e
    | none => d
  let t : Track := (d.comp c).track k
  let d := if t.check.isNone && (t.devRun == 64) then d.raiseC c ((d.comp c).pairBridge k) 56 sevDiag k else d
  [false, true].foldl (fun d b => if (d.comp c).absIs b k then d.refreshAbs c b else d) d

/-- POSITION_SAMPLE (R174). -/
def execPositionSample (tm : Nat) (c : CompId) (k : Nat) (x : PairObs) (s : State) : Host.Outcome State Fault Refusal :=
  s.act tm (fun _ d =>
    let y := d.comp c
    if y.powered && y.running && decide (k < 3) && !y.flag (Reg.POS_TRK_STAT.FAIL k) then d.pairSample c k x else d)

/-- SIGNAL_WARNING (R176): 16 samples outside 0.5 to 1.2 Vpp. -/
def execSignalWarning (tm : Nat) (c : CompId) (k : Nat) (s : State) : Host.Outcome State Fault Refusal :=
  s.act tm (fun _ d =>
    let x := d.comp c
    if x.powered && decide (k < 3) && decide (16 ≤ (x.track k).warnRun) && !x.flag (Reg.POS_TRK_STAT.SIG_WARN k) then
      (d.wrC c (Reg.POS_TRK_STAT.SIG_WARN k) 1).raiseC c (x.pairBridge k) 53 sevDiag k
    else d)

/-- TRACK_CHECK_START (R178): a free S connects in parallel for 64 samples and the channel is qualified DOUBT; without one the
track has failed. -/
def execTrackCheckStart (tm : Nat) (c : CompId) (k : Nat) (s : State) : Host.Outcome State Fault Refusal :=
  s.act tm (fun _ d =>
    let x := d.comp c
    let t := x.track k
    if x.powered && decide (k < 3) && !x.flag (Reg.POS_TRK_STAT.FAIL k) && t.check.isNone && (t.jump || decide (4 ≤ t.badRun)) then
      if x.sFree then
        d.modComp c (fun x =>
          let x := (x.modTrack k (fun t => { t with check := some 64, jump := false, badRun := 0, sAngle := none, sBad := false, devRun := 0 })).wr Reg.POS_SPARE.SHADOW k
          [false, true].foldl (fun x b =>
            if x.incIs b k then (x.wr (Reg.POS_STAT.DBT_CONV (bit b)) 1).qualRegs b else x) x)
      else d.trackFail c k (x.pairBridge k)
    else d)

/-- TRACK_CHECK_END (R178): after 64 samples S, if it stayed within 0.3 to 1.5 Vpp and saw no jump, substitutes for the pair and
the count goes on from its readings; otherwise the track has failed. -/
def execTrackCheckEnd (tm : Nat) (c : CompId) (k : Nat) (b : Bool) (s : State) : Host.Outcome State Fault Refusal :=
  s.act tm (fun _ d =>
    let x := d.comp c
    let t := x.track k
    if x.powered && decide (k < 3) && t.check == some 0 then
      let d := d.modComp c (fun x =>
        let x := (x.modTrack k (fun t => { t with check := none, angle := t.sAngle.getD t.angle })).wr Reg.POS_SPARE.SHADOW 3
        [false, true].foldl (fun x b => if x.incIs b k then x.qualRegs b else x) x)
      if t.sAngle.isSome && !t.sBad then d.convSwap c k (x.pairNamed k b) else d.trackFail c k (x.pairNamed k b)
    else d)

/-- The next pair after `k` that an enabled channel uses. -/
def Comp.nextPair (x : Comp) (k : Nat) : Option Nat := ([1, 2, 3].map (fun n => (k + n) % 3)).find? x.pairUsed

/-- CONVERTER_SHADOW_STEP (R178): a free S goes on to the next enabled pair after 1 ms; one that shadows none begins
at pair `at_` or the next one enabled. -/
def execConverterShadowStep (tm : Nat) (c : CompId) (at_ : Nat) (s : State) : Host.Outcome State Fault Refusal :=
  s.act tm (fun t d =>
    let x := d.comp c
    let k := x.rd Reg.POS_SPARE.SHADOW
    if x.powered && x.sFree && (k == 3 || decide (x.front.shadowT + 100000 ≤ t)) then
      match x.nextPair (if k = 3 then at_ + 2 else k) with
      | some n =>
        d.modComp c (fun x => ({ x with front := { x.front with shadowT := t } }.wr Reg.POS_SPARE.SHADOW n).modTrack n
          (fun t => { t with sAngle := none, sBad := false, devRun := 0 }))
      | none => d
    else d)

/-! ### The A/B/Z input (R179) -/

/-- The place of an A, B level pair in the order in which the count rises: A leads B. -/
def quadPlace (a b : Bool) : Nat :=
  match a, b with
  | false, false => 0 | true, false => 1 | true, true => 2 | false, true => 3

/-- Channel `b` takes an A/B/Z count at T_corr `t`: the 100 ns grid sees the old count before it and the new one from its next
point. -/
def Comp.abzCount (x : Comp) (b : Bool) (n : Int) (t : Nat) : Comp :=
  let g := t / 10 * 10
  let p := x.chan b
  if x.posFault b || !p.started then x
  else
    let n := if x.flag (Reg.POS_CFG.DIR (bit b)) then -n else n
    (x.modChan b (fun p =>
      if p.t1 = g + 10 then { p with pos := p.pos + n, c1 := p.pos + n }
      else
        let p := p.speedSample (x.band b) p.pos
        { p with pos := p.pos + n, t0 := g, c0 := p.pos, t1 := g + 10, c1 := p.pos + n })).newSample b (g + 10)

/-- ABZ_EDGE (R179): the levels of A and B have been stable at the differential or the single-ended receivers; an accepted change
of both is illegal and not counted. -/
def execAbzEdge (tm : Nat) (c : CompId) (diff : Bool) (l : AbzIn) (s : State) : Host.Outcome State Fault Refusal :=
  s.act tm (fun _ d =>
    let x := d.comp c
    if x.abzAccepts diff l.stable then
      let old := quadPlace x.front.abzA x.front.abzB
      let step := (quadPlace l.a l.b + 4 - old) % 4
      let d := d.modComp c (fun x => { x with front := { x.front with abzA := l.a, abzB := l.b } })
      [false, true].foldl (fun d q =>
        if !((d.comp c).incIs q 3 && ((d.comp c).chan q).started) || step = 0 then d
        else if step = 2 then
          (d.modComp c (fun x => (x.wr (Reg.POS_STAT.DBT_ABZ (bit q)) 1).qualRegs q)).raiseC c q 52 sevFault 0
        else d.modComp c (fun x => x.abzCount q (if step = 1 then 1 else -1) x.tcorr)) d
    else d)

/-! ### Probes (R186, R187) -/

/-- A selected edge at a probe (R187): SINGLE keeps the first since the previous delivery and counts the others, CONT keeps
every edge that may still be the latest one due at a centre. -/
def Probe.take (y : Probe) (cont : Bool) (e : PrbEdge) : Probe :=
  if cont || y.held.isEmpty then { y with held := e :: y.held } else { y with edges := min 15 (y.edges + 1) }

/-- PROBE_EDGE (R186, R187): an edge is latched, at the tick of its crossing, where EDGE selects it and the filter accepts it. -/
def execProbeEdge (tm : Nat) (c : CompId) (p : Nat) (rising : Bool) (y : PrbIn) (s : State) : Host.Outcome State Fault Refusal :=
  s.act tm (fun _ d =>
    let x := d.comp c
    let sel := x.rd (Reg.POS_PRB_CFG.EDGE p)
    if x.powered && x.running && decide (p < 2) && x.flag (Reg.POS_PRB_CFG.EN p) && hasBit sel (if rising then 0 else 1) &&
        decide (x.rd (Reg.POS_PRB_CFG.FILT p) ≤ y.stable) then
      let e := x.settleEdge (x.flag (Reg.POS_PRB_CFG.CHAN p)) false { time := y.edge, rising := rising }
      d.modComp c (fun x => x.modProbe p (·.take (x.flag (Reg.POS_PRB_CFG.MODE p)) e))
    else d)

/-- Probe data become part of the position blocks from the first centre not earlier than 400 ns after the edge; the first
block of each bridge shows them as NEW (R187). In CONT it is the latest edge that is due, and younger ones wait. -/
def Probe.deliver (y : Probe) (tC : Nat) : Probe :=
  let due := y.held.filter (fun e => decide (e.time + 40 ≤ tC))
  match due with
  | e :: _ =>
    { held := y.held.filter (fun e => decide (tC < e.time + 40)), edges := 0, out := e, outN := min 15 (y.edges + due.length)
      new0 := true, new1 := true }
  | [] => y

/-- PRB_STAT of a probe in a block of bridge `b` (R193). -/
def Probe.stat (y : Probe) (b : Bool) : Nat :=
  y.outN + 16 * bit (if b then y.new1 else y.new0) + 32 * bit y.out.rising + 64 * bit y.out.doubt

/-! ### Speed windows (R188, R189) -/

/-- The speed fields of the samples (R188, R192). -/
def PosCh.spdQual (p : PosCh) (newWin : Bool) : Nat :=
  p.spdQ + 8 * bit newWin + 16 * bit p.spdCorr + 32 * bit p.spdSat

/-- The end of a speed window at t_P of the latched sample (R188, R189), whose length counts in ticks of the companion's own
counter and so includes the corrections of R130. An index step after t_P belongs to the next window. -/
def PosCh.windowEnd (p : PosCh) (invalid : Bool) (stillN : Nat) : PosCh :=
  let late := if p.edgeLate then p.edgeBy else 0
  let c := p.latched + late
  let n0 := dec 32 (enc 32 (c - p.winPos))
  let n := clampI (-2147483647) 2147483647 n0
  let base := { p with winN := 0, winPos := c, winT := p.latchT, winLen := (p.latchT - p.winT).toNat
                       spdCorr := p.winCorr && !(late != 0 && p.edgeFirst), winCorr := late != 0
                       winSw := false, spdSat := n != n0 }
  let p1 :=
    if p.winSw || invalid then { base with spdQ := 4, spd := 0, run := 0, r := c, dir := .none, x := c }
    else if p.quiet then
      (if stillN ≤ p.run + 1 then { base with spdQ := 1, spd := 0, run := p.run + 1, dir := .none, x := c }
       else { base with spdQ := 0, spd := n, run := p.run + 1 })
    else if p.wasStill then { base with spdQ := 2, spd := n }
    else if p.flipped then { base with spdQ := 3, spd := n }
    else { base with spdQ := 0, spd := n }
  let p2 := if p.quiet then p1 else { p1 with run := 0, r := c }
  { p2 with wasStill := p2.spdQ == 1, quiet := true, flipped := false }

/-- SPEED_WINDOW_END (R188): every SPD_N-th centre, at t_P of its sample; the samples of that centre carry the result with
NEWWIN. -/
def execSpeedWindowEnd (tm : Nat) (c : CompId) (b : Bool) (s : State) : Host.Outcome State Fault Refusal :=
  s.act tm (fun _ d =>
    let x := d.comp c
    let p := x.chan b
    if x.powered && x.posEn b && p.started && decide (1 ≤ p.winN) &&
        decide (x.rd (Reg.POS_SPD_CFG.SPD_N (bit b)) ≤ p.winN) then
      d.modComp c (fun x =>
        let x := x.modChan b (fun p =>
          (p.speedSample (x.band b) (p.latched + (if p.edgeLate then p.edgeBy else 0))).windowEnd (x.posState b == 4) (x.rd (Reg.POS_SPD_CFG.STILL_WINDOWS (bit b))))
        let q := x.chan b
        x.modBridge b (fun y => { y with samples := { y.samples with spd := q.spd, spdQual := q.spdQual true, spdWin := q.winLen } }))
    else d)

/-! ### Plausibility (R190) -/

/-- The difference d of R190. -/
def Comp.plausD (x : Comp) (b : Bool) : Int :=
  let a : Nat := angleOf (enc 32 (x.chan b).latched) (x.cpr b) / 2 ^ 20
  ((a : Int) - (x.chan b).absAngle / 16 + 2048) % 4096 - 2048

/-- Plausibility runs at a centre (R190); within tolerance for PLAUS_N centres clears DOUBT cause PLAUS. -/
def Comp.plausCentre (x : Comp) (b : Bool) : Comp :=
  let i := bit b
  let tol := x.rd (Reg.POS_ABS_CFG.PLAUS_TOL i)
  if tol = 0 || !x.flag (Reg.POS_STAT.ABS_VALID i) || x.posFault b || !x.posEn b then x
  else
    let bad := decide (tol < (x.plausD b).natAbs)
    let x := x.modChan b (fun p => { p with plausRun := if bad then p.plausRun + 1 else 0, plausOk := if bad then 0 else p.plausOk + 1 })
    if x.rd (Reg.POS_ABS_CFG.PLAUS_N i) ≤ (x.chan b).plausOk then (x.wr (Reg.POS_STAT.DBT_PLAUS i) 0).qualRegs b else x

/-- PLAUSIBILITY_FAIL (R190): beyond PLAUS_TOL on PLAUS_N centres in a row. -/
def execPlausibilityFail (tm : Nat) (c : CompId) (b : Bool) (s : State) : Host.Outcome State Fault Refusal :=
  s.act tm (fun _ d =>
    let x := d.comp c
    let i := bit b
    if x.powered && x.posEn b && decide (1 ≤ (x.chan b).plausRun) &&
        decide (x.rd (Reg.POS_ABS_CFG.PLAUS_N i) ≤ (x.chan b).plausRun) && !x.flag (Reg.POS_STAT.DBT_PLAUS i) then
      (d.modComp c (fun x => (x.wr (Reg.POS_STAT.DBT_PLAUS i) 1).qualRegs b)).raiseC c b 58 sevFault (enc 12 (x.plausD b))
    else d)

/-! ### The position part of a centre (R23, R185, R188, R193) -/

/-- SIG of channel `b` in POS_QUAL: its incremental or absolute pair warns (R176). -/
def Comp.sigWarn (x : Comp) (b : Bool) : Bool :=
  [0, 1, 2].any (fun k => (x.incIs b k || x.absIs b k) && x.flag (Reg.POS_TRK_STAT.SIG_WARN k))

/-- POS_QUAL of the sample block but for its IDX bit (R192). -/
def Comp.posQual (x : Comp) (b : Bool) : Nat :=
  let inc := x.rd (Reg.POS_CFG.INC (bit b))
  x.posState b + 8 * bit (x.sigWarn b) +
    32 * bit (decide (inc < 3) && x.rd Reg.POS_SPARE.SUB == inc) + 64 * min (x.chan b).misRun 2

/-- t_P of the sample latched for a centre (R174): the grid point, a multiple of 10 ticks, from 5 ticks before it to 4 after
it. -/
def gridFor (tC : Nat) : Nat := (tC + 4) / 10 * 10

/-- The position part of the samples of a centre (R68, R193) but for what its latched POS gives. -/
def Comp.posSamples (x : Comp) (b : Bool) (tC : Nat) (s : Samples) : Samples :=
  let p := x.chan b
  let prb := [x.probe 0, x.probe 1]
  { s with posQual := x.posQual b, spd := p.spd, spdQual := p.spdQual false, spdWin := p.winLen
           posDt := ((gridFor tC : Int) - tC) * 10, absAngle := p.absAngle
           absStat := bit (x.flag (Reg.POS_STAT.ABS_VALID (bit b))) + 2 * bit (x.flag (Reg.POS_STAT.DBT_PLAUS (bit b)))
           idxDev := dec 16 (x.rd (Reg.POS_IDX_STAT.IDX_DEV (bit b)))
           prbTime := prb.map (·.out.time), prbPos := prb.map (fun y => enc 32 y.out.pos), prbStat := prb.map (·.stat b) }

/-- The position part of a centre: probe deliveries, the latch at t_P, plausibility, the samples, and the count of the speed
window. -/
def Comp.positionCentre (x : Comp) (b : Bool) (tC : Nat) : Comp :=
  let x := [0, 1].foldl (fun x p => (x.settleProbe p true).modProbe p (·.deliver tC)) x
  let tP := gridFor tC
  let x := x.modChan b (fun p => { p with latch := tP, latchT := (x.ticks : Int) - x.tcorr + tP })
  let x := x.plausCentre b
  let x := (x.modBridge b (fun y => { y with samples := x.posSamples b tC y.samples })).latchPos b
  let x := [0, 1].foldl (fun x p => x.modProbe p (fun y => if b then { y with new1 := false } else { y with new0 := false })) x
  x.modChan b (fun p => if p.started then { p with idxBetween := p.edgeLate, winN := p.winN + 1 } else p)

/-! ### The start of the position front end (R178, R181) -/

/-- Channel `b` at the start of the position front end (R181), from its absolute track. -/
def Comp.startChan (x : Comp) (b : Bool) : Comp :=
  let i := bit b
  if !x.posEn b then x.qualRegs b
  else
    let abs := x.absNow b
    let pos : Int := match abs with
      | some a => (a * x.cpr b / 65536 : Nat)
      | none => 0
    let x := x.modChan b (fun _ =>
      { pos := pos, started := true, homed := abs.isSome && !x.flag (Reg.POS_IDX_CFG.IDX_EN i), absAngle := abs.getD 0
        winPos := pos, winT := x.ticks, x := pos, r := pos, t0 := x.tcorr, c0 := pos, t1 := x.tcorr, c1 := pos })
    let x := (((((x.wr (Reg.POS_STAT.ABS_VALID i) (bit abs.isSome)).wr (Reg.POS_STAT.DBT_IDX i) 0).wr
      (Reg.POS_STAT.DBT_ABZ i) 0).wr (Reg.POS_STAT.DBT_CONV i) 0).wr (Reg.POS_STAT.DBT_PLAUS i) 0).wr (Reg.POS_STAT.HOMED i) 0
    x.qualRegs b

/-- The converter check of CALIB at pair `k` (R178): S takes over from a pair that fails, or the track has failed. -/
def Dev.convCheck (d : Dev) (c : CompId) (k : Nat) (bad : Bool) : Dev :=
  let x := d.comp c
  let sub := x.rd Reg.POS_SPARE.SUB
  if sub = k then (if x.flag Reg.POS_SPARE.SPARE_FAIL then d.trackLost c k (x.pairBridge k) else d.wrC c (Reg.POS_TRK_STAT.CONV_FAIL k) 1)
  else if bad then
    (if sub = 3 && !x.flag Reg.POS_SPARE.SPARE_FAIL then d.convSwap c k (x.pairBridge k) else d.trackLost c k (x.pairBridge k))
  else d

/-- What a pair that failed in CALIB means for channel `b` (R178, R184, R191). -/
def Dev.startFaults (d : Dev) (c : CompId) (b : Bool) : Dev :=
  let x := d.comp c
  let failed := fun (p : Nat → Bool) => [0, 1, 2].any (fun k => p k && x.flag (Reg.POS_TRK_STAT.FAIL k))
  let d := if failed (x.absIs b) then d.raiseC c b 59 sevFault 0 else d
  if failed (x.incIs b) then d.posFail c b else d

/-- The tracks at the start of the position front end: the first sample of each pair, and no corrections (R175, R181). -/
def Comp.startTracks (x : Comp) (pairs : List (Int × Int)) : Comp :=
  (List.range 3).foldl (fun x k => x.modTrack k (fun _ => { started := true, angle := lineAngle (pairs.getD k (0, 0)) }))
    { x with front := { x.front with tracks := [], probes := [], chans := [] } }

/-- The position front end starts at the end of CALIB (R178, R181): converter check, corrections from zero, and POS from the
absolute track. -/
def Dev.startPosition (d : Dev) (c : CompId) (r : CalibRes) : Dev :=
  let d := d.modComp c (fun x =>
    let x := { x.startTracks r.pairs with front := { (x.startTracks r.pairs).front with shadowT := d.clk } }
    if r.conv.contains 3 then x.wr Reg.POS_SPARE.SPARE_FAIL 1 else x)
  let d := [0, 1, 2].foldl (fun d k => d.convCheck c k (r.conv.contains k)) d
  let d := d.modComp c (fun x => (x.startChan false).startChan true)
  (d.startFaults c false).startFaults c true

/-! ### SENT (R167 to R169) -/

/-- SENT receiver `n`. -/
def Comp.sentCh (x : Comp) (n : Nat) : SentCh := Sparse.get ({} : SentCh) x.front.sent n

/-- The companion with one receiver changed. -/
def Comp.modSent (x : Comp) (n : Nat) (f : SentCh → SentCh) : Comp :=
  { x with front := { x.front with sent := Sparse.set ({} : SentCh) x.front.sent n (f (x.sentCh n)) } }

/-- One step of the fast-channel CRC of SAE J2716: polynomial x^4 + x^3 + x^2 + 1. -/
def crc4Step (c : Nat) : Nat := [0, 13, 7, 10, 14, 3, 9, 4, 1, 12, 6, 11, 15, 2, 8, 5].getD c 0

/-- The fast-channel CRC over the data nibbles, seed 5; the recommended method goes on with one zero nibble. -/
def crc4 (rec_ : Bool) (ns : List Nat) : Nat :=
  let c := ns.foldl (fun c n => crc4Step c ^^^ n) 5
  if rec_ then crc4Step c else c

/-- One bit of the serial-message CRC of SAE J2716: polynomial x^6 + x^4 + x^3 + 1. -/
def crc6Bit (c : Nat) (v : Bool) : Nat :=
  let n := 2 * c + bit v
  if 64 ≤ n then (n - 64) ^^^ 25 else n

/-- The serial-message CRC over bits, seed 21, with six zero bits after them. -/
def crc6 (vs : List Bool) : Nat := (vs ++ List.replicate 6 false).foldl crc6Bit 21

/-- A nibble pulse in ticks of the message, to the nearest tick. -/
def sentTicks (pulse cal : Nat) : Int := openNear 168 (pulse * 56) cal

/-- The calibration pulse of a message is accepted (R168): within ±20 % of 56 nominal ticks and within 1/64 of the previous
accepted one. -/
def Comp.sentCalOk (x : Comp) (n cal : Nat) : Bool :=
  let nom := 560 * x.rd (Reg.SNT_CFG.TICK n)
  let last := (x.sentCh n).lastCal
  decide (4 * nom ≤ 5 * cal) && decide (5 * cal ≤ 6 * nom) && (last == 0 || decide (64 * ((cal : Int) - last).natAbs ≤ last))

/-- The verdict on a message (R168): the error kind, or its nibble values, status first. The first cause found counts, in the
order calibration pulse, nibbles, nibble count, pause pulse, CRC (DEDUCED, log 36). -/
def Comp.sentVerdict (x : Comp) (n : Nat) (m : SentPulses) : Nat ⊕ List Nat :=
  let vs := m.nibs.map (fun p => sentTicks p m.cal)
  let pauseOk := !x.flag (Reg.SNT_CFG.PAUSE n) || (match m.pause with
    | some p => decide (p * 56 ≤ 768 * m.cal)
    | none => false)
  if !x.sentCalOk n m.cal || m.cal = 0 || !vs.all (fun v => decide (12 ≤ v) && decide (v ≤ 27)) then .inl 2
  else if m.nibs.length ≠ x.rd (Reg.SNT_CFG.NIB n) + 2 then .inl 3
  else if !pauseOk then .inl 2
  else
    let ns := vs.map (fun v => (v - 12).toNat)
    if crc4 (x.flag (Reg.SNT_CFG.CRC_REC n)) ((ns.drop 1).dropLast) ≠ ns.getLastD 0 then .inl 1 else .inr ns

/-- A rejection at receiver `n` (R168): counted over 100 ms, its kind recorded, SNT_ERR raised. -/
def Dev.sentReject (d : Dev) (c : CompId) (n kind : Nat) : Dev :=
  let d := d.modComp c (fun x =>
    let rs := d.clk :: (x.sentCh n).rejects.filter (fun t => decide (d.clk < t + 10000000))
    ((x.modSent n (fun y => { y with rejects := rs })).wr (Reg.SNT_STAT.ERR n) kind).wr (Reg.SNT_STAT.CNT n) (min 15 rs.length))
  d.raiseC c false 46 sevDiag (n + 16 * kind)

/-- The enhanced serial message in 18 collected frames, oldest first, each as 2 × (bit 3) + (bit 2): message ID and data, or
none where its CRC is wrong. -/
def esmDecode (fs : List Nat) : Option (Nat × Nat) :=
  let b2 := fun i => hasBit (fs.getD i 0) 0
  let b3 := fun i => hasBit (fs.getD i 0) 1
  let num := fun (vs : List Bool) => vs.foldl (fun a v => 2 * a + bit v) 0
  let crc := num ((List.range 6).map b2)
  let body := (List.range 12).flatMap (fun i => [b2 (6 + i), b3 (6 + i)])
  if crc6 body ≠ crc then none
  else
    let data := num ((List.range 12).map (fun i => b2 (6 + i)))
    let hi := num ((List.range 4).map (fun i => b3 (8 + i)))
    let lo := num ((List.range 4).map (fun i => b3 (13 + i)))
    if b3 7 then some (hi, lo * 4096 + data) else some (hi * 16 + lo, data)

/-- The status nibble of an accepted message feeds the serial decoder (R167): the frames collected so far, newest first. A
start is six ones of bit 3 followed by a zero; bits 13 and 18 are zero. -/
def Dev.sentSerial (d : Dev) (c : CompId) (n status : Nat) : Dev :=
  let f := bit (hasBit status 2) + 2 * bit (hasBit status 3)
  let one := hasBit f 1
  let fs := ((d.comp c).sentCh n).serial
  let keep := fun (d : Dev) (fs : List Nat) => d.modComp c (fun x => x.modSent n (fun y => { y with serial := fs }))
  let k := fs.length
  if k < 6 then keep d (if one then f :: fs else [])
  else if k = 6 then keep d (if one then (f :: fs).take 6 else f :: fs)
  else if (k = 12 || k = 17) && one then (keep d []).sentReject c n 3
  else if k < 17 then keep d (f :: fs)
  else match esmDecode (f :: fs).reverse with
    | some m => (keep d []).modComp c (fun x => (x.modSent n (fun y => { y with esm := m.1 + 256 * m.2 })).wr (Reg.SNT_STAT.ESM n) 1)
    | none => (keep d []).sentReject c n 1

/-- The channels whose absolute source is SENT receiver `n`. -/
def Dev.sentAbs (d : Dev) (c : CompId) (n : Nat) : Dev :=
  [false, true].foldl (fun d b =>
    if (d.comp c).posEn b && (d.comp c).rd (Reg.POS_CFG.ABS (bit b)) == n + 4 then d.refreshAbs c b else d) d

/-- SENT_MESSAGE (R168, R169): accepted or rejected. -/
def execSentMessage (tm : Nat) (c : CompId) (n : Nat) (m : SentPulses) (s : State) : Host.Outcome State Fault Refusal :=
  s.act tm (fun t d =>
    let x := d.comp c
    if x.powered && x.running && decide (n < 4) && x.flag (Reg.SNT_CFG.EN n) then
      let d := if x.sentCalOk n m.cal then d.modComp c (fun x => x.modSent n (fun y => { y with lastCal := m.cal })) else d
      match x.sentVerdict n m with
      | .inl kind => d.sentReject c n kind
      | .inr ns =>
        let data := ((ns.drop 1).dropLast).foldl (fun a v => a * 16 + v) 0
        let status := ns.headD 0
        let d := d.modComp c (fun x => (x.modSent n (fun y =>
          { y with data := data, status := status, lastAt := t })).wr (Reg.SNT_STAT.VALID n) 1)
        let d := if x.flag (Reg.SNT_CFG.ESM n) then d.sentSerial c n status else d
        d.sentAbs c n
    else d)

/-- SENT_STALE (R169): no accepted message for STALE ms. -/
def execSentStale (tm : Nat) (c : CompId) (n : Nat) (s : State) : Host.Outcome State Fault Refusal :=
  s.act tm (fun t d =>
    let x := d.comp c
    if x.powered && decide (n < 4) && x.flag (Reg.SNT_STAT.VALID n) &&
        decide ((x.sentCh n).lastAt + x.rd (Reg.SNT_CFG.STALE n) * 100000 ≤ t) then
      ((d.wrC c (Reg.SNT_STAT.VALID n) 0).raiseC c false 47 sevFault n).sentAbs c n
    else d)

/-- The SENT part of the samples of a centre (R169): data, status, NEW since the previous centre, VALID; serial messages; and
the SENT bits of MEAS_STAT. -/
def Comp.sentSamples (x : Comp) (clk prev : Nat) (s : Samples) : Samples :=
  let word := fun n =>
    let y := x.sentCh n
    let v := x.flag (Reg.SNT_STAT.VALID n)
    y.data + y.status * 2 ^ 24 + 2 ^ 30 * bit (v && decide (x.clkOf clk prev < y.lastAt)) + 2 ^ 31 * bit v
  { s with sent := (List.range 4).map word, esm := (List.range 4).map (fun n => (x.sentCh n).esm)
           measStat := s.measStat + 64 * bitsOf 4 (fun n => x.flag (Reg.SNT_STAT.VALID n)) }

end Sys2Proof.Machine
end

