-- ==== Sys2Proof/Machine/SafetyIo.lean ====
section
/-!
DEFINITION. Safety inputs and holding-brake outputs (R194 to R209): the SIO tick, discrepancy faults, requests, pull-in, dark
tests and latched output faults. The precedence of R205 is in Settle.lean.
-/
namespace Sys2Proof.Machine

/-! ### Dual-contact inputs (R194 to R201) -/

/-- Input `i` of a companion. -/
def Comp.sioIn (x : Comp) (i : Nat) : SioIn := Sparse.get ({} : SioIn) x.sio i

/-- Input `i` with a run of mismatches since `t1` faults at tick `t` (R197). -/
def Comp.discDue (x : Comp) (i t1 t : Nat) : Bool := decide (t1 + x.rd (Reg.SIO_IN_CFG.DT i) * 100000 ≤ t)

/-- One enabled input at the tick `t` (R195 to R199): its contact demands, run, fault, demand, and what it raises: 60 for a
fault, 61 for its end, 0 for nothing. -/
def Comp.sioEval (x : Comp) (i t : Nat) (closedA closedB : Bool) : Comp × Nat :=
  let a := closedA != x.flag (Reg.SIO_IN_CFG.POL_A i)
  let b := closedB != x.flag (Reg.SIO_IN_CFG.POL_B i)
  let old := x.sioIn i
  let was := x.flag (Reg.SIO_STAT.FAULT i)
  let t1 := old.t1.getD t
  let mism := a != b
  let rest := if mism || a then 0 else old.rest + 1
  let fault := if was then !decide (4 ≤ rest) else mism && x.discDue i t1 t
  let dem := if fault then x.flag (Reg.SIO_IN_CFG.FAIL_DEM i)
    else if x.flag (Reg.SIO_IN_CFG.MODE i) then a && b else a || b
  let now : SioIn := { a := a, b := b, t1 := if mism then some t1 else none, rest := if was then rest else 0 }
  let x := { x with sio := Sparse.set ({} : SioIn) x.sio i now }
  let x := (((((x.wr (Reg.SIO_STAT.DEMAND i) (bit dem)).wr (Reg.SIO_STAT.FAULT i) (bit fault)).wr
    (Reg.SIO_STAT.MISM i) (bit mism)).wr (Reg.SIO_RAW.CLOSED_A i) (bit closedA)).wr (Reg.SIO_RAW.CLOSED_B i) (bit closedB))
  if fault && !was then (x.inc (Reg.SIO_DISC_CNT.CNT i), 60)
  else if was && !fault then (x, 61)
  else (x, 0)

/-- One input at a tick; a disabled one reads 0 in every bit. -/
def Dev.sioInput (d : Dev) (c : CompId) (i t : Nat) (closedA closedB : Bool) : Dev :=
  let x := d.comp c
  if x.flag (Reg.SIO_IN_CFG.EN i) then
    let r := x.sioEval i t closedA closedB
    let d := d.setComp c r.1
    if r.2 = 60 then d.raiseC c false 60 sevFault i
    else if r.2 = 61 then d.raiseC c false 61 sevDiag i
    else d
  else
    d.setComp c ((({ x with sio := Sparse.del x.sio i }.wr (Reg.SIO_STAT.DEMAND i) 0).wr (Reg.SIO_STAT.FAULT i) 0).wr
      (Reg.SIO_STAT.MISM i) 0)

/-- A demand that PWR_CFG.WAKE_SIO names ends DOZE (R369). -/
def Dev.sioWake (d : Dev) (c : CompId) : Dev :=
  match d.driver c with
  | some l =>
    if (List.range 8).any (fun i => (d.comp c).flag (Reg.SIO_STAT.DEMAND i) && (d.lane l).flag (Reg.PWR_CFG.WAKE_SIO i)) then
      d.wakeDoze 5 0
    else d
  | none => d

/-- SIO_TICK (R195): at a T_corr that is a multiple of 25,000; bit `i` of the operands is contact A or B of input `i`
closed. -/
def execSioTick (tm : Nat) (c : CompId) (closedA closedB : Nat) (s : State) : Host.Outcome State Fault Refusal :=
  s.act tm (fun _ d =>
    let x := d.comp c
    let t := x.tcorr / 25000 * 25000
    if x.powered && x.running && decide (x.sioTime < t) then
      let d := d.modComp c (fun x => { x with sioTime := t })
      let d := (List.range 8).foldl (fun d i => d.sioInput c i t (hasBit closedA i) (hasBit closedB i)) d
      (d.sioWake c).settle
    else d)

/-- The safety I/O part of the samples of a centre (R201): a disabled input reads 0 in every bit. -/
def Comp.sioSamples (x : Comp) (s : Samples) : Samples :=
  let ins := fun (p : Nat → Bool) => bitsOf 8 (fun i => x.flag (Reg.SIO_IN_CFG.EN i) && p i)
  let st := fun j => x.rd (Reg.SBC_STAT.STATE j) + 4 * x.rd (Reg.SBC_STAT.CAUSE j) + 16 * x.rd (Reg.SBC_STAT.FAULT j)
  { s with sio := [ins (fun i => x.flag (Reg.SIO_STAT.DEMAND i)), ins (fun i => x.flag (Reg.SIO_STAT.FAULT i)),
                   ins (fun i => x.flag (Reg.SIO_STAT.MISM i)), ins (fun i => (x.sioIn i).a), ins (fun i => (x.sioIn i).b)]
           sbcStat := [st 0, st 1], sioTime := x.sioTime % 2 ^ 32 }

/-! ### Holding-brake outputs (R202 to R208) -/

/-- A request for output `j` takes effect (R204, R206): KEEP stays in the present state, and leaves a state held for lane D
held. -/
def SbcOut.ask (o : SbcOut) (req : Nat) : SbcOut :=
  if req = 3 then (if o.keepHeld then o else { o with req := o.state }) else { o with req := req, keepHeld := false }

/-- The requests of a block of the PWM unit of bridge `b` take effect at its reload (R204): only its OWNER's outputs. -/
def Dev.sbcRequest (d : Dev) (c : CompId) (b : Bool) (req : Nat) : Dev :=
  (d.modComp c (fun x => [0, 1].foldl (fun x j =>
    if x.flag (Reg.SBC_CFG.OWNER j) == b then x.modOut j (·.ask (req / 4 ^ j % 4)) else x) x)).settle

/-- Lane D adopts a companion: the held states persist until it asks for a change (R206). -/
def Comp.holdForD (x : Comp) : Comp :=
  [0, 1].foldl (fun x j => x.modOut j (fun o => { o with keepHeld := true, req := o.state })) x

/-- An output fault is latched (R208): its kind, SBC_FAULT, the service flag, and row 1 of R205. -/
def Dev.sbcFault (d : Dev) (c : CompId) (j kind : Nat) : Dev :=
  if (d.comp c).flag (Reg.SBC_STAT.FAULT j) then d
  else
    let d := d.modComp c (fun x => (x.wr (Reg.SBC_STAT.FAULT j) 1).wr (Reg.SBC_STAT.FKIND j) kind)
    ((d.serviceOf c).raiseC c false 62 sevFault (j + 2 * kind)).settle

/-- The latest coil current, in mA (SBC_STAT.I_COIL). -/
def Comp.coil (x : Comp) (j cur : Nat) : Comp := x.wr (Reg.SBC_STAT.I_COIL j) (min cur 4095)

/-- PULL_IN_END (R203): PULL ms after it began, the high side chops. -/
def execPullInEnd (tm : Nat) (c : CompId) (j : Nat) (s : State) : Host.Outcome State Fault Refusal :=
  s.act tm (fun t d =>
    let x := d.comp c
    match (x.out j).pullAt with
    | some p =>
      if x.powered && decide (j < 2) && decide (p + x.rd (Reg.SBC_CFG.PULL j) * 100000 ≤ t) then
        d.modComp c (fun x => x.modOut j (fun o => { o with pullAt := none, chopping := true, relAt := t }))
      else d
    | none => d)

/-- DARK_TEST_START (R207): every PERIOD × 10 ms, on alternate sides, never two at a time nor during a handover hold. -/
def execDarkTestStart (tm : Nat) (c : CompId) (j : Nat) (s : State) : Host.Outcome State Fault Refusal :=
  s.act tm (fun t d =>
    let x := d.comp c
    let o := x.out j
    if x.powered && decide (j < 2) && x.flag Reg.SBC_TEST_CFG.DARK_EN && o.state != 0 && (x.out 0).dark.isNone &&
        (x.out 1).dark.isNone && !(x.hoRun && !x.holdExp) && decide (o.darkAt + x.rd Reg.SBC_TEST_CFG.PERIOD * 1000000 ≤ t) then
      d.modComp c (fun x => x.modOut j (fun o => { o with dark := some o.darkSide, darkSide := 1 - o.darkSide, darkAt := t }))
    else d)

/-- DARK_TEST_END (R207, R208): after TEST_US the switch is restored; a failed test latches the side stuck on. -/
def execDarkTestEnd (tm : Nat) (c : CompId) (j : Nat) (pass : Bool) (s : State) : Host.Outcome State Fault Refusal :=
  s.act tm (fun t d =>
    let x := d.comp c
    match (x.out j).dark with
    | some side =>
      if x.powered && decide (j < 2) && decide ((x.out j).darkAt + x.rd Reg.SBC_TEST_CFG.TEST_US * 100 ≤ t) then
        let d := d.modComp c (fun x => x.modOut j (fun o => { o with dark := none, onAt := t }))
        if pass then d else d.sbcFault c j (1 + side)
      else d
    | none => d)

/-- SBC_OVERCURRENT (R202): a coil current above 3 A, in mA. -/
def execSbcOvercurrent (tm : Nat) (c : CompId) (j : Nat) (cur : Nat) (s : State) : Host.Outcome State Fault Refusal :=
  s.act tm (fun _ d =>
    if (d.comp c).powered && decide (j < 2) then
      let d := d.modComp c (·.coil j cur)
      if 3000 < cur then d.sbcFault c j 6 else d
    else d)

/-- Whether a failure of R208 can be decided now: stuck-on after 1 ms in APPLIED, stuck-off 100 µs after a switch-on, the end of
a dark test among them, of a side that no test has switched off; an open coil 10 ms after pull-in or entry to RELEASED with
the current below OPEN_TH. -/
def Comp.sbcDecidable (x : Comp) (j kind cur clk : Nat) : Bool :=
  let o := x.out j
  match kind with
  | 1 => o.state == 0 && decide (o.appAt + 100000 ≤ clk)
  | 2 => o.state == 0 && decide (o.appAt + 100000 ≤ clk)
  | 3 => o.state != 0 && o.dark != some 0 && decide (o.onAt + 10000 ≤ clk)
  | 4 => o.state != 0 && o.dark != some 1 && decide (o.onAt + 10000 ≤ clk)
  | 5 => (o.state == 1 || o.chopping) && decide (o.relAt + 1000000 ≤ clk) && decide (cur < x.rd (Reg.SBC_CFG.OPEN_TH j) * 10)
  | _ => false

/-- SBC_FAULT_DETECT (R208): a failure by its FKIND, with the coil current in mA. -/
def execSbcFaultDetect (tm : Nat) (c : CompId) (j : Nat) (kind : Nat) (cur : Nat) (s : State) : Host.Outcome State Fault Refusal :=
  s.act tm (fun t d =>
    let x := d.comp c
    if x.powered && decide (j < 2) then
      let d := d.modComp c (·.coil j cur)
      if x.sbcDecidable j kind cur t then d.sbcFault c j kind else d
    else d)

/-- SBC_SUPPLY_LOSS (R208): VSBC below its threshold for 1 ms, or, for `low` false, above it again; nothing is latched. -/
def execSbcSupplyLoss (tm : Nat) (c : CompId) (low : Bool) (s : State) : Host.Outcome State Fault Refusal :=
  s.act tm (fun _ d =>
    let x := d.comp c
    if x.powered then
      let d := if low && !x.flag (Reg.SBC_STAT.SUPPLY 0) then d.raiseC c false 63 sevFault 0 else d
      (d.wrC c (Reg.SBC_STAT.SUPPLY 0) (bit low)).wrC c (Reg.SBC_STAT.SUPPLY 1) (bit low)
    else d)

end Sys2Proof.Machine
end

