-- ==== Sys2Proof/Machine/PwmUnit.lean ====
section
/-!
DEFINITION. The PWM unit (R23, R68, R129 to R150): centres, reload points, releases, sample blocks, and the handover
sequence of the switch.
-/
namespace Sys2Proof.Machine

/-! ### Centres and reload points (R129, R130, R134) -/

/-- PERIOD and PHASE of a bridge. -/
def Comp.period (x : Comp) (b : Bool) : Nat := x.rd (Reg.PWM_CFG.PERIOD (bit b))
def Comp.phase (x : Comp) (b : Bool) : Nat := x.rd (Reg.PWM_CFG.PHASE (bit b))

/-- The PWM unit of a bridge runs: powered, timebase running, enabled, and not in DOZE or deeper (R357). -/
def Dev.pwmRuns (d : Dev) (c : CompId) (b : Bool) : Bool :=
  let x := d.comp c
  x.powered && x.running && x.flag (Reg.PWM_CFG.EN (bit b)) && decide (d.pwr.state ≤ 1) && x.period b != 0

/-- The latest nominal centre not after T_corr `t` (R129). -/
def Comp.centreAt (x : Comp) (b : Bool) (t : Nat) : Option Nat :=
  if x.phase b ≤ t then some (t - (t - x.phase b) % x.period b) else none

/-- Distance of reload points: a period, or half of one with HALF (R134). -/
def Comp.reloadStep (x : Comp) (b : Bool) : Nat := if x.flag (Reg.PWM_CFG.RELOAD (bit b)) then x.period b / 2 else x.period b

/-- The latest reload point not after T_corr `t`. -/
def Comp.reloadPoint (x : Comp) (b : Bool) (t : Nat) : Option Nat :=
  if x.phase b ≤ t ∧ x.reloadStep b ≠ 0 then some (t - (t - x.phase b) % x.reloadStep b) else none

/-- The first reload point after T_corr `t` (R87). -/
def Comp.nextReload (x : Comp) (b : Bool) (t : Nat) : Nat :=
  match x.reloadPoint b t with
  | some p => p + x.reloadStep b
  | none => x.phase b

/-- The slower of the enabled PWM units, the lower-numbered of equals. -/
def Comp.slower (x : Comp) : Option Bool :=
  match x.flag (Reg.PWM_CFG.EN 0), x.flag (Reg.PWM_CFG.EN 1) with
  | true, true => some (decide (x.period false < x.period true))
  | true, false => some false
  | false, true => some true
  | false, false => none

/-- A correction not yet applied is added to T_corr, by not more than 4 ticks (R130, R225). -/
def Comp.takeSlew (x : Comp) : Comp :=
  let n := clampI (-128) 128 x.lower.slew
  { x with ofs32 := x.ofs32 + n, lower := { x.lower with slew := x.lower.slew - n } }

/-- A centre latches the winding mask that was present 100 ns before it (R144). -/
def Comp.shareCentre (x : Comp) (clk : Nat) (b : Bool) (tC : Nat) : Comp :=
  match (((x.bridge b).masks).filter (fun m => decide (m.at_ + 10 ≤ x.clkOf clk tC))).head? with
  | some m =>
    let x := x.wr Reg.PWM_SHARE.SRC (m.src + 1)
    if b then (x.wr Reg.PWM_SHARE.MASK_B2 m.mask).wr Reg.PWM_SHARE.HO_B2 (bit m.ho)
    else (x.wr Reg.PWM_SHARE.MASK_B1 m.mask).wr Reg.PWM_SHARE.HO_B1 (bit m.ho)
  | none => x

/-- The latched mask of a motor set and its handover bit. -/
def Comp.latched (x : Comp) (b : Bool) : Nat × Bool :=
  if b then (x.rd Reg.PWM_SHARE.MASK_B2, x.flag Reg.PWM_SHARE.HO_B2) else (x.rd Reg.PWM_SHARE.MASK_B1, x.flag Reg.PWM_SHARE.HO_B1)

/-- The drive part of the samples of a centre (R145). -/
def Comp.driveSamples (x : Comp) (c : CompId) (b : Bool) (s : Samples) : Samples :=
  let m := x.latched b
  let i := bit b
  { s with gain := shareGain m.1 (compIdx c), mask := m.1 + 8 * bit m.2
           boost := x.rd (Reg.PWM_STAT.BOOST_ON i) + 2 * x.rd (Reg.PWM_STAT.BOOST_EXH i) + 4 * x.rd (Reg.PWM_STAT.DERATE i)
           iCap := (x.bridge b).iCap, boostLeft := x.rd (Reg.PWM_STAT.BOOST_LEFT i), drvStat := x.drvStat b }

/-- The current limit flag moves on to the period that ended, and FAULTS_1S follows the latest second (R137, R145). -/
def Comp.turnPeriod (x : Comp) (b : Bool) : Comp :=
  let x := x.modBridge b (fun y => { y with limPrev := y.limNow, limNow := false, faults := y.recentFaults x.tcorr })
  x.wr (Reg.GDV_STAT.FAULTS_1S (bit b)) (min 2 (x.bridge b).faults.length)

/-- A bridge latches everything at its centre `tC` (R23, R129 to R164, R185 to R201). -/
def Dev.centre (d : Dev) (c : CompId) (b : Bool) (tC : Nat) (o : CentreObs) : Dev :=
  let prev := ((d.comp c).bridge b).lastC
  let d := d.modComp c (fun x => (x.shareCentre d.clk b tC).turnPeriod b)
  let d := d.measureCentre c b tC o
  let d := d.stepAcct c b (tC - prev)
  let d := d.stepCap c b ((d.comp c).latched b).1
  d.modComp c (fun x =>
    let x := x.positionCentre b tC
    let x := x.modBridge b (fun y => { y with
      samples := x.sioSamples (x.sentSamples d.clk prev (x.driveSamples c b y.samples))
      lastC := tC, actDone := y.skipC, skipC := false, peakI := peakOf [y.samples.iU, y.samples.iV, y.samples.iW] })
    if x.slower = some b then x.takeSlew else x)

/-- PWM_CENTRE (R129): the latest nominal centre that has not been taken. -/
def execPwmCentre (tm : Nat) (c : CompId) (b : Bool) (o : CentreObs) (s : State) : Host.Outcome State Fault Refusal :=
  s.act tm (fun _ d =>
    match (d.comp c).centreAt b (d.comp c).tcorr with
    | some tC => if d.pwmRuns c b && decide (((d.comp c).bridge b).lastC < tC) then (d.centre c b tC o).settle else d
    | none => d)

/-- The block in force after a reload: the held one, with ENABLE taken as 0 in HOLD (R134, R357). -/
def Bridge.inForce (y : Bridge) (run : Bool) : OutBlock := { y.held with enable := y.held.enable && run }

/-- A reload point `pt` of a bridge (R87, R134 to R137, R204). -/
def Dev.reload (d : Dev) (c : CompId) (b : Bool) (pt : Nat) : Dev :=
  let x := d.comp c
  let y := x.bridge b
  let atPeak := (pt - x.phase b) % x.period b != 0
  let clear := y.waitRel && y.relSeen && !x.faulted b && !x.supplyBad b
  let d := d.modComp c (fun x => x.modBridge b (fun y =>
    let live := y.inForce (d.pwr.state == 0)
    { y with live := live, fresh := false, cut := false, waitRel := y.waitRel && !clear, reloadAt := pt
             phases := x.phasesAfter b live atPeak, prevPhases := if atPeak then y.prevPhases else y.phases }))
  let d := if y.fresh && decide (y.meantFor < pt) then
      (d.wrC c (Reg.PWM_STAT.SLIP (bit b)) 1).raiseC c b 19 sevDiag 0
    else d
  if y.fresh then d.sbcRequest c b y.held.sbcReq else d.settle

/-- PWM_RELOAD (R134). -/
def execPwmReload (tm : Nat) (c : CompId) (b : Bool) (s : State) : Host.Outcome State Fault Refusal :=
  s.act tm (fun _ d =>
    match (d.comp c).reloadPoint b (d.comp c).tcorr with
    | some pt => if d.pwmRuns c b && decide (((d.comp c).bridge b).reloadAt < pt) then d.reload c b pt else d
    | none => d)

/-! ### Releases (R61, R69, R87, R149) -/

/-- A released block is held by the companion (R17, R69, R87), and its FABRIC_OUT by the fabric's upper layer (R232). The
reload it was meant for is the first after t_A, whatever DIV is (DESIGN CHOICE, log 121). -/
def Dev.hold (d : Dev) (l : LaneId) (c : CompId) (r : Release) : Dev :=
  let b := r.bridge == 1
  let t := (d.comp c).tcorr
  let d := d.modComp c (fun x =>
    let seen := r.out.enable && !x.faulted b && !x.supplyBad b
    let x := x.modBridge b (fun y => { y with
      held := r.out, fresh := true, heldAt := t, meantFor := x.nextReload b r.tA, released := true
      relSeen := y.relSeen || seen
      joinRel := if y.joining && y.joinRel.isNone then some t else y.joinRel })
    ((x.wr (missFld b) 0).wr (offFld b) 0).wr Reg.CMPS_REL.RELEASES (x.rd Reg.CMPS_REL.RELEASES + 1))
  let d := d.modLane l (fun x => { x with fab := { x.fab with
    fabOut := Sparse.put x.fab.fabOut r.task r.out.fabOut
    relCnt := Sparse.set 0 x.fab.relCnt r.task (Sparse.get 0 x.fab.relCnt r.task + 1) } })
  d.settle

/-- RELEASE (R69): the oldest sealed block of a lane reaches the companion it drives; over a quarantined port it is
ignored (R148), and while EXTEST or a private test is in force the lane releases none (R425). -/
def execRelease (tm : Nat) (l : LaneId) (s : State) : Host.Outcome State Fault Refusal :=
  s.act tm (fun _ d =>
    match (d.lane l).eng.outbox with
    | [] => d
    | r :: rest =>
      let d := d.modLane l (·.modEng (fun e => { e with outbox := rest }))
      match d.adopted l with
      | some c => if (d.comp c).powered && d.driver c == some l && !(d.lane l).tapBlocks then d.hold l c r else d
      | none => d)

/-! ### Sample blocks (R68, R145, R159, R193, R201) -/

/-- Little-endian signed field of `n` bytes. -/
def leInt (n : Nat) (x : Int) : List Byte := leBytes n (enc (8 * n) x)

/-- `n` fields of `w` bytes from a list, missing ones 0. -/
def leList (w n : Nat) (xs : List Nat) : List Byte := (List.range n).flatMap (fun i => leBytes w (xs.getD i 0))

/-- The sample block (R68) of a run. -/
def Samples.sampleBlock (s : Samples) (r : Run) : List Byte :=
  leBytes 8 s.tC ++ leInt 2 s.iU ++ leInt 2 s.iV ++ leInt 2 s.iW ++ leBytes 2 s.iStat ++ leBytes 2 s.vBr ++ leBytes 2 s.vU ++
    leBytes 2 s.vV ++ leBytes 2 s.vW ++ leBytes 4 s.pos ++ leBytes 2 s.posQual ++ leBytes 2 s.spdQual ++ leInt 4 s.spd ++
    leBytes 4 r.idx ++ leBytes 8 r.sp.toNat ++ List.replicate 16 0

/-- The drive block (R145). -/
def Samples.driveBlock (s : Samples) : List Byte :=
  leBytes 2 s.gain ++ leBytes 1 s.mask ++ leBytes 1 s.boost ++ leBytes 2 s.iCap ++ leBytes 2 s.boostLeft ++
    leBytes 2 s.drvStat ++ List.replicate 6 0

/-- The measurement block (R159). -/
def Samples.measBlock (s : Samples) : List Byte :=
  leInt 4 s.brs0 ++ leInt 4 s.brs1 ++ leList 2 4 s.aux ++ leInt 2 s.tCmp ++ leBytes 2 s.measStat ++ leList 4 4 s.sent ++
    leList 3 4 s.esm

/-- The position block (R193). -/
def Samples.posBlock (s : Samples) : List Byte :=
  let prb := fun i => leBytes 8 (s.prbTime.getD i 0) ++ leBytes 4 (s.prbPos.getD i 0) ++ leBytes 4 (s.prbStat.getD i 0)
  leBytes 4 s.angle ++ leInt 2 s.posDt ++ leBytes 2 s.absAngle ++ leBytes 2 s.absStat ++ leInt 2 s.idxDev ++
    leBytes 4 s.spdWin ++ prb 0 ++ prb 1 ++ List.replicate 16 0

/-- The safety I/O block (R201). -/
def Samples.sioBlock (s : Samples) : List Byte :=
  leList 1 3 s.sio ++ [0] ++ leList 1 2 (s.sio.drop 3) ++ leList 2 2 s.sbcStat ++ [0, 0] ++ leBytes 4 s.sioTime

/-- The blocks at 0x00 to 0xCF of an INPUT partition. -/
def Samples.blocks (s : Samples) (r : Run) : List Byte :=
  s.sampleBlock r ++ s.driveBlock ++ s.measBlock ++ s.posBlock ++ s.sioBlock

/-- The lane port stores the blocks of one waiting run, with the command block, and the recorder copies them (R68, R154,
R320, R406). -/
def Dev.storeBlocks (m : Mems) (d : Dev) (l : LaneId) (smp : Samples) (r : Run) : Mems × Dev :=
  let x := d.lane l
  if (x.partsOf r.task 5).isEmpty then (m, d)
  else
    let w := Dev.dma m d l 6 (x.baseOf r.task 5) (smp.blocks r)
    let md := Dev.storeCommand w.1 w.2 l r
    (md.1, md.2.bbxCopy md.1 l r)

/-- The waiting runs of the tasks of a bridge have their samples. -/
def Half.arrive (h : Half) (mine : Nat → Bool) : Half :=
  { h with ready := h.ready.map (fun r => if mine r.task then { r with waits := false } else r) }

/-- SAMPLE_BLOCK_STORED (R23, R68): the blocks of an activation are in the INPUT partitions of the tasks of a PWM unit, which
may then run. -/
def execSampleBlockStored (tm : Nat) (c : CompId) (b : Bool) (s : State) : Host.Outcome State Fault Refusal :=
  s.actM tm (fun _ m d =>
    match d.driver c with
    | some l =>
      let mine := fun n => (d.lane l).rd (Reg.CHE_TASK_CFG.SRC n) == bit b
      let e := (d.lane l).eng
      let rs := (e.h0.ready ++ e.h1.ready).filter (fun r => r.waits && mine r.task)
      let md := rs.foldl (fun (md : Mems × Dev) r => Dev.storeBlocks md.1 md.2 l ((d.comp c).bridge b).samples r) (m, d)
      (md.1, md.2.modLane l (fun x => ((x.modHalf false (·.arrive mine)).modHalf true (·.arrive mine)).dispatch))
    | none => (m, d))

/-! ### Handover (R13 to R16, R149, R150, R206, R248) -/

/-- HOLD_EXPIRY (R15): a switch still OPEN two periods of bridge B1 after it opened. -/
def execHoldExpiry (tm : Nat) (c : CompId) (s : State) : Host.Outcome State Fault Refusal :=
  s.act tm (fun t d =>
    let x := d.comp c
    if x.powered && x.sw == .opened && x.hoRun && !x.holdExp && decide (x.openAt + 2 * x.period false ≤ t) then
      (d.modComp c (fun x => { x with holdExp := true })).settle
    else d)

/-- A requested step that breaks the witness's rules: it writes REFUSED instead of performing it (R286). -/
def Dev.refuseStep (d : Dev) (step target : Nat) : Dev :=
  (d.jwrite none 2 step target 0).1.raiseW 138 sevFault (step + 256 * (match d.master with
    | some l => laneIdx l
    | none => 0))

/-- SWITCH_OPEN (R149): at the first B1 centre not earlier than 300 ns after t_X; journalled as step 8. Before XFER_DONE it
is refused (R286). -/
def execSwitchOpen (tm : Nat) (c : CompId) (s : State) : Host.Outcome State Fault Refusal :=
  s.act tm (fun t d =>
    match d.wit.bring with
    | some r =>
      match r.tX with
      | some tX =>
        let x := d.comp c
        if d.wit.powered && x.powered && r.target == some c && !r.opened && x.sw == .primary &&
            decide (tX + 30 ≤ x.clkOf t x.b0.lastC) then
          d.jstep none 8 (compIdx c) 0 (fun d =>
            let d := d.modWit (fun w => { w with bring := some { r with opened := true } })
            let d := d.modComp c (fun x => { x with
              hoRun := true, holdExp := false, openAt := t
              b0 := { x.b0.dropOutputs with actDone := true }, b1 := { x.b1.dropOutputs with actDone := true } })
            (d.setSw c .opened).sendMasks)
        else d
      | none => if d.wit.powered && r.target == some c then d.refuseStep 8 (compIdx c) else d
    | none => d)

/-- A bridge of a companion joins under lane D (R149). The t_C0 of bridge B2 (`later`) is its first centre from now on, and
lane D's samples come one period after it. -/
def Bridge.join (y : Bridge) (later : Bool) : Bridge :=
  { y with joining := true, joinRel := none, released := true, actDone := true, skipC := later }

/-- The upper fabric layer of a lane that adopts a running companion: INTEG, its timebase kept (R248), or OFF without a
link (R238). -/
def Lane.integrate (l : Lane) (cycle adopted : Nat) (link : Bool) : Lane :=
  { l with fab := { cycle := cycle, adopted := adopted, obsFrom := cycle + 1 } }.wr Reg.JLF_START_STAT.PHASE (if link then 4 else 0)

/-- The schedule table that a lane's image holds for a companion. -/
def Lane.tableOf (l : Lane) (c : CompId) (keep : Sp Nat) : Sp Nat :=
  match l.start.img with
  | some img => let tab := img.tables.getD (compIdx c) []
    (tab.zip (List.range tab.length)).foldl (fun (m : Sp Nat) (e : Nat × Nat) => Sparse.put m e.2 e.1) []
  | none => keep

/-- SWITCH_SPARE (R149): lane D adopts the companion and loads its schedule table (R219, R438); journalled as step 9. Before
XFER_DONE it is refused (R286). -/
def execSwitchSpare (tm : Nat) (c : CompId) (s : State) : Host.Outcome State Fault Refusal :=
  s.act tm (fun _ d =>
    match d.wit.bring with
    | some r =>
      let x := d.comp c
      if d.wit.powered && r.target == some c && r.tX.isNone then d.refuseStep 9 (compIdx c)
      else if d.wit.powered && x.powered && r.target == some c && r.opened && x.sw == .opened && x.hoRun then
        let cyc := (d.lane (homeLane c)).fab.cycle
        let d := d.jstep none 9 (compIdx c) 0 (fun d =>
          let d := d.modComp c (fun x => { x with
            hoRun := false, holdExp := false, lower := { x.lower with table := d.lD.tableOf c x.lower.table, keys := d.lD.mram.keys }
            b0 := if x.flag (Reg.PWM_CFG.EN 0) then x.b0.join false else x.b0
            b1 := if x.flag (Reg.PWM_CFG.EN 1) then x.b1.join true else x.b1 }.holdForD)
          let d := d.setSw c .spare
          let d := d.modComp c (fun x => (x.wr (missFld false) 0).wr (missFld true) 0)
          let d := d.modLane .D (fun y => { y with lastT := x.tcorr }.wr Reg.JSY_RATE.RATE (enc 32 x.lower.rate))
          let d := if x.flag (Reg.PWM_CFG.EN 0) || x.flag (Reg.PWM_CFG.EN 1) then d
            else d.modWit (fun w => { w with bring := none })
          let d := d.raise .D 89 sevFault (commonPart c false)
          ((d.deliverHeld c).padView .D).fqFlushAll c)
        let d := (d.setSt .D .active).decideState .D 5
        let d := d.modLane .D (fun y => ({ y with start := { y.start with cleanAt := some d.clk } }.integrate cyc 0 x.phyUp).wr
          Reg.RDN_XFER.PHASE 5)
        let d := ((d.padRelease .D 3).padRelease .D 1).padRelease .D 2
        (((d.appoint.jstep none 13 3 0 Dev.reLevel).sendMasks).devRdy).settle
      else d
    | none => d)

/-- The first centre of a bridge after T_corr `t`. -/
def Comp.nextCentre (x : Comp) (b : Bool) (t : Nat) : Nat :=
  match x.centreAt b t with
  | some p => p + x.period b
  | none => x.phase b

/-- JOIN_END (R149): the release reached the witness not later than 300 ns before the next centre, or else at the centre
after; journalled as step 10, and the bring-in ends with it. It needs the witness: with the witness lost nothing ends joining
and the winding stays out of the masks (DESIGN CHOICE, log 122). -/
def execJoinEnd (tm : Nat) (c : CompId) (b : Bool) (s : State) : Host.Outcome State Fault Refusal :=
  s.act tm (fun _ d =>
    let x := d.comp c
    let y := x.bridge b
    match y.joinRel with
    | some t =>
      let first := x.nextCentre b t
      if x.powered && d.wit.powered && y.joining && x.period b != 0 && (decide (t + 30 ≤ first) || decide (first ≤ x.tcorr)) then
        d.jstep none 10 (compIdx c) (bit b) (fun d =>
          let d := d.modComp c (fun x => x.modBridge b (fun y => { y with joining := false, joinRel := none }))
          let done := !(d.comp c).b0.joining && !(d.comp c).b1.joining
          let d := if done then d.modWit (fun w => { w with bring := none }) else d
          d.sendMasks.settle)
      else d
    | none => d)

end Sys2Proof.Machine
end

