-- ==== Sys2Proof/Machine/Fabric.lean ====
section
/-!
DEFINITION. The Jaloft fabric in its cycle (R211 to R237, R249 to R256): phases, reception and acceptance, delivery,
transmission, the cycle start, the clock correction and the ET segment.
-/
namespace Sys2Proof.Machine

/-! ### Phases (R238) -/

/-- Phases of R238 and synchronisation states of JSY_STAT. -/
def phOff : Nat := 0
def phListen : Nat := 1
def phCsSend : Nat := 2
def phBackoff : Nat := 3
def phInteg : Nat := 4
def phActive : Nat := 5
def syUnsync : Nat := 0
def sySync : Nat := 1
def syLost : Nat := 2

/-- The phase of a lane's upper layer. -/
def Lane.fphase (l : Lane) : Nat := l.rd Reg.JLF_START_STAT.PHASE

/-- A lane with its fabric state changed. -/
def Lane.modFab (l : Lane) (f : Fab → Fab) : Lane := { l with fab := f l.fab }

/-- JLF_CLAIM_STAT of claim `k` (R255). -/
def Lane.claimStat (l : Lane) (k : Nat) : Lane :=
  let c := Sparse.get ({} : Claim) l.fab.claims k
  (((l.wr (Reg.JLF_CLAIM_STAT.STATE k) c.st).wr (Reg.JLF_CLAIM_STAT.CLEAN k) c.clean).wr (Reg.JLF_CLAIM_STAT.ATTEMPT k)
    c.attempt).wr (Reg.JLF_CLAIM_STAT.SLOT k) c.slot

/-- Every claim of the node ends (R255). -/
def Lane.endClaims (l : Lane) : Lane :=
  (List.range 4).foldl (fun l k => l.claimStat k) (l.modFab (fun f => { f with claims := [] }))

/-- The upper layer of a node enters a phase, showing a synchronisation state (R229, R238, R243, R251, R255). -/
def Dev.setPhase (d : Dev) (c : CompId) (l : LaneId) (phase sync : Nat) : Dev :=
  let old := (d.lane l).fphase
  let wasLost := (d.lane l).fab.lost
  let ticks := (d.comp c).ticks
  let d := d.modLane l (fun x =>
    let x := (x.phase5 phase sync).modFab (fun f => { f with
      lost := sync == syLost || (f.lost && phase != phCsSend && phase != phActive) })
    let x := if old = phActive ∧ phase ≠ phActive then x.endClaims else x
    if phase = phListen then x.modFab (fun f => { f with listenAt := ticks, holdAt := ticks })
    else if phase = phActive then (x.modFab (fun f => { f with missed := 0 })).wr Reg.JLF_MEMB.MISS_RUN 0
    else x)
  let d := d.guard c 0 (sync != sySync)
  let d := if phase = phActive ∧ old = phInteg then d.guard c 3 false else d
  let d := if sync = syLost && !wasLost then d.raiseC c false 65 sevFault ((d.lane l).rd Reg.JSY_STAT.CORR) else d
  (d.devRdy).serving

/-- The synchronisation state shown while time is not trusted: LOST after a loss (R238). -/
def Lane.untrusted (l : Lane) : Nat := if l.fab.lost then syLost else syUnsync

/-- A lane has adopted the companion at its start, or the companion comes up under it (R244): LISTEN, or OFF without a
link. -/
def Dev.nodeStart (d : Dev) (c : CompId) : Dev :=
  match d.nodeLane c with
  | some l => (d.modLane l (·.modFab (fun f => { f with lost := false }))).setPhase c l
      (if (d.comp c).phyUp then phListen else phOff) syUnsync
  | none => d

/-- The node ID of a companion position (R18). -/
def Lane.nodeOf (l : Lane) (c : CompId) : Nat :=
  match l.start.img with
  | some img => img.nodes.getD (compIdx c) 0
  | none => 0

/-- An attempt of coldstart ends in BACKOFF (R243); the eighth holds further attempts off. -/
def Dev.backoff (d : Dev) (c : CompId) (l : LaneId) : Dev :=
  let d := d.setPhase c l phBackoff syUnsync
  let d := d.modLane l (·.modFab (fun f => { f with backAt := (d.comp c).ticks, csFrom := none }))
  if 8 ≤ (d.lane l).rd Reg.JLF_START_STAT.ATTEMPT then
    (d.wrL l Reg.JLF_START_STAT.CS_FAIL 1).raiseC c false 70 sevFault 0
  else d

/-- A corrupted reception on a network at a T_corr in tick/32 (R243, R255): the listen timer restarts, an attempt ends in
BACKOFF, and the cycle is not clean for a claim in whose window it falls. -/
def Dev.corrupted (d : Dev) (c : CompId) (netY : Bool) (at32 : Nat) : Dev :=
  match d.nodeLane c with
  | some l =>
    let x := d.comp c
    let d := match x.window (d.lane l) netY at32 with
      | some (_, i) => d.modLane l (·.modFab (fun f => { f with spares := Sparse.upd {} f.spares i (fun v => { v with dirty := true }) }))
      | none => d
    if (d.lane l).fphase = phListen then d.modLane l (·.modFab (fun f => { f with listenAt := x.ticks }))
    else if (d.lane l).fphase = phCsSend then d.backoff c l
    else d
  | none => d

/-! ### Reception (R212 to R215, R226 to R228, R258) -/

/-- The header of a frame that the MAC of a companion passes on; what it discards is counted (R212, R213, R215). -/
def Dev.rxHdr (d : Dev) (c : CompId) (f : RxFrame) : Dev × Option Hdr :=
  let x := d.comp c
  let p := bit f.netY
  if !(x.powered && x.flag (Reg.PHY_STAT.LINK p)) then (d, none)
  else
    let own := match d.nodeLane c with
      | some l => nodeAddr (x.rd Reg.JMC_ADDR.CLUSTER) ((d.lane l).nodeOf c)
      | none => []
    match macJudge (x.rd Reg.JMC_CFG.ETYPE) own (groupAddr (x.rd Reg.JMC_ADDR.DA_LOW)) f with
    | .fmt =>
      let d := d.incC c (Reg.JMC_CNT.FMT p)
      (if spoiled f then d.corrupted c f.netY f.sof32 else d, none)
    | .fcs => ((d.incC c (Reg.JMC_CNT.FCSERR p)).corrupted c f.netY f.sof32, none)
    | .corrupt => (d.corrupted c f.netY f.sof32, none)
    | .other => (d, none)
    | .ok h => (d, some h)

/-- JMC_WINVIOL shows the counts of the selected sender (R227). -/
def Comp.winviolShow (x : Comp) : Comp :=
  let n := x.rd Reg.JMC_WV_SEL.NODE
  (x.wr Reg.JMC_WINVIOL.CNT_X (Sparse.get 0 x.lower.winviol (2 * n))).wr Reg.JMC_WINVIOL.CNT_Y
    (Sparse.get 0 x.lower.winviol (2 * n + 1))

/-- A window violation is charged to the node in the header (R227), and spoils an observed cycle where the frame is that of an
RX SYNC entry, by NODE and SLOT (R246). -/
def Dev.winViol (d : Dev) (c : CompId) (l : LaneId) (f : RxFrame) (h : Hdr) : Dev :=
  let k := 2 * h.node + bit f.netY
  let d := d.modComp c (fun x => { x with lower := { x.lower with
    winviol := Sparse.set 0 x.lower.winviol k (min 65535 (Sparse.get 0 x.lower.winviol k + 1)) } }.winviolShow)
  let e := (d.comp c).ent h.slot
  let isSync := decide (h.slot < (d.lane l).nslots) && entIsRx e 3 && entNode e == h.node
  let d := if isSync then d.modLane l (·.modFab (fun g => { g with syncViol := true })) else d
  d.raiseC c f.netY 67 sevDiag h.node

/-- A frame whose tag fails (R258). -/
def Dev.authFail (d : Dev) (c : CompId) (f : RxFrame) (h : Hdr) : Dev :=
  (d.incC c (Reg.JMC_AUTH_CNT.FAIL (bit f.netY))).raiseC c f.netY 77 sevDiag (h.node + 2048 * h.keyId)

/-- A node lies in the permitted set of a SPARE entry (R252). -/
def spareAllows (e node : Nat) : Bool := decide (entNode e ≤ node) && decide (node < entNode e + 2 ^ (e % 32))

/-- The NODE and SLOT of a frame are those of the entry whose window its SOF falls in (R226, R254). -/
def Lane.nodeFits (l : Lane) (e i : Nat) (h : Hdr) : Bool :=
  h.slot == i &&
    (if entDir e = 2 then h.node == entNode e
     else spareAllows e h.node && (match (Sparse.get ({} : SpareView) l.fab.spares i).st with
       | .claimed m => h.node == m
       | _ => true))

/-- What a TT frame that reached its window turned out to be. -/
inductive TtFate where
  | dropped
  | accepted (cycle slot : Nat) (first : Bool)
deriving DecidableEq, Repr

/-- A node enters a list of nodes that holds each once. -/
def insertNew (n : Nat) (l : List Nat) : List Nat := if l.contains n then l else n :: l

/-- An accepted frame in the books of the cycle (R228, R249, R250, R256): membership, networks, siblings, and the first
copy's payload. -/
def Dev.bookTt (d : Dev) (c : CompId) (l : LaneId) (f : RxFrame) (h : Hdr) (i : Nat) : Dev × Bool :=
  let x := d.lane l
  let e := (d.comp c).ent i
  let firstPay := Sparse.look x.fab.payloads i
  let counts := entDir e = 2 || (match (Sparse.get ({} : SpareView) x.fab.spares i).st with
    | .claimed m => h.node == m
    | _ => false)
  let sib := (siblings c).foldl (fun a r => if x.nodeOf r = h.node then putBit a (compIdx r) true else a) x.fab.sibNow
  let d := d.modLane l (·.modFab (fun g => { g with
    accepted := (2 * i + bit f.netY) :: g.accepted
    heard := if counts then insertNew h.node g.heard else g.heard
    cntX := if f.netY then g.cntX else g.cntX + 1
    cntY := if f.netY then g.cntY + 1 else g.cntY
    sibNow := sib
    payloads := if firstPay.isSome then g.payloads else Sparse.put g.payloads i h.payload
    spares := if entDir e = 3 then Sparse.upd {} g.spares i (fun v => { v with got := insertNew h.node v.got }) else g.spares }))
  match firstPay with
  | some p => (if p = h.payload then d else d.raiseC c f.netY 68 sevDiag i, false)
  | none => (d, true)

/-- A TT frame judged against the schedule (R226, R227, R254, R258). -/
def Dev.acceptTt (d : Dev) (c : CompId) (l : LaneId) (f : RxFrame) (h : Hdr) : Dev × TtFate :=
  let x := d.comp c
  match x.window (d.lane l) f.netY f.sof32 with
  | none => (d.winViol c l f h, .dropped)
  | some (n, i) =>
    let e := x.ent i
    let y := d.lane l
    let isDup := y.fab.accepted.contains (2 * i + bit f.netY)
    let fits := y.nodeFits e i h
    let tag := x.tagOk h (entAuth e) n
    let d := if entDir e = 3 then
        d.modLane l (·.modFab (fun g => { g with spares := Sparse.upd {} g.spares i (fun v =>
          { v with dirty := true, senders := if fits && (isDup || tag) then insertNew h.node v.senders else v.senders }) }))
      else d
    if !fits then (d.winViol c l f h, .dropped)
    else if isDup then (d.incC c (Reg.JMC_CNT.DUP (bit f.netY)), .dropped)
    else if !tag then (d.authFail c f h, .dropped)
    else
      let r := d.bookTt c l f h i
      (r.1, .accepted n i r.2)

/-- A frame is decodable (R242): in an RX SYNC entry of its NODE and SLOT, with a tag that verifies under the frame's own
cycle number, and for COLDSTART with the node's own schedule. -/
def Dev.decodable (d : Dev) (c : CompId) (l : LaneId) (h : Hdr) : Bool :=
  let x := d.comp c
  let y := d.lane l
  let e := x.ent h.slot
  let cyc := if h.kind = kColdstart then h.coldCycle else if y.cycleLen = 0 then 0 else h.statusTime / y.cycleLen
  decide (h.slot < y.nslots) && entIsRx e 3 && entNode e == h.node && x.tagOk h (entAuth e) cyc &&
    (h.kind != kColdstart || beNat (slice (h.payload ++ List.replicate 8 0) 6 2) == y.rd Reg.JLF_SCHED.ID)

/-- The node adopts the time of a decodable frame and enters INTEG (R245, R372). -/
def Dev.adopt (d : Dev) (c : CompId) (l : LaneId) (f : RxFrame) (h : Hdr) : Dev :=
  let x := d.comp c
  let y := d.lane l
  let ap := if h.kind = kSync then h.statusTime else h.coldCycle * y.cycleLen + x.action h.slot
  let diff : Int := ((ap + entDelay (x.ent h.slot) f.netY) * 32 : Nat) - (f.sof32 : Int)
  let drives := x.b0.live.enable || x.b1.live.enable
  let d := d.timeStep l c diff
  let d := d.modComp c (fun x =>
    if drives then { x with lower := { x.lower with slew := diff, nextCorr := 0 } }
    else { x with lower := { x.lower with slew := 0, nextCorr := 0 } }.moveTcorr diff)
  let cyc := if y.cycleLen = 0 then 0 else (d.comp c).tcorr / y.cycleLen
  let d := d.modLane l (fun y => (y.modFab (fun g => { g with
      cycle := cyc, slewing := drives, obsFrom := cyc + 1, adopted := h.node, badRun := 0, noSync := 0, corrOk := false
      syncSeen := false, syncViol := false, devX := [], devY := [], csFrom := none })).wr Reg.JLF_START_STAT.SRC h.node)
  d.setPhase c l phInteg (d.lane l).untrusted

/-- The deviation of an accepted sync frame (R225). -/
def Dev.syncValue (d : Dev) (c : CompId) (l : LaneId) (f : RxFrame) (n i : Nat) : Dev :=
  let dev : Int := ((d.comp c).due32 (d.lane l) f.netY n i : Int) - f.sof32
  d.modLane l (·.modFab (fun g => { g with
    syncSeen := true
    devX := if f.netY then g.devX else Sparse.put g.devX i dev
    devY := if f.netY then Sparse.put g.devY i dev else g.devY }))

/-- An ACTIVE node keeps the status record of a sibling node (R216, R238, R273). -/
def Dev.keepStatus (d : Dev) (c : CompId) (l : LaneId) (h : Hdr) : Dev :=
  let x := d.lane l
  if x.fphase = phActive && (siblings c).any (fun r => x.nodeOf r = h.node) then
    let b := h.payload ++ List.replicate 32 0
    let rec_ : StatRec := { cycle := x.fab.cycle, dl := beNat (slice b 0 1), flags := beNat (slice b 1 1),
                            lane := beNat (slice b 3 1) % 4, lstate := beNat (slice b 4 2), time := beNat (slice b 8 8),
                            epoch := beNat (slice b 16 4) }
    d.modLane l (·.modFab (fun g => { g with status := Sparse.put g.status h.node rec_ }))
  else d

/-! ### Delivery (R222, R228, R233, R355) -/

/-- A DATA_ACT payload reaches its task (R222, R485): the payload and LEN in its INPUT partition, and the source event with
index n × m + j. -/
def Dev.dataAct (m : Mems) (d : Dev) (c : CompId) (l : LaneId) (f : RxFrame) (h : Hdr) (n i : Nat) : Mems × Dev :=
  let x := d.lane l
  let task := entRxTask ((d.comp c).ent i)
  let slots := (d.comp c).slotsWhere x (fun e => entIsRx e 1 && entRxTask e == task)
  let e := n * slots.length + slots.findIdx (· == i)
  if x.rd (Reg.CHE_TASK_CFG.SRC task) ≠ 2 then (m, d)
  else
    let base := x.baseOf task 5
    let md := if (x.partsOf task 5).isEmpty then (m, d)
      else
        let w := Dev.dma m d l 4 (base + 0x100) h.payload
        Dev.dma w.1 w.2 l 4 (base + 0x28) (leBytes 8 h.payload.length)
    let m := md.1
    let d := md.2
    let d := d.modLane l (·.modFab (fun g => { g with acts := i :: g.acts }))
    d.sourceEvents m l (· == task) e (f.sof32 / 32) (f.sof32 / 32) false

/-- The first accepted copy of a TT_DATA frame goes where its entry says (R221, R228, R254). -/
def Dev.deliver (m : Mems) (d : Dev) (c : CompId) (l : LaneId) (f : RxFrame) (h : Hdr) (n i : Nat) (ptrBad : Bool) :
    Mems × Dev :=
  let e := (d.comp c).ent i
  if (d.lane l).fphase ≠ phActive then (m, d)
  else if entIsRx e 0 then (m, d.fqPut c (entRxQueue e) h.payload true ptrBad)
  else if entIsRx e 1 then Dev.dataAct m d c l f h n i
  else if entIsRx e 4 then (m, (d.keepStatus c l h).fqPut c (entRxQueue e) h.payload true ptrBad)
  else if entIsSpare e then
    match (Sparse.get ({} : SpareView) (d.lane l).fab.spares i).st with
    | .claimed k => if k = h.node then (m, d.fqPut c ((d.lane l).rd Reg.JLF_CLAIM_CFG.RXQ) h.payload true ptrBad) else (m, d)
    | _ => (m, d)
  else (m, d)

/-- The upper layer judges TT frames against its own time: in INTEG and ACTIVE (R238). -/
def Lane.onTime (l : Lane) : Bool := l.fphase == phInteg || l.fphase == phActive

/-- A frame would land in the setpoint slot's window (R221, R226). -/
def Dev.inSetpoint (d : Dev) (c : CompId) (f : RxFrame) : Bool :=
  match d.nodeLane c with
  | some l => match (d.comp c).window (d.lane l) f.netY f.sof32 with
    | some (_, i) => entIsRx ((d.comp c).ent i) 2
    | none => false
  | none => false

/-- TT_DATA_RECEIVE (R226 to R228, R222): a TT_DATA frame outside the setpoint slot, or a frame that the MAC discards. -/
def execTtDataReceive (tm : Nat) (c : CompId) (f : RxFrame) (ptrBad : Bool) (s : State) : Host.Outcome State Fault Refusal :=
  s.actM tm (fun _ m d =>
    let r := d.rxHdr c f
    match r.2, d.nodeLane c with
    | some h, some l =>
      if (h.kind = kTtData ∨ h.kind = kEcho) && (d.lane l).onTime && !(h.kind = kTtData && d.inSetpoint c f) then
        let a := r.1.acceptTt c l f h
        match a.2 with
        | .accepted n i true => if h.kind = kTtData then Dev.deliver m a.1 c l f h n i ptrBad else (m, a.1)
        | _ => (m, a.1)
      else (m, d)
    | _, _ => (m, r.1))

/-- TT_NULL_RECEIVE (R233): an accepted frame for membership and nothing else. -/
def execTtNullReceive (tm : Nat) (c : CompId) (f : RxFrame) (s : State) : Host.Outcome State Fault Refusal :=
  s.act tm (fun _ d =>
    match (d.rxHdr c f).2, d.nodeLane c with
    | some h, some l => if h.kind = kTtNull && (d.lane l).onTime then (d.acceptTt c l f h).1 else d
    | _, _ => (d.rxHdr c f).1)

/-- A decodable SYNC inside its window in CS_SEND (R243): the sync value of its slot and network where there is none yet and the
tag verifies under the node's own time (R258), and no other effect. -/
def Dev.csValue (d : Dev) (c : CompId) (l : LaneId) (f : RxFrame) (h : Hdr) (n i : Nat) : Dev :=
  let g := (d.lane l).fab
  if (Sparse.look (if f.netY then g.devY else g.devX) i).isNone && (d.comp c).tagOk h (entAuth ((d.comp c).ent i)) n then
    d.syncValue c l f n i
  else d

/-- SYNC_RECEIVE (R225, R242, R243): adopted in LISTEN and BACKOFF, and in CS_SEND outside its window; a sync value in its
window. -/
def execSyncReceive (tm : Nat) (c : CompId) (f : RxFrame) (s : State) : Host.Outcome State Fault Refusal :=
  s.act tm (fun _ d =>
    match (d.rxHdr c f).2, d.nodeLane c with
    | some h, some l =>
      let ph := (d.lane l).fphase
      if h.kind ≠ kSync then d
      else if ph = phListen ∨ ph = phBackoff then (if d.decodable c l h then d.adopt c l f h else d)
      else if ph = phCsSend then
        if !d.decodable c l h then d
        else
          match (d.comp c).window (d.lane l) f.netY f.sof32 with
          | some (n, i) => if i = h.slot then d.csValue c l f h n i else d.adopt c l f h
          | none => d.adopt c l f h
      else if (d.lane l).onTime then
        let a := d.acceptTt c l f h
        match a.2 with
        | .accepted n i _ => if entIsRx ((d.comp c).ent i) 3 then (a.1.syncValue c l f n i).keepStatus c l h else a.1
        | .dropped => a.1
      else d
    | _, _ => (d.rxHdr c f).1)

/-- COLDSTART_RECEIVE (R243, R246, R247): adopted in LISTEN and BACKOFF, and from a lower NODE in CS_SEND and INTEG; in its
window a sync value in INTEG. -/
def execColdstartReceive (tm : Nat) (c : CompId) (f : RxFrame) (s : State) : Host.Outcome State Fault Refusal :=
  s.act tm (fun _ d =>
    match (d.rxHdr c f).2, d.nodeLane c with
    | some h, some l =>
      let y := d.lane l
      let ph := y.fphase
      if h.kind ≠ kColdstart then d
      else if ph = phListen ∨ ph = phBackoff then (if d.decodable c l h then d.adopt c l f h else d)
      else if ph = phCsSend then (if d.decodable c l h && decide (h.node < y.nodeOf c) then d.adopt c l f h else d)
      else if ph = phInteg && d.decodable c l h && decide (h.node < y.fab.adopted) then d.adopt c l f h
      else if y.onTime then
        let a := d.acceptTt c l f h
        match a.2 with
        | .accepted n i _ =>
          if ph = phInteg && entIsRx ((d.comp c).ent i) 3 then a.1.syncValue c l f n i else a.1
        | .dropped => a.1
      else d
    | _, _ => (d.rxHdr c f).1)

/-- CLAIM_RECEIVE (R254): an accepted CLAIM of a spare slot, judged with its cycle. -/
def execClaimReceive (tm : Nat) (c : CompId) (f : RxFrame) (s : State) : Host.Outcome State Fault Refusal :=
  s.act tm (fun _ d =>
    match (d.rxHdr c f).2, d.nodeLane c with
    | some h, some l =>
      if h.kind = kClaim && (d.lane l).onTime then
        let a := d.acceptTt c l f h
        match a.2 with
        | .accepted _ i _ =>
          if entIsSpare ((d.comp c).ent i) then
            a.1.modLane l (·.modFab (fun g => { g with spares := Sparse.upd {} g.spares i (fun v =>
              { v with claims := insertNew h.node v.claims }) }))
          else a.1
        | .dropped => a.1
      else d
    | _, _ => (d.rxHdr c f).1)

/-- CORRUPTED_RECEPTION (R242, R243): a frame with a wrong FCS, or a PHY receive error. -/
def execCorruptedReception (tm : Nat) (c : CompId) (netY fcsErr : Bool) (s : State) : Host.Outcome State Fault Refusal :=
  s.act tm (fun _ d =>
    let x := d.comp c
    if x.powered && x.flag (Reg.PHY_STAT.LINK (bit netY)) then
      (if fcsErr then d.incC c (Reg.JMC_CNT.FCSERR (bit netY)) else d).corrupted c netY x.tcorr32
    else d)

/-! ### Setpoints and the echo (R99 to R104, R231, R234 to R236) -/

/-- The instant of the model's clock, in tenths of a tick, from which a port may start a frame (R212). -/
def Lower.free (w : Lower) (y : Bool) : Nat := if y then w.freeY else w.freeX

/-- The enabled ports of a companion, and the instant from which all of them may start a frame. -/
def Comp.ports (x : Comp) : List Bool := [false, true].filter (fun y => x.flag (Reg.PHY_CFG.EN (bit y)))
def Comp.portsFree (x : Comp) : Nat := x.ports.foldl (fun a y => max a (x.lower.free y)) 0

/-- A frame starts on one port at an instant, or where the port is not free then, as soon as it is: 12 byte times after the
end of its latest frame (R212). -/
def Comp.sendOn (x : Comp) (at10 : Nat) (da : List Byte) (kind node slot cycle : Nat) (auth : Bool) (payload : List Byte)
    (y : Bool) : Comp :=
  let start := max at10 (x.lower.free y)
  let f : TxFrame := { kind := kind, slot := slot, cycle := cycle, netY := y, at_ := start / 10
                       bytes := x.frameBytes da kind auth y node slot cycle payload }
  let free := start + (wireBytes payload.length auth + 12) * x.byteTime10 (bit y)
  { x with lower := { x.lower with tx := (f :: x.lower.tx).take 64, freeX := if y then x.lower.freeX else free
                                   freeY := if y then free else x.lower.freeY } }

/-- A frame starts on both ports that are enabled, at an instant in tenths of a tick (R22, R212 to R214). -/
def Dev.send (d : Dev) (c : CompId) (at10 : Nat) (da : List Byte) (kind node slot cycle : Nat) (auth : Bool)
    (payload : List Byte) : Dev :=
  d.modComp c (fun x => x.ports.reverse.foldl (fun x y => x.sendOn at10 da kind node slot cycle auth payload y) x)

/-- A pick among the candidate values that a companion holds (R100): the smallest distance, then the lowest index. -/
def pickCand (vals : Sp Dword) (depth snap : Nat) (v : Dword) : Option (Nat × Dword) :=
  let ok := vals.filter (fun (kv : Nat × Dword) => decide (kv.1 < depth) && decide ((matchField v - matchField kv.2).natAbs ≤ snap) &&
    decide (kv.2 >>> 32 = v >>> 32))
  ok.foldl (fun a kv => match a with
    | none => some kv
    | some w => if (matchField v - matchField kv.2).natAbs < (matchField v - matchField w.2).natAbs then some kv else some w) none

/-- CHE_SPEC_CNT and CHE_SPEC_STAT.LAST after an outcome: 0 MATCH, 1 and 2 LATE, 3 REFUSED, 4 MISS. -/
def Lane.specOutcome (l : Lane) (k : Nat) : Lane := (l.inc (Reg.CHE_SPEC_CNT.COUNT k)).wr Reg.CHE_SPEC_STAT.LAST (k + 1)

/-- A legal setpoint enters the history (R90). -/
def Engine.pushSetpoint (e : Engine) (v : Dword) : Engine := { e with s2 := e.s1, s1 := some v }

/-- The squash of a pick (R104): every candidate counts, the picked one keeps its bank until its echo starts or the slot
ends. -/
def Dev.squashPick (d : Dev) (l : LaneId) (k : Nat) : Dev :=
  let live := (d.lane l).eng.live
  let d := d.closeWin l
  let d := d.squash l (live.filter (· != k))
  let d := if live.contains k then d.incL l (Reg.CHE_SPEC_CNT.COUNT 5) else d
  d.modLane l (·.modEng (fun e => { e with picked := some k }))

/-- The picked candidate is gone: its bank and staged result, without another count (R104). -/
def Dev.dropPicked (d : Dev) (l : LaneId) : Dev :=
  match (d.lane l).eng.picked with
  | some k =>
    let d := d.modLane l (fun x => ((x.modEng (fun e => { e with picked := none, banks := Sparse.del e.banks k })).wr
      (Reg.CHE_SPEC_STAT.BUSY k) 0).wr (Reg.CHE_SPEC_STAT.STAGED k) 0)
    match d.adopted l with
    | some c => d.modComp c (fun x => { x with lower := { x.lower with staged := Sparse.del x.lower.staged k } })
    | none => d
  | none => d

/-- The values withdrawn from the companion once a setpoint has been answered. -/
def Dev.dropVals (d : Dev) (c : CompId) : Dev :=
  d.modComp c (fun x => { x with lower := { x.lower with candVal := [], candDepth := 0 } })

/-- An accepted setpoint answered (R99 to R102): the echo's record, and the state after it. -/
def Dev.answer (d : Dev) (c : CompId) (l : LaneId) (h : Hdr) : Dev × List Byte :=
  let b := h.payload ++ List.replicate 12 0
  let cls := beNat (slice b 0 1)
  let seq := slice b 2 2
  let v : Dword := BitVec.ofNat 64 (beNat (slice b 4 8))
  let x := d.comp c
  let y := d.lane l
  if !x.lower.legal.contains cls then
    let force := match y.specTask with
      | some n => y.eng.setpointOf n
      | none => y.eng.spForce
    ((d.squashAll l).modLane l (·.specOutcome 3), echoRecord 3 0 seq force [])
  else
    match pickCand x.lower.candVal x.lower.candDepth (y.rd Reg.CHE_SPEC_SNAP.SNAP) v with
    | some (k, cv) =>
      let staged := Sparse.look x.lower.staged k
      let d := (d.squashPick l k).dropVals c
      let d := d.modLane l (fun y => ((y.modEng (fun e => { (e.pushSetpoint v) with
        spForce := cv, spNext := some v, spSeen := [] })).specOutcome (if staged.isSome then 0 else 2)).wr
        Reg.CHE_SPEC_STAT.LAST_INDEX k)
      (d, echoRecord (if staged.isSome then 1 else 2) (128 + k) seq cv (staged.getD []))
    | none =>
      let d := (d.squashAll l).modLane l (fun y => (y.modEng (fun e => { (e.pushSetpoint v) with
        spForce := v, spNext := none, spSeen := [] })).specOutcome 1)
      (d, echoRecord 2 0 seq v [])

/-- SETPOINT_FRAME (R99 to R102, R231): the first accepted copy in the setpoint slot is answered in the slot; while the
guardian blocks, no echo is sent. -/
def execSetpointFrame (tm : Nat) (c : CompId) (f : RxFrame) (s : State) : Host.Outcome State Fault Refusal :=
  s.act tm (fun _ d =>
    match (d.rxHdr c f).2, d.nodeLane c with
    | some h, some l =>
      if h.kind = kTtData && (d.lane l).onTime && d.inSetpoint c f then
        let a := d.acceptTt c l f h
        match a.2 with
        | .accepted n i true =>
          if (d.lane l).fphase ≠ phActive then a.1
          else
            let d := a.1.modLane l (·.modFab (fun g => { g with spSeen := true }))
            let r := d.answer c l h
            if (r.1.comp c).flag Reg.JMC_GUARD.BLOCKED then r.1
            else
              let d := r.1.dropPicked l
              d.send c (d.clk * 10) (groupAddr ((d.comp c).rd Reg.JMC_ADDR.DA_LOW)) kEcho ((d.lane l).nodeOf c) i n
                (entAuth ((d.comp c).ent i)) r.2
        | _ => a.1
      else d
    | _, _ => (d.rxHdr c f).1)

/-- SETPOINT_MISS (R103, R104): the setpoint slot of the cycle is over; without an accepted setpoint it is missing, and a
picked candidate whose echo was not sent goes. -/
def execSetpointMiss (tm : Nat) (c : CompId) (s : State) : Host.Outcome State Fault Refusal :=
  s.act tm (fun _ d =>
    match d.nodeLane c with
    | some l =>
      let x := d.comp c
      let y := d.lane l
      match x.setpointSlot y with
      | some i =>
        if !y.fab.spOver && decide (y.fab.cycle * y.cycleLen + x.slotStart (i + 1) ≤ x.tcorr) then
          let d := d.modLane l (·.modFab (fun g => { g with spOver := true }))
          if y.fab.spSeen then d.dropPicked l
          else (d.squashAll l).modLane l (·.specOutcome 4)
        else d
      | none => d
    | none => d)

/-! ### The recorder's diagnostic places (R405) -/

/-- Records of one severity that wait for the fabric, oldest first, each after the markers of what was lost before it: the
cause of a marker, or 0 for a record. -/
def Recorder.diagQueue (b : Recorder) (sev : Nat) : List (Nat × Evt) :=
  match b.fab.filter (fun e => e.sev == sev) with
  | [] => []
  | e :: t =>
    let mark := fun (cause n : Nat) => if n = 0 then [] else [(cause, gapEvt e cause n)]
    mark 3 (Sparse.get 0 b.fabRate sev) ++ mark 1 (Sparse.get 0 b.fabFull sev) ++ (0, e) :: t.map (fun r => (0, r))

/-- SH of a severity in BBX_FAB. -/
def Lane.share (l : Lane) (sev : Nat) : Nat :=
  match sev with
  | 0 => l.rd Reg.BBX_FAB.SH_S | 1 => l.rd Reg.BBX_FAB.SH_F | 2 => l.rd Reg.BBX_FAB.SH_D | _ => l.rd Reg.BBX_FAB.SH_T

/-- The records that the places of one cycle take, in their two passes (R405). -/
def Lane.diagAlloc (l : Lane) (p : Nat) : List (Nat × Evt) :=
  let q := fun c => l.bbx.diagQueue c
  let n := fun c => p * l.share c / 16
  let one := (List.range 4).flatMap (fun c => (q c).take (n c))
  (one ++ (List.range 4).flatMap (fun c => (q c).drop (n c))).take p

/-- A record or marker leaves the pending list. -/
def Recorder.sendDiag (b : Recorder) (r : Nat × Evt) : Recorder :=
  if r.1 = 3 then { b with fabRate := Sparse.set 0 b.fabRate r.2.sev 0 }
  else if r.1 = 1 then { b with fabFull := Sparse.set 0 b.fabFull r.2.sev 0 }
  else { b with fab := b.fab.erase r.2 }

/-- The places of the running cycle are allocated at the first diagnostic slot of it (R405). -/
def Lane.diagFill (l : Lane) (x : Comp) : Lane :=
  if l.bbx.fabAt = l.fab.cycle + 1 then l
  else
    let mine := (x.slotsWhere l entTxData).filter (fun i => entTxQueue (x.ent i) == l.rd Reg.BBX_FAB.QUEUE)
    let p := mine.foldl (fun a i => a + (entPay (x.ent i) - 48) / 16) 0
    let rs := l.diagAlloc p
    { l with bbx := { rs.foldl Recorder.sendDiag l.bbx with fabAt := l.fab.cycle + 1, fabSent := rs.map Prod.snd } }.fabStat

/-! ### TX slots (R216, R221, R229 to R232, R241, R243, R253) -/

/-- The status record (R216) of a lane at an action point. -/
def Lane.statusRecord (l : Lane) (who : LaneId) (time : Nat) : List Byte :=
  let dl := l.rd Reg.RDN_STAT.DL
  let flags := bitsOf 6 (fun i => match i with
    | 0 => l.flag Reg.RDN_STAT.SERVICE
    | 1 => l.isSplit
    | 2 => l.st == .minimal
    | 3 => l.flag Reg.LCTL_STATUS.DEVRDY
    | 4 => l.flag Reg.RDN_STAT.WITNESSLESS
    | _ => decide (2 ≤ dl))
  leBytes 1 dl ++ leBytes 1 flags ++ leBytes 1 (bitsOf 4 (fun i => l.flag (Reg.LCTL_STATUS.READY i))) ++
    leBytes 1 (laneIdx who) ++ beBytes 2 l.lstate ++ leBytes 1 (l.rd Reg.LCTL_STATUS.ROLE) ++ [0] ++ beBytes 8 time ++
    beBytes 4 l.epoch ++ List.replicate 12 0

/-- An item of TX packing queue `q`, for a slot that holds at most `room` bytes of it (R356): gap markers in front are
passed over, and a longer item is discarded under cause SIZE. -/
def Dev.takeTx (d : Dev) (c : CompId) (q room : Nat) : Dev × List Byte :=
  let f := (d.comp c).fq q
  let f := { f with words := f.words.dropWhile FqWord.gap }
  match f.takeItem with
  | some (ws, g) =>
    let bs := itemBytes ws
    if room < bs.length then (d.setFq c q gapSize (g.lose gapSize 1, 1), []) else (d.setFq c q gapFull (g, 0), bs)
  | none => (d.setFq c q gapFull (f, 0), [])

/-- What FAB_TX has brought to a TX queue since the entry's previous slot (R349, R354, R356). -/
def Dev.fillTx (d : Dev) (c : CompId) (q : Nat) (items : List TxItem) : Dev :=
  d.each items (fun d it =>
    let d := d.fqPut c q it.bytes (it.ended && !it.busErr) it.ptrBad
    if it.busErr && (d.comp c).fqOn q then d.setFq c q gapErr (((d.comp c).fq q).dropItem gapErr, 1) else d)

/-- The payload of a TX DATA slot (R221, R405): FABRIC_OUT, then an item of the queue, then 0. -/
def Dev.txPayload (d : Dev) (c : CompId) (l : LaneId) (task queue pay : Nat) : Dev × List Byte :=
  let out := (Sparse.get [] (d.lane l).fab.fabOut task).take 48
  let out := out ++ List.replicate (48 - out.length) 0
  if pay ≤ 48 then (d, out.take pay)
  else
    let q := 8 + queue
    let diag := (d.lane l).flag Reg.BBX_FAB.EN && (d.lane l).rd Reg.BBX_FAB.QUEUE == queue
    let n := (pay - 48) / 16
    let d := if diag then d.modLane l (·.diagFill (d.comp c)) else d
    let rs := (d.lane l).bbx.fabSent.take n
    let d := if diag && !rs.isEmpty then
        (d.modLane l (fun y => { y with bbx := { y.bbx with fabSent := y.bbx.fabSent.drop n } })).fqPut c q
          (rs.flatMap Evt.wire) true false
      else d
    let r := if (d.comp c).fqOn q then d.takeTx c q (pay - 48) else (d, [])
    (r.1, out ++ r.2 ++ List.replicate (pay - 48 - r.2.length) 0)

/-- The claim of a node on spare slot `i` (R255). -/
def Lane.claimOn (l : Lane) (i : Nat) : Option (Nat × Claim) :=
  l.fab.claims.find? (fun kc => kc.2.slot == i && !kc.2.waitFree && (kc.2.st == 1 || kc.2.st == 2))

/-- FABRIC_OUT of a task counts as released since the entry's previous slot (R232): the lane ACTIVE, and at DL3 only from
a safe-stop task. -/
def Lane.fresh? (l : Lane) (slot task : Nat) : Bool :=
  Sparse.get 0 l.fab.relCnt task != Sparse.get 0 l.fab.usedCnt slot && l.st == .active &&
    (l.rd Reg.RDN_STAT.DL != 3 || l.flag (Reg.CHE_TASK_CFG.SAFESTOP task))

/-- The frame of a slot: its kind and payload (R221, R232, R243, R255); none where nothing is due. -/
def Dev.slotFrame (d : Dev) (c : CompId) (l : LaneId) (slot : Nat) : Dev × Option (Nat × List Byte) :=
  let y := d.lane l
  let e := (d.comp c).ent slot
  let ap := y.fab.cycle * y.cycleLen + (d.comp c).action slot
  let data := fun (task queue : Nat) =>
    let isNew := y.fresh? slot task
    let d := d.modLane l (·.modFab (fun g => { g with usedCnt := Sparse.set 0 g.usedCnt slot (Sparse.get 0 g.relCnt task) }))
    if isNew then
      let r := d.txPayload c l task queue (entPay e)
      (r.1, some (kTtData, r.2))
    else (d, some (kTtNull, []))
  if y.fphase = phCsSend then
    match y.fab.csFrom with
    | some a0 =>
      if !entTxSync e then (d, none)
      else if y.fab.cycle ≤ a0 + 3 then
        let d := if y.fab.cycle = a0 && !y.fab.sentSync then d.wrL l Reg.JLF_START_STAT.ATTEMPT
            (min 8 (y.rd Reg.JLF_START_STAT.ATTEMPT + 1)) else d
        (d, some (kColdstart, coldstartRecord y.fab.cycle (y.rd Reg.JLF_START.RANK)
          ((d.lane l).rd Reg.JLF_START_STAT.ATTEMPT) (y.rd Reg.JLF_SCHED.ID)))
      else (d, some (kSync, y.statusRecord l ap))
    | none => (d, none)
  else if y.fphase ≠ phActive then (d, none)
  else if entTxSync e then (d, some (kSync, y.statusRecord l ap))
  else if entTxStatus e then (d, some (kTtData, y.statusRecord l ap))
  else if entTxData e then data (entTask e) (entTxQueue e)
  else match y.claimOn slot with
    | some (k, cl) =>
      if cl.st = 1 then
        let d := d.modLane l (·.modFab (fun g => { g with claims := Sparse.put g.claims k { cl with sent := true } }))
        (d, some (kClaim, claimRecord cl.clean (cl.attempt + 1) (y.rd Reg.JLF_SCHED.ID)))
      else data (y.rd Reg.JLF_CLAIM_CFG.TASK) (y.rd Reg.JLF_CLAIM_CFG.QUEUE)
    | none => (d, none)

/-- How long after the action point of a slot, `ap32` in tick/32 of T_corr, a frame commanded now would start, in tick/320: the
lateness of the command itself, and the wait until every enabled port is free (R212, R230). -/
def Dev.lateness (d : Dev) (c : CompId) (ap32 : Nat) : Nat :=
  let x := d.comp c
  (x.tcorr32 * 10 + (x.portsFree - d.clk * 10) * 32) - ap32 * 10

/-- A frame of `len` payload bytes that starts `late` tick/320 after the action point ends within its slot (R230). -/
def Comp.fitsSlot (x : Comp) (slot late len : Nat) : Bool :=
  let e := x.ent slot
  decide (x.rd Reg.JMC_CFG.ACTION_OFS * 320 + late + wireBytes len (entAuth e) * x.slowByte10 * 32 +
    x.rd Reg.JMC_CFG.PI * 320 ≤ entLen e * 320)

/-- The task whose FABRIC_OUT a slot sends: of a TX DATA entry, or of a spare slot that is the node's (R232, R255). -/
def Lane.slotTask (l : Lane) (e slot : Nat) : Option Nat :=
  if entTxData e then some (entTask e)
  else if !entIsTx e && (l.claimOn slot).any (fun kc => kc.2.st == 2) then some (l.rd Reg.JLF_CLAIM_CFG.TASK)
  else none

/-- A slot whose frame is not sent: the previous slot of the entry has passed all the same (R232). -/
def Dev.passSlot (d : Dev) (c : CompId) (l : LaneId) (slot : Nat) : Dev :=
  match (d.lane l).slotTask ((d.comp c).ent slot) slot with
  | some n => d.modLane l (·.modFab (fun g => { g with usedCnt := Sparse.set 0 g.usedCnt slot (Sparse.get 0 g.relCnt n) }))
  | none => d

/-- TX_SLOT (R229, R230, R232, R243, R255): at the action point of a TX entry, or of a spare slot the node claims, the
guardian starts its frame; not while it blocks, not more than one tick late, and not past the slot's end. In CS_SEND the TX
SYNC slots alone send (DEDUCED, log 131). -/
def execTxSlot (tm : Nat) (c : CompId) (slot : Nat) (items : List TxItem) (s : State) : Host.Outcome State Fault Refusal :=
  s.act tm (fun _ d =>
    match d.nodeLane c with
    | some l =>
      let x := d.comp c
      let y := d.lane l
      let e := x.ent slot
      let ap32 := (y.fab.cycle * y.cycleLen + x.action slot) * 32
      if decide (slot < y.nslots) && !y.fab.txDone.contains slot && (entIsTx e || (y.claimOn slot).isSome) &&
          decide (ap32 ≤ x.tcorr32 + 32) then
        let d := d.modLane l (·.modFab (fun g => { g with txDone := slot :: g.txDone }))
        let d := d.fillTx c (8 + (if entIsTx e then entTxQueue e else y.rd Reg.JLF_CLAIM_CFG.QUEUE)) items
        if x.flag Reg.JMC_GUARD.BLOCKED then d.passSlot c l slot
        else if 320 < d.lateness c ap32 then (d.passSlot c l slot).incC c Reg.JMC_GUARD.LATE_CNT
        else
          let r := d.slotFrame c l slot
          match r.2 with
          | none => d.passSlot c l slot
          | some (kind, pay) =>
            if x.fitsSlot slot (d.lateness c ap32) pay.length then
              let d := r.1.modLane l (·.modFab (fun g => { g with sentTT := true,
                                                                   sentSync := g.sentSync || (entTxSync e && (kind == kSync || kind == kColdstart)) }))
              d.send c (max (d.clk * 10) x.portsFree) (groupAddr (x.rd Reg.JMC_ADDR.DA_LOW)) kind (y.nodeOf c) slot y.fab.cycle
                (entAuth e) pay
            else d.passSlot c l slot
      else d
    | none => d)

/-! ### The end of a cycle and the start of the next (R218, R247, R249, R254 to R256) -/

/-- Network `y` of a node fails (R256, R33). -/
def Dev.netFail (d : Dev) (c : CompId) (l : LaneId) (y : Bool) : Dev :=
  if (d.lane l).flag (if y then Reg.JLF_NET.FAIL_Y else Reg.JLF_NET.FAIL_X) then d
  else
    let d := d.modLane l (fun x => (x.wr (if y then Reg.JLF_NET.FAIL_Y else Reg.JLF_NET.FAIL_X) 1).inc
      (if y then Reg.JLF_NET.CNT_Y else Reg.JLF_NET.CNT_X))
    let d := d.modLane l (·.modFab (fun g => if y then { g with goodY := 0, quietY := 0 } else { g with goodX := 0, quietX := 0 }))
    (d.raiseC c y 75 sevFault 0).serviceFlag l

/-- One network judged at the end of a cycle (R256). -/
def Dev.judgeNet (d : Dev) (c : CompId) (l : LaneId) (y : Bool) : Dev :=
  let x := d.lane l
  let got := decide (0 < (if y then x.fab.cntY else x.fab.cntX))
  let other := decide (0 < (if y then x.fab.cntX else x.fab.cntY))
  let link := (d.comp c).flag (Reg.PHY_STAT.LINK (bit y))
  let failed := x.flag (if y then Reg.JLF_NET.FAIL_Y else Reg.JLF_NET.FAIL_X)
  let quiet := if x.fphase = phActive && !got && other then (if y then x.fab.quietY else x.fab.quietX) + 1 else 0
  let good := if link && got then (if y then x.fab.goodY else x.fab.goodX) + 1 else 0
  let d := d.modLane l (·.modFab (fun g => if y then { g with quietY := min 8 quiet, goodY := min 64 good }
    else { g with quietX := min 8 quiet, goodX := min 64 good }))
  if failed then
    if 64 ≤ good then (d.wrL l (if y then Reg.JLF_NET.FAIL_Y else Reg.JLF_NET.FAIL_X) 0).raiseC c y 76 sevDiag 0 else d
  else if !link || decide (8 ≤ quiet) then d.netFail c l y
  else d

/-- The node whose CLAIM was accepted in a spare slot in a cycle in which it was the only sender (R254). -/
def SpareView.claimant (v : SpareView) : Option Nat := v.claims.find? (fun m => v.senders.all (· == m))

/-- The state of a spare slot after a cycle (R254): whether a claimant was the only sender is known at the cycle's end. -/
def SpareView.next (v : SpareView) : SpareSt :=
  match v.st with
  | .free => match v.claimant with
    | some m => .claiming m 1
    | none => .free
  | .claiming m k => if v.claimant = some m then (if k + 1 < 3 then .claiming m (k + 1) else .claimed m) else .free
  | .claimed m => if !v.got.contains m && decide (8 ≤ v.quiet + 1) then .free else .claimed m

/-- The view of a spare slot at the end of a cycle (R254), and for how many cycles it has been seen FREE (R255). -/
def SpareView.endCycle (v : SpareView) : SpareView :=
  { st := v.next
    quiet := match v.st with
      | .claimed m => if v.got.contains m then 0 else v.quiet + 1
      | _ => 0
    freeFor := if v.st = .free ∧ v.next = .free then v.freeFor + 1 else 0 }

/-- Every spare slot of the table at the end of a cycle; a slot that becomes CLAIMED raises JLF_CLAIMED and one that lapses
JLF_CLAIM_LAPSE (R254). -/
def Dev.endSpares (d : Dev) (c : CompId) (l : LaneId) : Dev :=
  d.each ((d.comp c).slotsWhere (d.lane l) entIsSpare) (fun d i =>
    let v := Sparse.get ({} : SpareView) (d.lane l).fab.spares i
    let d := d.modLane l (·.modFab (fun g => { g with spares := Sparse.set {} g.spares i v.endCycle }))
    match v.st, v.next with
    | .claimed m, .free => d.raiseC c false 73 sevDiag (i + 2048 * m)
    | .claiming _ _, .claimed m => d.raiseC c false 72 sevDiag (i + 2048 * m)
    | _, _ => d)

/-- The spare slots that a claim may come to take (R255): the permitted set holds the node, and no claim of the node holds the
slot or, in this claim, gave it up. -/
def Lane.spareSlots (l : Lane) (x : Comp) (c : CompId) (tried : List Nat) : List Nat :=
  (x.slotsWhere l (fun e => entIsSpare e && spareAllows e (l.nodeOf c))).filter (fun i =>
    !tried.contains i && !l.fab.claims.any (fun kc => kc.2.slot == i && (kc.2.st == 1 || kc.2.st == 2)))

/-- The lowest-numbered of them seen FREE for a whole cycle. -/
def Lane.eligible (l : Lane) (x : Comp) (c : CompId) (tried : List Nat) : Option Nat :=
  (l.spareSlots x c tried).find? (fun i => decide (1 ≤ (Sparse.get ({} : SpareView) l.fab.spares i).freeFor))

/-- Cycles of silence after collision `a` of a node (R255). -/
def claimSilence (node a : Nat) : Nat := 1 + 4 * (node / 4 ^ (a % 6) % 4)

/-- Claim `k` takes a value, with its register. -/
def Dev.putClaim (d : Dev) (l : LaneId) (k : Nat) (v : Claim) : Dev :=
  d.modLane l (fun x => (x.modFab (fun g => { g with claims := Sparse.put g.claims k v })).claimStat k)

/-- Claim `k` looks for a slot other than those it has given up (R255): the lowest eligible one; where slots were given up and
no other of the node's spare slots is left, it fails. -/
def Dev.seekSlot (d : Dev) (c : CompId) (l : LaneId) (k : Nat) (tried : List Nat) : Dev :=
  let x := d.lane l
  match x.eligible (d.comp c) c tried with
  | some i => d.putClaim l k { st := 1, slot := i, tried := tried }
  | none =>
    match tried with
    | [] => d
    | last :: _ =>
      let left := (x.spareSlots (d.comp c) c tried).isEmpty
      if left then (d.putClaim l k { st := 3, slot := last, attempt := 16, tried := tried }).raiseC c false 74 sevDiag last
      else d.putClaim l k { tried := tried }

/-- Claim `k` at the end of a cycle (R255), from the view of its slot before that end. -/
def Dev.stepClaim (d : Dev) (c : CompId) (l : LaneId) (views : Sp SpareView) (k : Nat) : Dev :=
  let x := d.lane l
  let cl := Sparse.get ({} : Claim) x.fab.claims k
  if cl.st = 0 then d.seekSlot c l k cl.tried
  else if cl.st = 1 then
    if cl.waitFree then d.putClaim l k { cl with backoff := cl.backoff - 1 }
    else
      let v := Sparse.get ({} : SpareView) views cl.slot
      if cl.sent && !v.dirty && v.senders.isEmpty then
        d.putClaim l k (if 2 ≤ cl.clean then { cl with st := 2, clean := 2, sent := false }
          else { cl with clean := cl.clean + 1, sent := false })
      else if 16 ≤ cl.attempt + 1 then (d.putClaim l k { tried := cl.slot :: cl.tried }).seekSlot c l k (cl.slot :: cl.tried)
      else
        d.putClaim l k { cl with
          clean := 0, sent := false, waitFree := true, backoff := claimSilence (x.nodeOf c) cl.attempt + 1 }
  else d

/-- The claims of an ACTIVE node at a cycle start (R255). -/
def Dev.stepClaims (d : Dev) (c : CompId) (l : LaneId) (views : Sp SpareView) : Dev :=
  if (d.lane l).fphase = phActive && (d.lane l).flag Reg.JLF_CLAIM_CFG.EN then
    d.each (List.range (min 4 ((d.lane l).rd Reg.JLF_CLAIM_CFG.NCLAIM))) (fun d k => d.stepClaim c l views k)
  else d

/-- CLAIM_BACKOFF_END (R255): after the silence and one cycle in which the slot was seen FREE the claim resumes with the next
attempt. -/
def execClaimBackoffEnd (tm : Nat) (c : CompId) (k : Nat) (s : State) : Host.Outcome State Fault Refusal :=
  s.act tm (fun _ d =>
    match d.nodeLane c with
    | some l =>
      let x := d.lane l
      let cl := Sparse.get ({} : Claim) x.fab.claims k
      if k < 4 && x.fphase == phActive && cl.st == 1 && cl.waitFree && cl.backoff == 0 &&
          decide (1 ≤ (Sparse.get ({} : SpareView) x.fab.spares cl.slot).freeFor) then
        d.putClaim l k { cl with attempt := cl.attempt + 1, waitFree := false, clean := 0 }
      else d
    | none => d)

/-- The running cycle ends (R249, R254 to R256). -/
def Dev.endCycle (d : Dev) (c : CompId) (l : LaneId) : Dev :=
  let d := (d.judgeNet c l false).judgeNet c l true
  let views := (d.lane l).fab.spares
  let d := (d.endSpares c l).stepClaims c l views
  d.modLane l (fun x =>
    let x := x.modFab (fun g => { g with vector := g.heard })
    x.wr Reg.JLF_MEMB.PRESENT (bit (x.fab.vector.contains (x.rd Reg.JLF_MEMB_SEL.NODE))))

/-- The correction and the rate computed last come into force (R225): the rest not yet slewed is added, and with no centre to
come at which it would be taken, no PWM unit enabled or none running in DOZE, T_corr moves at once. -/
def Comp.applyCorr (x : Comp) (stopped : Bool) : Comp :=
  let w := x.lower
  let x := { x with lower := { w with slew := w.slew + w.nextCorr, nextCorr := 0, rate := w.nextRate.getD w.rate, nextRate := none } }
  if x.slower.isNone || stopped then { x with lower := { x.lower with slew := 0 } }.moveTcorr x.lower.slew else x

/-- The books of a new cycle. -/
def Fab.newCycle (g : Fab) (n : Nat) : Fab :=
  { g with cycle := n, devX := [], devY := [], sentSync := false, corrDone := false, syncSeen := false, syncViol := false
           corrOk := false, accepted := [], payloads := [], heard := [], sentPrev := g.sentTT, judged := !g.sentTT, sentTT := false
           statusPrev := g.status.filter (fun kv => kv.2.cycle + 1 == n), status := []
           sibPrev := g.sibNow, sibNow := 0, cntX := 0, cntY := 0, acts := [], etSent := 0, spSeen := false, spOver := false
           txDone := [] }

/-- The node of the companion that lane `i` drives or belongs to, by the image of lane `l` (R18, R273). -/
def Dev.peerNode (d : Dev) (l : LaneId) (i : Nat) : Option Nat := (d.position (laneOf i)).map (d.lane l).nodeOf

/-- Lane `l` still accepts status records of lane `i` (R274): its node's record of the running or of the latest complete cycle
names it under LANE. -/
def Dev.recSeen (d : Dev) (l : LaneId) (i : Nat) : Bool :=
  match d.peerNode l i with
  | some n => [(d.lane l).fab.status, (d.lane l).fab.statusPrev].any (fun m => (Sparse.look m n).any (fun r => r.lane == i))
  | none => false

/-- The record of lane `i`'s companion node accepted in the latest complete cycle (R273, R274). -/
def Dev.recOf (d : Dev) (l : LaneId) (i : Nat) : Option StatRec :=
  (d.peerNode l i).bind (Sparse.look (d.lane l).fab.statusPrev)

/-- Whether that record shows the lane ACTIVE under LANE and LSTATE; none without such a record. -/
def Dev.recActive (d : Dev) (l : LaneId) (i : Nat) : Option Bool :=
  (d.recOf l i).map (fun r => r.lane == i && r.lstate / 16 ^ i % 16 == 5)

/-- The state in which an unlinked lane counts an unheard one that its record does not show ACTIVE: the one the record shows,
or READY where the record names another lane (R274; log 70). -/
def StatRec.idle (r : StatRec) (i : Nat) : Nat := if r.lane = i then r.lstate / 16 ^ i % 16 else 4

/-- Once a cycle an unlinked lane counts its unheard lanes by the records of the latest complete cycle, and sets the masks of
its own companion from that count (R274). -/
def Dev.unlinkedCount (d : Dev) (l : LaneId) : Dev :=
  let x := d.lane l
  if x.flag Reg.RDN_STAT.UNLINKED then
    let d := d.modLane l (fun x => ((List.range 4).filter (fun i => hasBit x.rdn.unheard i)).foldl (fun x i =>
      match d.recActive l i, d.recOf l i with
      | some true, _ => x.see i 5
      | some false, some r => if x.rd (Reg.RDN_STAT.LSTATE i) = 5 then x.see i (r.idle i) else x
      | _, _ => x) x)
    let d := if x.flag Reg.RDN_STAT.WITNESSLESS then d.ownLevel l else d
    d.sendMasks.settle
  else d

/-- An observed cycle judged at its end (R246, R247): whether it was a full valid cycle, and the runs of cycles without a sync
frame and of cycles that were not; none for a cycle of INTEG that is not observed. -/
def Lane.observed (l : Lane) : Option (Bool × Nat × Nat) :=
  let g := l.fab
  if g.slewing || decide (g.cycle < g.obsFrom) then none
  else
    let good := g.syncSeen && !g.syncViol && g.corrOk
    some (good, if g.syncSeen then 0 else g.noSync + 1, if good then 0 else g.badRun + 1)

/-- CYCLE_START (R218, R243, R246, R247, R274): cycle n starts at T_corr = n × C. -/
def execCycleStart (tm : Nat) (c : CompId) (s : State) : Host.Outcome State Fault Refusal :=
  s.act tm (fun _ d =>
    match d.nodeLane c with
    | some l =>
      let x := d.comp c
      let y := d.lane l
      let n := x.tcorr / y.cycleLen
      if x.running && y.cycleLen != 0 && decide (y.fab.cycle < n) then
        let o := y.observed
        let d := (d.endCycle c l).modComp c (·.applyCorr (decide (2 ≤ d.pwr.state)))
        let d := d.fabricMisses c l
        let d := (d.modLane l (fun y => (y.modFab (·.newCycle n)).wr Reg.JLF_STAT.CYCLE n)).unlinkedCount l
        if y.fphase = phInteg then
          match o with
          | some (true, _, _) => d.setPhase c l phActive sySync
          | some (false, noSync, bad) =>
            let d := d.modLane l (·.modFab (fun g => { g with noSync := noSync, badRun := bad }))
            if 2 ≤ noSync ∨ 4 ≤ bad then d.setPhase c l phListen (d.lane l).untrusted else d
          | none => d
        else if y.fphase = phCsSend then
          match y.fab.csFrom with
          | none => d.modLane l (·.modFab (fun g => { g with csFrom := some n }))
          | some a0 => if a0 + 8 ≤ n then d.backoff c l else d
        else d
      else d
    | none => d)

/-! ### Clock correction (R225, R239, R246) -/

/-- The deviation of a sync slot: the one of smaller magnitude (R225); which of two of equal magnitude is open. -/
def Fab.devOf (g : Fab) (i : Nat) : Option Int :=
  match Sparse.look g.devX i, Sparse.look g.devY i with
  | some a, some b => some (if a.natAbs < b.natAbs then a else if b.natAbs < a.natAbs then b
      else if Config.roundsUp 225 a b then a else b)
  | some a, none => some a
  | none, some b => some b
  | none, none => none

/-- Insertion into a sorted list, and a list sorted. -/
def insertInt (v : Int) : List Int → List Int
  | [] => [v]
  | a :: t => if v ≤ a then v :: a :: t else a :: insertInt v t
def sortInts (vs : List Int) : List Int := vs.foldr insertInt []

/-- The midpoint with the k smallest and k largest removed, rounded toward zero (R225). -/
def midpoint (vals : List Int) : Int :=
  let n := vals.length
  let k := if n ≤ 2 then 0 else if n ≤ 7 then 1 else 2
  let v := ((sortInts vals).drop k).take (n - 2 * k)
  Int.tdiv (v.headD 0 + v.getLastD 0) 2

/-- The sync values of the running cycle (R225). -/
def Dev.syncVals (d : Dev) (c : CompId) (l : LaneId) : List Int :=
  let x := d.lane l
  ((d.comp c).slotsWhere x (entIsRx · 3)).filterMap x.fab.devOf ++ (if x.fab.sentSync then [0] else [])

/-- The rate after a correction in tick/32 (R225): corr / (2 × C) in ppb, clamped; how the quotient is rounded is open. -/
def newRate (rate corr : Int) (cycleLen lim : Nat) : Int :=
  clampI (-(lim * 100 : Int)) (lim * 100) (rate + openDiv 2251 (corr * 1000000000) (64 * cycleLen))

/-- A correction is recorded and takes force from the next cycle start (R225, R229). -/
def Dev.putCorr (d : Dev) (c : CompId) (l : LaneId) (corr rate : Int) (n : Nat) : Dev :=
  let above := decide ((d.comp c).rd Reg.JMC_CFG.PI * 32 < 2 * corr.natAbs)
  let d := d.modLane l (fun x => (((x.wr Reg.JSY_STAT.CORR (enc 16 (clampI (-32768) 32767 (openDiv 2252 (corr * 10) 32)))).wr
    Reg.JSY_STAT.NVALS (min n 8)).wr Reg.JSY_STAT.OVER_HALF (bit above)).wr Reg.JSY_RATE.RATE (enc 32 rate))
  let d := d.modComp c (fun x => { x with lower := { x.lower with nextCorr := corr, nextRate := some rate } })
  d.guard c 1 above

/-- A LOST decision (R225, R238). -/
def Dev.syncLost (d : Dev) (c : CompId) (l : LaneId) : Dev :=
  (d.modLane l (·.modFab (fun g => { g with csFrom := none }))).setPhase c l phListen syLost

/-- The correction of an integrated node, or of an attempt from its third cycle on (R225, R239, R243). -/
def Dev.correct (d : Dev) (c : CompId) (l : LaneId) (cs : Bool) : Dev :=
  let y := d.lane l
  let vals := d.syncVals c l
  let rate := (d.comp c).lower.nextRate.getD (d.comp c).lower.rate
  let lim := y.rd Reg.JSY_CFG.RATE_LIM
  if vals.length < y.rd Reg.JSY_CFG.SYNC_MIN then
    let d := d.putCorr c l 0 rate vals.length
    if cs then d
    else
      let d := d.modLane l (·.modFab (fun g => { g with missed := g.missed + 1 }))
      if y.rd Reg.JSY_CFG.LOSS_N ≤ y.fab.missed + 1 then d.syncLost c l else d
  else
    let corr := midpoint vals
    let r := newRate rate corr y.cycleLen lim
    let d := (d.putCorr c l corr r vals.length).modLane l (·.modFab (fun g => { g with missed := 0 }))
    if decide (y.rd Reg.JSY_CFG.OFS_LIM * 32 < corr.natAbs * 10) || r.natAbs == lim * 100 then d.syncLost c l
    else if cs then
      (d.modLane l (fun y => (y.modFab (fun g => { g with csFrom := none })).wr Reg.JLF_START_STAT.ATTEMPT 0)).setPhase c l phActive sySync
    else d

/-- The correction of an observed cycle in INTEG, with SYNC_MIN taken as 1, and whether it is not above Π/2 (R246). -/
def Dev.observe (d : Dev) (c : CompId) (l : LaneId) : Dev :=
  let y := d.lane l
  let vals := ((d.comp c).slotsWhere y (entIsRx · 3)).filterMap y.fab.devOf
  let rate := (d.comp c).lower.nextRate.getD (d.comp c).lower.rate
  if vals.isEmpty then d.putCorr c l 0 rate 0
  else
    let corr := midpoint vals
    (d.putCorr c l corr (newRate rate corr y.cycleLen (y.rd Reg.JSY_CFG.RATE_LIM)) vals.length).modLane l
      (·.modFab (fun g => { g with corrOk := decide (2 * corr.natAbs ≤ (d.comp c).rd Reg.JMC_CFG.PI * 32) }))

/-- SYNC_CORRECTION (R225): at the end of the TT segment, once a cycle. -/
def execSyncCorrection (tm : Nat) (c : CompId) (s : State) : Host.Outcome State Fault Refusal :=
  s.act tm (fun _ d =>
    match d.nodeLane c with
    | some l =>
      let x := d.comp c
      let y := d.lane l
      if !y.fab.corrDone && y.cycleLen != 0 && decide (y.fab.cycle * y.cycleLen + x.etStart y ≤ x.tcorr) then
        let d := d.modLane l (·.modFab (fun g => { g with corrDone := true }))
        if y.fphase = phActive then d.correct c l false
        else if y.fphase = phCsSend then
          match y.fab.csFrom with
          | some a0 => if a0 + 2 ≤ y.fab.cycle then d.correct c l true else d
          | none => d
        else if y.fphase = phInteg && !y.fab.slewing && decide (y.fab.obsFrom ≤ y.fab.cycle) then d.observe c l
        else d
      else d
    | none => d)

/-! ### Membership (R250, R251) -/

/-- The node stops (R251): cause 3, JLF_MEMB_LOST, LISTEN with LOST shown, its queues flushed (R352). -/
def Dev.memberStop (d : Dev) (c : CompId) (l : LaneId) : Dev :=
  let d := d.guard c 3 true
  let d := d.modLane l (fun x => (x.inc Reg.JLF_MEMB.REINT_CNT).wr Reg.JLF_MEMB.MISS_RUN 2)
  let d := d.raiseC c false 71 sevFault ((d.lane l).rd Reg.JLF_MEMB.REINT_CNT)
  (d.setPhase c l phListen syLost).fqFlushAll c

/-- The reports of the siblings' lanes on a node's frames in cycle `k` (R250): of lanes that the node's lane holds ACTIVE
at another companion. -/
def Dev.sibReports (d : Dev) (c : CompId) (l : LaneId) (k : Nat) : List Bool :=
  let x := d.lane l
  (allLanes.filter (fun r => r != l && x.rd (Reg.RDN_STAT.LSTATE (laneIdx r)) == 5)).filterMap (fun r =>
    match Sparse.look x.rdn.hb (laneIdx r) with
    | some h => if h.sibValid && h.sibCycle == k % 4096 then some (hasBit h.sib (compIdx c)) else none
    | none => none)

/-- MEMBERSHIP_DECISION (R250, R251): the node decides its own bit for the previous cycle. -/
def execMembershipDecision (tm : Nat) (c : CompId) (s : State) : Host.Outcome State Fault Refusal :=
  s.act tm (fun _ d =>
    match d.nodeLane c with
    | some l =>
      let y := d.lane l
      if y.fphase = phActive ∧ !y.fab.judged then
        let d := d.modLane l (·.modFab (fun g => { g with judged := true }))
        match d.sibReports c l (y.fab.cycle - 1) with
        | [] => d
        | reps =>
          if reps.any id then d.modLane l (fun x => (x.wr Reg.JLF_MEMB.SELF 1).wr Reg.JLF_MEMB.MISS_RUN 0)
          else
            let n := y.rd Reg.JLF_MEMB.MISS_RUN + 1
            let d := d.modLane l (fun x => (x.wr Reg.JLF_MEMB.SELF 0).wr Reg.JLF_MEMB.MISS_RUN (min n 2))
            if 2 ≤ n then d.memberStop c l else d
      else d
    | none => d)

/-! ### The ET segment (R237) -/

/-- Held ET frames that start one after another, each as soon as both ports are free, while its end falls Π before the end of
the ET segment, `lim` in tenths of a tick of the model's clock (R212, R237). -/
def Dev.sendEts (d : Dev) (c : CompId) (l : LaneId) : Nat → Dev
  | 0 => d
  | k + 1 =>
    let x := d.comp c
    let y := d.lane l
    match y.fab.etq with
    | [] => d
    | e :: rest =>
      let auth := x.flag Reg.JMC_AUTH.ET_AUTH
      let dur := wireBytes e.payload.length auth * x.slowByte10
      let start := max (d.clk * 10) x.portsFree
      let lim := (d.clk + (y.fab.cycle * y.cycleLen + x.etStart y + y.rd Reg.JLF_ET.ET_LEN * 100 - x.tcorr)) * 10
      if !x.flag Reg.JMC_GUARD.BLOCKED && decide (y.fab.etSent < y.rd Reg.JLF_ET.ET_MAX) &&
          decide (start + dur + x.rd Reg.JMC_CFG.PI * 10 ≤ lim) then
        let d := d.modLane l (·.modFab (fun g => { g with etq := rest, etSent := g.etSent + 1 }))
        Dev.sendEts (d.send c start (nodeAddr (x.rd Reg.JMC_ADDR.CLUSTER) e.node) e.kind (y.nodeOf c) 0xFFFF y.fab.cycle auth e.payload) c l k
      else d

/-- ET_SEGMENT_START (R237): in the ET segment an ACTIVE node sends what it holds, the ring engine's first requests
included; frames that cannot start stay held, with
JLF_ET_DEFER. -/
def execEtSegmentStart (tm : Nat) (c : CompId) (s : State) : Host.Outcome State Fault Refusal :=
  s.act tm (fun _ d =>
    match d.nodeLane c with
    | some l =>
      let x := d.comp c
      let y := d.lane l
      let start := y.fab.cycle * y.cycleLen + x.etStart y
      if y.fphase = phActive ∧ start ≤ x.tcorr ∧ x.tcorr < start + y.rd Reg.JLF_ET.ET_LEN * 100 then
        let d := (d.ringEt l).sendEts c l 255
        let held := (d.lane l).fab.etq.length
        if held = 0 then d else d.raiseC c false 69 sevTrace (min held 255)
      else d
    | none => d)

/-- An ET frame judged (R237, R258): within the span of an ET segment, with the tag that ET_AUTH requires, and used in
ACTIVE only (R238). -/
def Dev.acceptEt (d : Dev) (c : CompId) (l : LaneId) (f : RxFrame) (h : Hdr) : Dev × Bool :=
  let x := d.comp c
  match x.etCycle (d.lane l) f.sof32 with
  | none => (d.incC c (Reg.JMC_CNT.ETVIOL (bit f.netY)), false)
  | some n =>
    if !x.tagOk h (x.flag Reg.JMC_AUTH.ET_AUTH) n then (d.authFail c f h, false)
    else (d, (d.lane l).fphase == phActive)

/-- An ET frame of one kind that a node accepts: the lane, and its header. -/
def Dev.rxEt (d : Dev) (c : CompId) (f : RxFrame) (kind : Nat) : Dev × Option (LaneId × Hdr) :=
  match (d.rxHdr c f).2, d.nodeLane c with
  | some h, some l =>
    if h.kind = kind then
      let r := d.acceptEt c l f h
      (r.1, if r.2 then some (l, h) else none)
    else (d, none)
  | _, _ => ((d.rxHdr c f).1, none)

/-! ### Links (R211, R256) -/

/-- PHY_LINK_CHANGE (R211, R238, R256): a link comes up or is lost; the network fails at once. -/
def execPhyLinkChange (tm : Nat) (c : CompId) (netY up : Bool) (s : State) : Host.Outcome State Fault Refusal :=
  s.act tm (fun _ d =>
    let x := d.comp c
    let p := bit netY
    if x.powered && x.flag (Reg.PHY_CFG.EN p) && x.flag (Reg.PHY_STAT.LINK p) != up then
      let d := d.wrC c (Reg.PHY_STAT.LINK p) (bit up)
      let d := if up then d else (d.incC c (Reg.PHY_STAT.LOSS_CNT p)).raiseC c netY 64 sevFault 0
      match d.nodeLane c with
      | some l =>
        let d := if up then d else d.netFail c l netY
        if !(d.comp c).phyUp then d.setPhase c l phOff syUnsync
        else if (d.lane l).fphase = phOff then d.setPhase c l phListen (d.lane l).untrusted
        else d
      | none => d
    else d)

end Sys2Proof.Machine
end

