-- ==== Sys2Proof/Machine/FabricStart.lean ====
section
/-!
DEFINITION. Coldstart and integration timers of a node (R240 to R247).
-/
namespace Sys2Proof.Machine

/-- SLEW_END (R245, R246): not more than Π/2 of the adopted difference is left; observation begins with the next cycle. -/
def execSlewEnd (tm : Nat) (c : CompId) (s : State) : Host.Outcome State Fault Refusal :=
  s.act tm (fun _ d =>
    match d.nodeLane c with
    | some l =>
      let x := d.comp c
      if (d.lane l).fphase = phInteg ∧ (d.lane l).fab.slewing ∧ 2 * x.lower.slew.natAbs ≤ x.rd Reg.JMC_CFG.PI * 32 then
        d.modLane l (·.modFab (fun g => { g with slewing := false, obsFrom := g.cycle + 1 }))
      else d
    | none => d)

/-- Ticks of the listen timer, and of the backoff (R243). -/
def Lane.listenTicks (l : Lane) : Nat := 2 * l.cycleLen + l.rd Reg.JLF_START.RANK * l.cycleLen / 4
def Lane.backoffTicks (l : Lane) : Nat := (2 * l.rd Reg.JLF_START.RANK + 1) * l.cycleLen / 4

/-- LISTEN_TIMEOUT (R243): the listen timer of a coldstart node expires and an attempt begins. -/
def execListenTimeout (tm : Nat) (c : CompId) (s : State) : Host.Outcome State Fault Refusal :=
  s.act tm (fun _ d =>
    match d.nodeLane c with
    | some l =>
      let x := d.comp c
      let y := d.lane l
      if y.fphase = phListen ∧ y.flag Reg.JLF_START.CS_EN ∧ y.flag Reg.JLF_START_STAT.CS_FAIL = false ∧ x.running ∧
          y.fab.listenAt + y.listenTicks ≤ x.ticks then
        let from_ := if x.tcorr32 = y.fab.cycle * y.cycleLen * 32 then some y.fab.cycle else none
        (d.modLane l (·.modFab (fun g => { g with csFrom := from_ }))).setPhase c l phCsSend sySync
      else d
    | none => d)

/-- BACKOFF_END (R243): the backoff ends and the node listens again. -/
def execBackoffEnd (tm : Nat) (c : CompId) (s : State) : Host.Outcome State Fault Refusal :=
  s.act tm (fun _ d =>
    match d.nodeLane c with
    | some l =>
      let y := d.lane l
      if y.fphase = phBackoff ∧ y.fab.backAt + y.backoffTicks ≤ (d.comp c).ticks then d.setPhase c l phListen syUnsync else d
    | none => d)

/-- COLDSTART_HOLDOFF_END (R243): 256 cycles in LISTEN without a decodable frame; the attempt count restarts at 0. -/
def execColdstartHoldoffEnd (tm : Nat) (c : CompId) (s : State) : Host.Outcome State Fault Refusal :=
  s.act tm (fun _ d =>
    match d.nodeLane c with
    | some l =>
      let y := d.lane l
      if y.fphase = phListen ∧ y.flag Reg.JLF_START_STAT.CS_FAIL ∧ y.fab.holdAt + 256 * y.cycleLen ≤ (d.comp c).ticks then
        d.modLane l (fun y => (y.wr Reg.JLF_START_STAT.CS_FAIL 0).wr Reg.JLF_START_STAT.ATTEMPT 0)
      else d
    | none => d)

end Sys2Proof.Machine
end

