-- ==== Sys2Proof/Machine/Redundancy.lean ====
section
/-!
DEFINITION. Heartbeats, beacons and status words, paths, votes, and witnessless and unlinked operation (R25, R260 to
R274).
-/
namespace Sys2Proof.Machine

/-! ### What a lane hears (R263 to R265) -/

/-- The lane with its redundancy bookkeeping changed. -/
def Lane.modRdn (l : Lane) (f : Rdn → Rdn) : Lane := { l with rdn := f l.rdn }

/-- Something last received at an instant of a map lies within the latest `n` ticks. -/
def within (m : Sp Nat) (k clk n : Nat) : Bool :=
  match Sparse.look m k with
  | some t => decide (clk < t + n)
  | none => false

/-- The same for one instant. -/
def since (t : Option Nat) (clk n : Nat) : Bool :=
  match t with
  | some t => decide (clk < t + n)
  | none => false

/-- Lanes heard on a path within the latest 30 µs, as HEARD has them (R263). -/
def Rdn.heard (r : Rdn) (pathY : Bool) (clk : Nat) : Nat :=
  bitsOf 4 (fun i => within (if pathY then r.hbY else r.hbX) i clk 3000)

/-- XLK_STAT follows the latest 30 µs. -/
def Lane.showHeard (l : Lane) (clk : Nat) : Lane :=
  let l := (List.range 4).foldl (fun l i => (l.wr (Reg.XLK_STAT.HEARD_X i) (bit (within l.rdn.hbX i clk 3000))).wr
    (Reg.XLK_STAT.HEARD_Y i) (bit (within l.rdn.hbY i clk 3000))) l
  (l.wr Reg.XLK_STAT.BEACON_Y (bit (since l.rdn.beaconY clk 3000))).wr Reg.XLK_STAT.BEACON_C (bit (since l.rdn.beaconC clk 3000))

/-- Heartbeats of lane `i` in state `s` are expected (R260, R262): it is powered; of the RETIRED lanes only lane D is not. -/
def sends (i s : Nat) : Bool := s != 0 && s != 9 && !(s == 7 && i == 3)

/-- A lane whose heartbeats are expected, by its state as the receiver sees it. -/
def Lane.expects (l : Lane) (i : Nat) : Bool := sends i (l.rd (Reg.RDN_STAT.LSTATE i))

/-- The counts of R265 for one route after an interval. -/
def runMiss (got other : Bool) (n : Nat) : Nat := if got then 0 else if other then n + 1 else 0
def runOk (got : Bool) (n : Nat) : Nat := if got then n + 1 else 0

/-- A 10 µs interval ends for a lane: what it missed from peer `i` (R265). -/
def Lane.hbInterval (l : Lane) (clk i : Nat) : Lane :=
  let gx := within l.rdn.hbX i clk 1000
  let gy := within l.rdn.hbY i clk 1000
  let l := l.modRdn (fun r => { r with
    missX := Sparse.upd 0 r.missX i (runMiss gx gy), missY := Sparse.upd 0 r.missY i (runMiss gy gx)
    okX := Sparse.upd 0 r.okX i (runOk gx), okY := Sparse.upd 0 r.okY i (runOk gy) })
  let l := if gx then l else l.inc (Reg.XLK_MISS.MISS_X i)
  if gy then l else l.inc (Reg.XLK_MISS.MISS_Y i)

/-- The same for the witness beacon on its routes (R265, R272). -/
def Lane.bcInterval (l : Lane) (clk : Nat) : Lane :=
  let gy := since l.rdn.beaconY clk 1000
  let gc := since l.rdn.beaconC clk 1000
  l.modRdn (fun r => { r with
    bcMissY := runMiss gy gc r.bcMissY, bcMissC := runMiss gc gy r.bcMissC
    bcOkY := runOk gy r.bcOkY, bcOkC := runOk gc r.bcOkC, bcLost := if gy || gc then 0 else r.bcLost + 1 })

/-- An interval ends for a lane: every peer that is expected, and the beacon. -/
def Lane.interval (l : Lane) (me clk : Nat) : Lane :=
  (((List.range 4).filter (fun i => i != me && l.expects i)).foldl (fun l i => l.hbInterval clk i) l).bcInterval clk

/-! ### Sending (R263, R264) -/

/-- CHX_TCNT.IN_1H at lane time `t`: compare events of the latest 3,600 s, not above its field (R121, R484). -/
def Lane.inHour (l : Lane) (t : Nat) : Nat := min 16 (countWithin l.eng.cmps t hourTicks)

/-- The heartbeat a lane sends at the model's time `clk` and lane time `t` (R263), without its route bit. -/
def Lane.heartbeat (l : Lane) (who : LaneId) (clk t : Nat) : Heartbeat :=
  let lost := l.st == .suspect || l.st == .retired
  { lane := who, pathY := false, state := laneStCode l.st, nonCheck := l.isSplit
    witless := l.flag Reg.RDN_STAT.WITNESSLESS, unlinked := l.flag Reg.RDN_STAT.UNLINKED
    master := l.flag Reg.RDN_STAT.MASTER_VALID && l.rd Reg.RDN_STAT.MASTER == laneIdx who
    service := l.flag Reg.RDN_STAT.SERVICE, xferRdy := l.rdn.xferRdy, seq := l.rdn.hbSeq
    depth := l.rd Reg.CHE_SPEC_STAT.PROPOSED, dl := l.rd Reg.RDN_STAT.DL, key := l.rdn.key, digest := l.rdn.digest
    heardX := l.rdn.heard false clk, heardY := l.rdn.heard true clk, accuse := l.rdn.accuse, lost := l.rdn.judged
    sib := l.fab.sibPrev, sibValid := decide (l.rd Reg.JLF_START_STAT.PHASE = 5) && decide (0 < l.fab.cycle), sibCycle := (l.fab.cycle - 1) % 4096
    jseq := l.rd Reg.RDN_JSEQ.JSEQ, image := l.image % 2 ^ 32, evid := l.rdn.evidKey, evidCnt := l.inHour t
    lstate := l.lstate, cause := if lost then l.rdn.cause else 0 }

/-- The status word with the fields of a heartbeat (R264). -/
def statusWordOf (h : Heartbeat) : StatusWord :=
  { state := h.state, nonCheck := h.nonCheck, witless := h.witless, unlinked := h.unlinked, master := h.master, service := h.service
    xferRdy := h.xferRdy, seq := h.seq, key := h.key % 2 ^ 32, digest := h.digest }

/-! ### Keys under vote (R268) -/

/-- A report of lane, digest, EVID bit and count enters the keys under vote (R268): the first of each lane for each key; one
for a key that is over is not taken. The heartbeat of a lane whose status word came first adds its evidence (R270). -/
def putReport (votes : List VoteKey) (voted key clk : Nat) (hb : Bool) (rep : Nat × Nat × Bool × Nat) : List VoteKey :=
  if votes.any (fun v => v.key == key) then
    votes.map (fun v =>
      if v.key != key then v
      else if !v.reps.any (fun r => r.1 == rep.1) then { v with reps := v.reps ++ [rep] }
      else if hb then { v with reps := v.reps.map (fun r => if r.1 = rep.1 then (r.1, r.2.1, rep.2.2) else r) }
      else v)
  else if voted < key then votes ++ [{ key := key, at_ := clk, reps := [rep] }]
  else votes

/-- A lane's own report of its latest key, in its own comparison of the digests (R25, R273). -/
def Lane.ownReport (l : Lane) (me clk t : Nat) : Lane :=
  if l.st == .active then
    l.modRdn (fun r => { r with votes := putReport r.votes r.voted r.key clk true (me, r.digest, r.evidKey, l.inHour t) })
  else l

/-- HEARTBEAT_SEND (R263, R264): a powered lane makes its heartbeat, and its status word while it drives a companion; the
interval that ends is judged. A SUSPECT lane goes on sending, an unpowered one sends nothing (R262). -/
def execHeartbeatSend (tm : Nat) (l : LaneId) (s : State) : Host.Outcome State Fault Refusal :=
  s.act tm (fun t d =>
    if (d.lane l).powered then
      let comp := (d.driver · == some l)
      let lt := (d.laneTime l).1
      d.modLane l (fun x =>
        let x := (x.interval (laneIdx l) t).showHeard t
        let h := x.heartbeat l t lt
        let x := x.modRdn (fun r => { r with sent := some h, hbSeq := (r.hbSeq + 1) % 65536
                                             status := if allComps.any comp then some (statusWordOf h) else none })
        (x.ownReport (laneIdx l) t lt).modRdn (fun r => { r with accuse := 0 }))
    else d)

/-- A round of the witness ends: the heartbeats missing on path Y, and links of the hub that fail by R265. -/
def Dev.witRound (d : Dev) : Dev :=
  d.each ((List.range 4).filter (fun i => sends i (d.wit.rd (Reg.WIT_STAT.LSTATE i)))) (fun d i =>
    let w := d.wit
    let gy := within w.hbAt i d.clk 1000
    let gc := within w.stAt i d.clk 1000
    let n := runMiss gy gc (Sparse.get 0 w.missY i)
    let d := d.modWit (fun w =>
      let w := { w with missY := Sparse.set 0 w.missY i n, hbFail := if gy then Sparse.set false w.hbFail i false else w.hbFail }
      let w := (w.wr (Reg.WIT_HB.SEEN_Y i) (bit (within w.hbAt i d.clk 3000))).wr (Reg.WIT_HB.SEEN_C i)
        (bit (within w.stAt i d.clk 3000))
      if gy then w else w.inc (Reg.WIT_HB.MISS i))
    if 3 ≤ n ∧ !Sparse.get false d.wit.hbFail i then
      (d.modWit (fun w => { w with hbFail := Sparse.set false w.hbFail i true })).raiseW 139 sevFault i
    else d)

/-- BEACON_SEND (R264): the witness makes its beacon. -/
def execBeaconSend (tm : Nat) (s : State) : Host.Outcome State Fault Refusal :=
  s.act tm (fun _ d =>
    if d.wit.powered then
      let d := d.witRound
      d.modWit (fun w => { w with
        beaconSeq := (w.beaconSeq + 1) % 65536
        beacon := some { seq := w.beaconSeq, dl := w.rd Reg.WIT_STAT.DL, master := w.rd Reg.WIT_STAT.MASTER
                         masterValid := w.flag Reg.WIT_STAT.MASTER_VALID
                         lstate := (List.range 4).foldl (fun n i => n + w.rd (Reg.WIT_STAT.LSTATE i) * 16 ^ i) 0
                         jseq := w.rd Reg.WIT_JSEQ.JSEQ } })
    else d)

/-! ### The vote (R268 to R270) -/

/-- The outcomes of a vote (R268, R270): not evaluated, all equal, one lane accused (by majority or by evidence), no
majority, unresolved between two. -/
inductive Ballot where
  | void | agree
  | odd (lane : Nat)
  | byEvid (lane : Nat)
  | noMaj | tie
deriving DecidableEq, Repr

/-- The outcome for the reports of a key: lane, digest, EVID bit, count. -/
def ballot (reps : List (Nat × Nat × Bool × Nat)) : Ballot :=
  match reps with
  | [] => .void
  | [_] => .void
  | [a, b] =>
    if a.2.1 = b.2.1 then .agree
    else if a.2.2.1 = b.2.2.1 then .tie
    else .byEvid (if a.2.2.1 then a.1 else b.1)
  | a :: _ =>
    if reps.all (fun r => r.2.1 == a.2.1) then .agree
    else
      let cnt := fun v => (reps.filter (fun r => r.2.1 == v)).length
      match reps.find? (fun r => decide (reps.length < 2 * cnt r.2.1)) with
      | none => .noMaj
      | some m => match reps.filter (fun r => r.2.1 != m.2.1) with
        | [x] => .odd x.1
        | _ => .noMaj

/-- The lane that an unresolved disagreement of two costs (R270): larger count, then higher index. -/
def tieLoser (reps : List (Nat × Nat × Bool × Nat)) : Option Nat :=
  reps.foldl (fun (a : Option (Nat × Nat)) r => match a with
    | none => some (r.2.2.2, r.1)
    | some b => if b.1 < r.2.2.2 ∨ (b.1 = r.2.2.2 ∧ b.2 < r.1) then some (r.2.2.2, r.1) else some b) none |>.map Prod.snd

/-- An accusation of a lane (R269): a compare event with location VOTE, and RDN_VOTE.ACCUSED. -/
def Dev.accuse (d : Dev) (l : LaneId) (by_ : Nat) : Dev :=
  if (d.lane l).powered then
    (d.incL l Reg.RDN_VOTE.ACCUSED).compareEvent l
      { kind := 9, task := (d.lane l).rd Reg.RDN_CFG.VOTE_TASK, loc := some locVote } by_
  else d

/-- A counter of RDN_VOTE in every lane that reported a key. -/
def Dev.voteCount (d : Dev) (reps : List (Nat × Nat × Bool × Nat)) (f : Fld) : Dev :=
  d.each reps (fun d r => if (d.lane (laneOf r.1)).powered then d.incL (laneOf r.1) f else d)

/-- Four keys in a row unresolved between two lanes (R270). -/
def tieRun (n : Nat) : Bool := decide (4 ≤ n)

/-- The witness evaluates a key (R268 to R270). -/
def Dev.witVote (d : Dev) (v : VoteKey) : Dev :=
  let reps := v.reps.filter (fun r => d.wit.rd (Reg.WIT_STAT.LSTATE r.1) == 5)
  let d := d.modWit (fun w => { w with votes := w.votes.filter (fun u => u.key != v.key), voted := max w.voted v.key })
  let calm := fun (d : Dev) => d.modWit (fun w => { w with disagree := 0 })
  match ballot reps with
  | .void => d
  | .agree => calm d
  | .odd i =>
    let d := (calm d).modWit (fun w => (w.inc Reg.WIT_VOTE.ODD).wr Reg.WIT_VOTE.LAST_ODD i)
    d.accuse (laneOf i) 1
  | .byEvid i => (calm d).accuse (laneOf i) 1
  | .noMaj =>
    let d := (calm d).modWit (fun w => w.inc Reg.WIT_VOTE.NOMAJ)
    (d.voteCount reps Reg.RDN_VOTE.NOMAJ).each reps (fun d r => d.raise (laneOf r.1) 84 sevFault (v.key % 2 ^ 32))
  | .tie =>
    let n := d.wit.disagree + 1
    let d := (d.voteCount reps Reg.RDN_VOTE.TIE).modWit (fun w => { w with disagree := if tieRun n then 0 else n })
    match tieRun n, tieLoser reps with
    | true, some i => d.decideLoss (laneOf i) 6 1
    | _, _ => d

/-- A lane judges another lost, for a cause (R273). -/
def Rdn.judge (r : Rdn) (i cause : Nat) : Rdn :=
  if hasBit r.judged i then r else { r with judged := putBit r.judged i true, why := Sparse.put r.why i cause }

/-- A lane evaluates a key by its own comparison and publishes the lane it accuses (R25, R263). Without a witness its outcomes
are those of R273; beside a running one the witness's vote counts them (R268 to R270). -/
def Dev.laneVote (d : Dev) (l : LaneId) (v : VoteKey) : Dev :=
  let x := d.lane l
  let reps := v.reps.filter (fun r => x.rd (Reg.RDN_STAT.LSTATE r.1) == 5 && !hasBit x.rdn.unheard r.1)
  let d := d.modLane l (·.modRdn (fun r => { r with votes := r.votes.filter (fun u => u.key != v.key), voted := max r.voted v.key }))
  let put := fun (f : Rdn → Rdn) => d.modLane l (·.modRdn f)
  let accuse := fun i => put (fun r => { r with disagree := 0, accuse := putBit r.accuse i true
                                                accs := (i, laneIdx l, d.clk) :: r.accs.filter (fun a => decide (d.clk < a.2.2 + 3000)) })
  match ballot reps, x.flag Reg.RDN_STAT.WITNESSLESS with
  | .void, _ => d
  | .agree, _ => put (fun r => { r with disagree := 0 })
  | .odd i, _ => accuse i
  | .byEvid i, _ => accuse i
  | .noMaj, false => d
  | .tie, false => d
  | .noMaj, true => ((put (fun r => { r with disagree := 0 })).incL l Reg.RDN_VOTE.NOMAJ).raise l 84 sevFault (v.key % 2 ^ 32)
  | .tie, true =>
    let n := x.rdn.disagree + 1
    (put (fun r =>
      let r := { r with disagree := if tieRun n then 0 else n }
      match tieRun n, tieLoser reps with
      | true, some i => r.judge i 6
      | _, _ => r)).incL l Reg.RDN_VOTE.TIE

/-! ### Verdicts without a witness (R273, R274) -/

/-- The lanes a witnessless lane counts as active: those it sees ACTIVE (R272, R274). -/
def Lane.activeView (l : Lane) : List Nat := (List.range 4).filter (fun i => l.rd (Reg.RDN_STAT.LSTATE i) == 5)

/-- Lane `i` is heard by a lane on a path within the latest 30 µs. -/
def Lane.hears (l : Lane) (i clk : Nat) : Bool := within l.rdn.hbX i clk 3000 || within l.rdn.hbY i clk 3000

/-- The latest heartbeat of lane `i`, while it is heard. -/
def Lane.freshHb (l : Lane) (i clk : Nat) : Option Heartbeat := if l.hears i clk then Sparse.look l.rdn.hb i else none

/-- A witnessless loss is decided by the lanes' majority (R273): every witnessless lane sees it, with the common actions of
R277. -/
def Dev.majorityLoss (d : Dev) (i cause : Nat) : Dev :=
  let d := d.each (allLanes.filter (fun r => (d.lane r).powered && (d.lane r).flag Reg.RDN_STAT.WITNESSLESS))
    (fun d r => d.modLane r (fun x => (if x.rd (Reg.RDN_STAT.LSTATE i) = 5 then x.see i 6 else x).modRdn (fun r =>
      { r with judged := putBit r.judged i false, unheard := putBit r.unheard i false })))
  d.decideLoss (laneOf i) cause 2

/-- The verdicts published by the active lanes decide (R273): a lane named lost by more than half of the active lanes, the
judged lane included; with two active lanes the silent peer that the other one names. -/
def Dev.verdicts (d : Dev) (l : LaneId) : Dev :=
  let x := d.lane l
  if !(x.powered && x.st == .active && x.flag Reg.RDN_STAT.WITNESSLESS) then d
  else
    let act := x.activeView
    let names := fun (i : Nat) => (act.filter (fun q =>
      if q = laneIdx l then hasBit x.rdn.judged i
      else match x.freshHb q d.clk with
        | some h => hasBit h.lost i
        | none => false)).length
    let two := fun i => act.length == 2 && i != laneIdx l && hasBit x.rdn.judged i && Sparse.get 0 x.rdn.why i == 7
    let out := act.filter (fun i => decide (act.length < 2 * names i) || two i)
    d.each out (fun d i => d.majorityLoss i (Sparse.get 7 x.rdn.why i))

/-- A majority accusation of lane `i` seen at lane time `t`: the second within 3,600 s judges it lost (R273, R484). -/
def Rdn.noteAccused (r : Rdn) (i t : Nat) : Rdn :=
  let r := { r with seen := (i, t) :: r.seen.filter (fun p => decide (t < p.2 + hourTicks)) }
  if 2 ≤ (r.seen.filter (fun p => p.1 == i)).length then r.judge i 5 else r

/-- The accusations a witnessless lane has read decide (R273): one of itself by a majority of the other active lanes counts
in its own windows; of another, the second within 3,600 s judges it lost. -/
def Dev.accusations (d : Dev) (l : LaneId) : Dev :=
  let x := d.lane l
  if !(x.powered && x.st == .active && x.flag Reg.RDN_STAT.WITNESSLESS) then d
  else
    let act := x.activeView
    let accs := x.rdn.accs.filter (fun a => decide (d.clk < a.2.2 + 3000))
    let accused := fun (i : Nat) =>
      let n := (act.filter (fun q => q != i && accs.any (fun a => a.1 == i && a.2.1 == q))).length
      decide (0 < n) && decide (act.length - 1 < 2 * n)
    let out := act.filter accused
    let d := d.modLane l (·.modRdn (fun r => { r with accs := accs.filter (fun a => !out.contains a.1) }))
    let t := (d.laneTime l).1
    d.each out (fun d i => if i = laneIdx l then d.accuse l 3 else d.modLane l (·.modRdn (·.noteAccused i t)))

/-- VOTE_EVALUATE (R268, R273): a key is evaluated once every active lane has reported it, or 30 µs after its first report:
by the witness while it runs, and by each active lane (R25). -/
def execVoteEvaluate (tm : Nat) (key : Nat) (s : State) : Host.Outcome State Fault Refusal :=
  s.act tm (fun t d =>
    let due := fun (v : VoteKey) (act : List Nat) => act.all (fun i => v.reps.any (fun r => r.1 == i)) || decide (v.at_ + 3000 ≤ t)
    let d := match d.wit.powered, d.wit.votes.find? (fun v => v.key == key) with
      | true, some v =>
        if due v ((List.range 4).filter (fun i => d.wit.rd (Reg.WIT_STAT.LSTATE i) == 5)) then d.witVote v else d
      | _, _ => d
    d.each allLanes (fun d l =>
      let x := d.lane l
      if x.powered && x.st == .active then
        match x.rdn.votes.find? (fun v => v.key == key) with
        | some v =>
          if due v (x.activeView.filter (fun i => !hasBit x.rdn.unheard i)) then ((d.laneVote l v).accusations l).verdicts l else d
        | none => d
      else d))

/-! ### Receiving (R263, R264, R266, R271) -/

/-- Heartbeats kept for capsules: the latest 32 of each other lane (R406), one for each number. -/
def keepHb (hist : List Heartbeat) (h : Heartbeat) : List Heartbeat :=
  let mine := hist.filter (fun x => x.lane == h.lane)
  if mine.any (fun x => x.seq == h.seq) then hist
  else (h :: mine).take 32 ++ hist.filter (fun x => x.lane != h.lane)

/-- A lane reaches the witness (R29, R451): the witness answers, and the lane's own link of path Y stands in both
directions. -/
def Dev.hubUp (d : Dev) (l : LaneId) : Bool :=
  d.wit.powered && !(d.lane l).rdn.beaconYFail && !Sparse.get false d.wit.hbFail (laneIdx l)

/-- The journal that a master goes by (R287): the vault's, or its own copy where it cannot read the vault over path Y within
the time-out of R29. -/
def Dev.masterJournal (d : Dev) (l : LaneId) : List JRec := if d.hubUp l then d.wit.journal else (d.lane l).rdn.journal

/-- Whether the transfer of the recovery under way has its DONE record: the latest XFER record since the latest WAKE_D
(R285, R287). -/
def xferIsDone (j : List JRec) : Bool :=
  match (j.takeWhile (fun r => r.step != 4)).find? (fun r => r.step == 6 && r.status != 2) with
  | some r => r.status == 1
  | none => false

/-- The recovery master begins the transfer when lane D reports XFER_READY (R283, R291). A newly appointed one performs it again
where the journal shows it BEGUN and not DONE; once it is DONE only its copies go on, up to lane D's first activations (R287,
R291). A lane that is not the named master is refused (R286). -/
def Dev.beginXfer (d : Dev) (l : LaneId) : Dev :=
  let x := d.lane l
  if x.rdn.xferring || !x.powered then d
  else if d.master = some l then
    let done := xferIsDone (d.masterJournal l)
    let d := if done then d else (d.jwrite (some l) 0 6 3 0).1
    let d := d.each (allLanes.filter (· ≠ l)) (fun d r => d.modLane r (·.modRdn (fun r => { r with xferring := false })))
    d.modLane l (fun x => (x.modRdn (fun r => { r with xferring := true, copies := [] })).wr Reg.RDN_XFER.PHASE
      (if done then 4 else 3))
  else if x.flag Reg.RDN_STAT.MASTER_VALID && x.rd Reg.RDN_STAT.MASTER == laneIdx l && d.wit.powered then
    ((d.jwrite none 2 6 3 0).1).raiseW 138 sevFault (6 + 256 * laneIdx l)
  else d

/-- A witnessless lane takes a peer's own report of its state (R266, R272). -/
def Dev.peerState (d : Dev) (l : LaneId) (h : Heartbeat) : Dev :=
  let x := d.lane l
  let i := laneIdx h.lane
  let was := x.rd (Reg.RDN_STAT.LSTATE i)
  if !x.flag Reg.RDN_STAT.WITNESSLESS || was = h.state || ((was = 6 || was = 7) && h.state != 7) then d
  else
    let d := d.modLane l (·.see i h.state)
    let d := if (h.state = 6 ∨ h.state = 7) ∧ was = 5 then
        let d := d.modLane l (fun x => (x.wr (Reg.RDN_LOSS.CAUSE i) h.cause).wr (Reg.RDN_LOSS.BY i) 3)
        d.decideLoss h.lane h.cause 3
      else d
    ((d.ownLevel l).sendMasks).settle

/-- A lane hears an unheard peer again (R274). -/
def Lane.hearAgain (l : Lane) (i : Nat) : Lane :=
  if hasBit l.rdn.unheard i then
    let u := putBit l.rdn.unheard i false
    (l.modRdn (fun r => { r with unheard := u })).wr Reg.RDN_STAT.UNLINKED (bit (u != 0))
  else l

/-- A valid heartbeat reaches a lane. -/
def Dev.laneHears (d : Dev) (l : LaneId) (h : Heartbeat) : Dev :=
  let i := laneIdx h.lane
  let own := (d.adopted l).isNone
  let d := d.modLane l (fun x =>
    let x := x.modRdn (fun r => { r with
      hb := Sparse.put r.hb i h, hbHist := keepHb r.hbHist h
      hbX := if h.pathY then r.hbX else Sparse.put r.hbX i d.clk
      hbY := if h.pathY then Sparse.put r.hbY i d.clk else r.hbY
      judged := if hasBit r.judged i && Sparse.get 0 r.why i == 7 then putBit r.judged i false else r.judged })
    let x := if own then { x with lastT := max x.lastT h.key } else x
    ((x.hearAgain i).showHeard d.clk))
  let d := if h.lane = .D ∧ h.xferRdy ∧ h.state = 10 then d.beginXfer l else d
  let d := d.peerState l h
  if (d.lane l).st == .active && !h.pathY then
    let d := d.modLane l (·.modRdn (fun r => { r with
      votes := if h.state = 5 then putReport r.votes r.voted h.key d.clk true (i, h.digest, h.evid, h.evidCnt) else r.votes
      accs := ((List.range 4).filter (fun j => hasBit h.accuse j && !r.accs.any (fun a => a.1 == j && a.2.1 == i))).map
        (fun j => (j, i, d.clk)) ++ r.accs.filter (fun a => decide (d.clk < a.2.2 + 3000)) }))
    (d.accusations l).verdicts l
  else d

/-- A report of its own state reaches the witness: SUSPECT or RETIRED decides the lane's loss (R266). -/
def Dev.ownReport (d : Dev) (l : LaneId) (state cause : Nat) : Dev :=
  let d := d.modWit (·.wr (Reg.WIT_HB.STATE (laneIdx l)) state)
  if state = 6 ∨ state = 7 then d.decideLoss l cause 3 else d

/-- A valid heartbeat reaches the witness. -/
def Dev.witHears (d : Dev) (h : Heartbeat) : Dev :=
  let i := laneIdx h.lane
  let d := d.modWit (fun w => { w with
    hbAt := Sparse.put w.hbAt i d.clk, hb := Sparse.put w.hb i h
    votes := if h.state = 5 then putReport w.votes w.voted h.key d.clk true (i, h.digest, h.evid, h.evidCnt) else w.votes }.wr
      (Reg.WIT_HB.SEEN_Y i) 1)
  d.ownReport h.lane h.state h.cause

/-- HEARTBEAT_RECEIVE (R263): at lane `rx`, or at the witness for none. One with a failed CRC counts as missing; path Y and
its hub work only while the witness runs. -/
def execHeartbeatReceive (tm : Nat) (rx : Option LaneId) (h : Heartbeat) (crcOk : Bool) (s : State) :
    Host.Outcome State Fault Refusal :=
  s.act tm (fun _ d =>
    match rx with
    | some l =>
      if (d.lane l).powered && l != h.lane && (!h.pathY || d.wit.powered) then
        if crcOk then d.laneHears l h else d.incL l Reg.XLK_ERR.CRC
      else d
    | none => if d.wit.powered && h.pathY && crcOk then d.witHears h else d)

/-- The states of the other lanes from a decided LSTATE. -/
def Lane.seeAll (l : Lane) (me lstate : Nat) : Lane :=
  ((List.range 4).filter (· ≠ me)).foldl (fun l i => l.see i (lstate / 16 ^ i % 16)) l

/-- BEACON_RECEIVE (R264, R283): a lane takes the witness's states, master and level; in witnessless mode it lasts until
reset (R272). -/
def execBeaconReceive (tm : Nat) (l : LaneId) (pathY : Bool) (w : Beacon) (crcOk : Bool) (s : State) :
    Host.Outcome State Fault Refusal :=
  s.act tm (fun t d =>
    let x := d.lane l
    let route := pathY || allComps.any (fun c => d.driver c == some l)
    if x.powered && d.wit.powered && route then
      if !crcOk then d.incL l Reg.XLK_ERR.CRC
      else
        let d := d.modLane l (fun x => (x.modRdn (fun r => { r with
          beacon := some w, bcHist := (if r.bcHist.any (fun b => b.seq == w.seq) then r.bcHist else (w :: r.bcHist).take 32)
          beaconY := if pathY then some t else r.beaconY, beaconC := if pathY then r.beaconC else some t })).showHeard t)
        if x.flag Reg.RDN_STAT.WITNESSLESS then d
        else
          let d := d.modLane l (fun x => ((x.seeAll (laneIdx l) w.lstate).wr Reg.RDN_STAT.MASTER w.master).wr
            Reg.RDN_STAT.MASTER_VALID (bit w.masterValid))
          (d.laneLevel l w.dl).settle
    else d)

/-- The whole key of a status word's low 32 bits: the latest not after the time of the companions (R264). -/
def wholeKey (now low : Nat) : Nat := now - (now + 2 ^ 32 - low % 2 ^ 32) % 2 ^ 32

/-- STATUS_WORD_RECEIVE (R264, R266): at the witness, from a lane that drives a companion. Evidence bits come only with
heartbeats: a status word reports those of the heartbeat of the same key, or none. -/
def execStatusWordReceive (tm : Nat) (l : LaneId) (w : StatusWord) (crcOk : Bool) (s : State) : Host.Outcome State Fault Refusal :=
  s.act tm (fun t d =>
    if d.wit.powered && crcOk && allComps.any (fun c => d.driver c == some l) then
      let i := laneIdx l
      let key := wholeKey d.tcorrAny w.key
      let ev := match Sparse.look d.wit.hb i with
        | some h => (h.evid && h.key == key, h.evidCnt)
        | none => (false, 0)
      let d := d.modWit (fun v => ({ v with
        stAt := Sparse.put v.stAt i t
        votes := if w.state = 5 then putReport v.votes v.voted key t false (i, w.digest, ev.1, ev.2) else v.votes }.wr
          (Reg.WIT_HB.SEEN_C i) 1))
      d.ownReport l w.state (d.lane l).rdn.cause
    else d)

/-! ### Losses (R266) -/

/-- The witnessless lanes judge a silent peer (R273): heard on no path within 30 µs by itself or by a lane it hears. With two
active lanes a peer whose companion node showed it ACTIVE in the latest full cycle is not judged (R274). -/
def Dev.lanesJudge (d : Dev) (l : LaneId) : Dev :=
  let i := laneIdx l
  d.each allLanes (fun d q =>
    let x := d.lane q
    let act := x.activeView
    let heard := act.any (fun p => match x.freshHb p d.clk with
      | some h => hasBit h.heardX i
      | none => false)
    let shown := d.recActive q i == some true
    if q != l && x.powered && x.st == .active && x.flag Reg.RDN_STAT.WITNESSLESS && act.contains i && !x.hears i d.clk &&
        !heard && !(act.length == 2 && shown) then
      (d.modLane q (·.modRdn (·.judge i 7))).verdicts q
    else d)

/-- LANE_SILENT (R266, R273): no heartbeat on path Y and no status word for 30 µs, and no lane that reports hearing it; the
witness decides the loss, witnessless lanes publish their verdict. -/
def execLaneSilent (tm : Nat) (l : LaneId) (s : State) : Host.Outcome State Fault Refusal :=
  s.act tm (fun t d =>
    let i := laneIdx l
    if d.wit.powered then
      let w := d.wit
      let heard := (List.range 4).any (fun q => q != i && within w.hbAt q t 3000 &&
        (match Sparse.look w.hb q with
          | some h => hasBit h.heardX i
          | none => false))
      if w.rd (Reg.WIT_STAT.LSTATE i) = 5 ∧ !within w.hbAt i t 3000 ∧ !within w.stAt i t 3000 ∧ !heard then d.decideLoss l 7 1
      else d.lanesJudge l
    else d.lanesJudge l)

/-- COMPANION_REPORT (R17, R138, R266, R370): a companion's report of its release check, of the lockout of every
winding-driving bridge, of its timebase, or of its primary port; the condition it reports is read in the companion. -/
def execCompanionReport (tm : Nat) (c : CompId) (kind : CompReport) (s : State) : Host.Outcome State Fault Refusal :=
  s.act tm (fun _ d =>
    let x := d.comp c
    let by_ := if d.wit.powered then 1 else 3
    let lose := fun (cause : Nat) => match d.selected c with
      | some l => d.decideLoss l cause by_
      | none => d
    if !x.powered then d
    else match kind with
      | .releaseCheck => if x.flag (offFld false) || x.flag (offFld true) then lose 8 else d
      | .lockout =>
        let en := [false, true].filter (fun b => x.flag (Reg.PWM_CFG.EN (bit b)))
        if !en.isEmpty && en.all (fun b => x.lockedOut b) then d.driveLost c else d
      | .timebase => if x.flag Reg.CTB_STAT.FAIL then d.driveLost c else d
      | .portFail => if x.sw = .primary then lose 9 else d)

/-! ### Paths (R265, R279, R294) -/

/-- Both cross-link paths have failed: a bring-in that runs ends (R294), and lane D is not available (R279). -/
def Dev.pathsDone (d : Dev) : Dev :=
  if d.pathsFailed then
    let d := match d.wit.bring with
      | some b => if d.wit.powered && !b.opened && d.wit.rd (Reg.WIT_STAT.LSTATE 3) == 10 then d.decideLoss .D 0x0B 3 else d
      | none => d
    d.reLevel
  else d

/-- PATH_FAIL (R265): three intervals in a row without heartbeat or beacon on a path while it comes on the other. -/
def execPathFail (tm : Nat) (l : LaneId) (w : PathId) (s : State) : Host.Outcome State Fault Refusal :=
  s.act tm (fun _ d =>
    let r := (d.lane l).rdn
    if !(d.lane l).powered then d
    else match w with
      | .hbX p =>
        let i := laneIdx p
        if 3 ≤ Sparse.get 0 r.missX i ∧ !Sparse.get false r.failX i then
          ((d.modLane l (·.modRdn (fun r => { r with failX := Sparse.set false r.failX i true }))).pathFailed l false false
            (2 ^ i)).pathsDone
        else d
      | .hbY p =>
        let i := laneIdx p
        if 3 ≤ Sparse.get 0 r.missY i ∧ !Sparse.get false r.failY i then
          ((d.modLane l (·.modRdn (fun r => { r with failY := Sparse.set false r.failY i true }))).pathFailed l false true
            (2 ^ i)).pathsDone
        else d
      | .beaconY =>
        if 3 ≤ r.bcMissY ∧ !r.beaconYFail then
          (d.modLane l (·.modRdn (fun r => { r with beaconYFail := true }))).pathFailed l true true (2 ^ laneIdx l)
        else d
      | .beaconC =>
        if 3 ≤ r.bcMissC ∧ !r.beaconCFail then
          (d.modLane l (·.modRdn (fun r => { r with beaconCFail := true }))).pathFailed l true false (2 ^ laneIdx l)
        else d)

/-- PATH_X_FAIL and PATH_Y_FAIL follow the failed paths of a lane. -/
def Lane.showPaths (l : Lane) : Lane :=
  let any := fun (m : Sp Bool) => (List.range 4).any (fun i => Sparse.get false m i)
  (l.wr Reg.XLK_STAT.PATH_X_FAIL (bit (any l.rdn.failX))).wr Reg.XLK_STAT.PATH_Y_FAIL (bit (any l.rdn.failY))

/-- PATH_RECOVER (R265): 100 intervals in a row without a miss. -/
def execPathRecover (tm : Nat) (l : LaneId) (w : PathId) (s : State) : Host.Outcome State Fault Refusal :=
  s.act tm (fun _ d =>
    let r := (d.lane l).rdn
    let put := fun (f : Rdn → Rdn) => (d.modLane l (fun x => (x.modRdn f).showPaths)).showAvail
    if !(d.lane l).powered then d
    else match w with
      | .hbX p =>
        if Sparse.get false r.failX (laneIdx p) ∧ 100 ≤ Sparse.get 0 r.okX (laneIdx p) then
          put (fun r => { r with failX := Sparse.set false r.failX (laneIdx p) false })
        else d
      | .hbY p =>
        if Sparse.get false r.failY (laneIdx p) ∧ 100 ≤ Sparse.get 0 r.okY (laneIdx p) then
          put (fun r => { r with failY := Sparse.set false r.failY (laneIdx p) false })
        else d
      | .beaconY => if r.beaconYFail ∧ 100 ≤ r.bcOkY then put (fun r => { r with beaconYFail := false }) else d
      | .beaconC => if r.beaconCFail ∧ 100 ≤ r.bcOkC then put (fun r => { r with beaconCFail := false }) else d)

/-! ### Witnessless and unlinked operation (R272, R274) -/

/-- A lane enters witnessless mode (R272): no master, lane D not available, its request to the FLT_N stage whatever its own
state (R32), the level by its own view once its start is over, and, while active, its own masks. -/
def Dev.goWitless (d : Dev) (l : LaneId) : Dev :=
  if (d.lane l).flag Reg.RDN_STAT.WITNESSLESS then d
  else
    let d := d.modLane l (fun x => (((x.wr Reg.RDN_STAT.WITNESSLESS 1).wr Reg.RDN_STAT.D_AVAIL 0).wr
      Reg.RDN_STAT.MASTER_VALID 0).wr Reg.RDN_STAT.MASTER 0)
    let d := d.raise l 82 sevFault 0
    let low := decide (3 ≤ (d.lane l).rd Reg.RDN_STAT.DL) || d.wit.flag Reg.WIT_STAT.DEV_MINIMAL
    let d := (d.modWit (fun w => { w with fltL := Sparse.set false w.fltL (laneIdx l) low })).flt
    let d := if (d.lane l).inStart then d else d.ownLevel l
    (if (d.lane l).st = .active then d.sendMasks else d).settle

/-- WITNESSLESS_ENTRY (R272): the beacon missed on both routes for three intervals in a row. -/
def execWitnesslessEntry (tm : Nat) (l : LaneId) (s : State) : Host.Outcome State Fault Refusal :=
  s.act tm (fun _ d => if (d.lane l).powered && decide (3 ≤ (d.lane l).rdn.bcLost) then d.goWitless l else d)

/-- UNLINKED_ENTRY (R274): an active peer heard on no path whose companion node still sends status records: it is marked
unheard and counted as its record shows it. -/
def execUnlinkedEntry (tm : Nat) (l peer : LaneId) (s : State) : Host.Outcome State Fault Refusal :=
  s.act tm (fun t d =>
    let x := d.lane l
    let i := laneIdx peer
    if x.powered && x.st == .active && l != peer && x.rd (Reg.RDN_STAT.LSTATE i) == 5 && !x.hears i t && d.recSeen l i &&
        !hasBit x.rdn.unheard i then
      let u := putBit x.rdn.unheard i true
      let d := d.modLane l (fun x => (x.modRdn (fun r => { r with unheard := u })).wr Reg.RDN_STAT.UNLINKED 1)
      ((d.raise l 83 sevFault u).sendMasks).settle
    else d)

/-- SUSPECT_TIMEOUT (R261): 2 ms after its loss a SUSPECT lane enters RETIRED. -/
def execSuspectTimeout (tm : Nat) (l : LaneId) (s : State) : Host.Outcome State Fault Refusal :=
  s.actP tm (fun t d =>
    if (d.lane l).st = .suspect ∧ (d.lane l).rdn.suspectAt + 200000 ≤ t then
      d.retire l (d.lane l).bbx.committing.isNone
    else d)

/-- JOURNAL_RECORD_RECEIVE (R286): a powered lane stores a record it does not hold yet, and passes it to LOGQ. -/
def execJournalRecordReceive (tm : Nat) (l : LaneId) (r : JRec) (s : State) : Host.Outcome State Fault Refusal :=
  s.act tm (fun _ d => if (d.lane l).rdn.journal.contains r then d else d.takeJournal l r)

end Sys2Proof.Machine
end

