-- ==== Sys2Proof/Machine/ImageCheck.lean ====
section
/-!
DEFINITION. The checks of a configuration image at start (R66, R88, R129, R132, R140, R142, R155, R171, R174, R188, R207,
R223, R224, R240, R252, R259, R267, R292, R300, R377, and every register range marked "refused at start"), the
DETAIL of R442, and the activation periods of R482.
-/

namespace Sys2Proof.Machine

/-- Register words of an image go into the RWL fields of a register map (R436). -/
def writeRwl (m : RegMap) (ws : List (Nat × Nat)) : RegMap :=
  ws.foldl (fun m aw => ((fieldsAt aw.1).filter (fun f => f.acc == .rwl)).foldl (fun m f => m.set f (f.of aw.2)) m) m

/-! ### Ranges -/

/-- DETAIL for a lane register, for a companion register, and for a rule (R442). -/
def detailLane (f : Fld) : Nat := (f.addr - 0x40000000) / 4
def detailComp (f : Fld) : Nat := 0x8000 + (f.addr - 0x48000000) / 4
def detailRule (n : Nat) : Nat := 0xC000 + n

/-- A family of `n` like fields with one range. -/
def ranges (n lo hi : Nat) (f : Nat → Fld) : List (Fld × Nat × Nat) := (List.range n).map (fun i => (f i, lo, hi))

/-- The ranges of lane register fields marked "refused at start". -/
def laneRanges : List (Fld × Nat × Nat) :=
  [(Reg.LCTL_SETUP.ROLE, 0, 2), (Reg.CHE_SPEC_CFG.MODE, 0, 1), (Reg.CHE_SPEC_CFG.MAX_DEPTH, 0, 4),
   (Reg.CHE_SPEC_CFG.STAGE_LEAD, 20, 1000), (Reg.RDN_CFG.VOTE_LEN, 0, 64), (Reg.RDN_CFG.PROOF_MAX, 1, 255),
   (Reg.MEM_CFG.SCRUB_PASS, 10, 1000), (Reg.ARB_CFG.AGE_MAX, 4, 63), (Reg.BST_CFG.POLICY, 0, 2),
   (Reg.BBX_CFG.POST_MS, 10, 1000)] ++
  ranges 3 1 255 (fun i => Reg.BBX_RATE.RATE (i + 1)) ++
  [(Reg.JLF_CYCLE.CYCLE_US, 125, 4000), (Reg.JLF_CYCLE.NSLOTS, 1, 2048), (Reg.JLF_ET.ET_LEN, 0, 3999),
   (Reg.JLF_ET.ET_MAX, 1, 255), (Reg.JLF_CLAIM_CFG.NCLAIM, 1, 4), (Reg.JSY_CFG.SYNC_MIN, 1, 7), (Reg.JSY_CFG.LOSS_N, 1, 15),
   (Reg.JSY_CFG.OFS_LIM, 1, 4095), (Reg.JSY_CFG.RATE_LIM, 1, 4095), (Reg.RNG_CFG.BATCH, 1, 15),
   (Reg.RNG_CFG.APPLY_LEAD, 10, 500)] ++
  ranges 8 4 12 Reg.RNG_SIZE.LOG ++
  [(Reg.RWP_CFG.MAX_RETRY, 1, 15), (Reg.RWP_CFG.MAX_OUT, 1, 16), (Reg.RWP_CFG.HOST_TMO, 1, 1000)]

/-- The ranges of companion register fields marked "refused at start" (R129, R132, R140, R142, R207). -/
def compRanges : List (Fld × Nat × Nat) :=
  ranges 2 1000 12500 Reg.PWM_CFG.PERIOD ++ ranges 2 64 6400 Reg.PWM_DT.DT ++ ranges 2 0 8 Reg.PWM_LIMIT.BOOST ++
  ranges 2 30 70 Reg.PWM_LIMIT.TDER ++ [(Reg.MFE_CFG.DEC, 0, 4), (Reg.MFE_VCFG.BRS_RANGE, 0, 2)] ++
  ranges 4 30 900 Reg.SNT_CFG.TICK ++ ranges 4 1 6 Reg.SNT_CFG.NIB ++ ranges 4 1 63 Reg.SNT_CFG.STALE ++
  ranges 2 0 3 Reg.POS_CFG.INC ++ ranges 2 1 15 Reg.POS_SPD_CFG.STILL_WINDOWS ++ ranges 2 1 15 Reg.POS_ABS_CFG.PLAUS_N ++
  ranges 8 1 1000 Reg.SIO_IN_CFG.DT ++ ranges 2 1 255 Reg.SBC_CFG.PULL ++ ranges 2 16 127 Reg.SBC_CFG.ECO ++
  ranges 2 1 127 Reg.SBC_CFG.OPEN_TH ++ [(Reg.SBC_TEST_CFG.TEST_US, 50, 400), (Reg.SBC_TEST_CFG.PERIOD, 1, 1000),
   (Reg.JMC_CFG.PI, 4, 100)] ++ ranges 16 1 1000 Reg.FQ_CFG.IDLE

/-! ### The image as it would stand -/

/-- An image under check: the lane as it would be set up, and each companion with its node and table. -/
structure Draft where
  lane  : Lane
  comps : List (Nat × Comp)

/-- The draft of an image. -/
def draftOf (s : Setup) : Draft :=
  { lane := { regs := writeRwl [] s.laneRegs }
    comps := (List.range 3).map (fun i =>
      let tab := s.tables.getD i []
      (s.nodes.getD i 0, { regs := writeRwl [] (s.compRegs.getD i [])
                           lower := { table := (tab.zip (List.range tab.length)).map (fun e => (e.2, e.1)) } })) }

/-- A breach with its DETAIL where a condition holds. -/
def breach (p : Bool) (detail : Nat) : List Nat := if p then [detail] else []

/-- Fields outside their ranges. -/
def outOfRange (m : RegMap) (rs : List (Fld × Nat × Nat)) (detail : Fld → Nat) : List Nat :=
  (rs.filter (fun r => decide (m.get r.1 < r.2.1) || decide (r.2.2 < m.get r.1))).map (fun r => detail r.1)

/-- Registers of the lane whose fields do not go together. -/
def Lane.regBreaches (l : Lane) : List Nat :=
  outOfRange l.regs laneRanges detailLane ++
  breach (decide (l.rd Reg.CHE_SLACK_CFG.SLACK_HI ≤ l.rd Reg.CHE_SLACK_CFG.SLACK_LO)) (detailLane Reg.CHE_SLACK_CFG.SLACK_LO) ++
  breach (l.flag Reg.CHX_CFG.INJ_EN && l.rd Reg.CHX_CFG.INJ_PERIOD == 0) (detailLane Reg.CHX_CFG.INJ_PERIOD) ++
  (List.range 32).flatMap (fun k => breach (l.partKind k == 7 ||
    ((l.partKind k == 3 || l.partKind k == 6) && ((List.range 16).filter (l.inMask k)).length != 1))
      (detailLane (Reg.CHE_PART_ATTR.EN k))) ++
  (List.range 8).flatMap (fun q =>
    let a := l.rd (Reg.MEM_RXQ_BASE.BASE q) * 8
    breach (l.rd (Reg.MEM_RXQ_LEN.RECORDS q) != 0 && !(List.range 32).any (fun k =>
      l.partKind k == 2 && l.inPart k a && l.inPart k (a + 7 + l.rd (Reg.MEM_RXQ_LEN.RECORDS q) * 264)))
      (detailLane (Reg.MEM_RXQ_BASE.BASE q)))

/-- First and last-plus-one address of a partition. -/
def Lane.partSpan (l : Lane) (k : Nat) : Nat × Nat :=
  (l.rd (Reg.CHE_PART_BASE.BASE k) * 4096, (l.rd (Reg.CHE_PART_BASE.BASE k) + l.rd (Reg.CHE_PART_ATTR.SIZE k) + 1) * 4096)

/-- Two spans overlap. -/
def overlap (a b : Nat × Nat) : Bool := decide (a.1 < b.2) && decide (b.1 < a.2)

/-- Some two spans of a list overlap. -/
def anyOverlap : List (Nat × Nat) → Bool
  | [] => false
  | a :: t => t.any (overlap a) || anyOverlap t

/-- The enabled tasks. -/
def Lane.tasksOn (l : Lane) : List Nat := (List.range 16).filter (fun n => l.flag (Reg.CHE_TASK_CFG.EN n))

/-- Task `n` stands in the mask of some partition of kind OUTPUT, enabled or not (R66). -/
def Lane.namesOutput (l : Lane) (n : Nat) : Bool := (List.range 32).any (fun k => l.partKind k == 6 && l.inMask k n)

/-- Partitions and tasks that do not go together (R66, R88). "Enabled" narrows only the lines of R66 that say so; the
CODE total too counts enabled partitions alone (log 108). -/
def Lane.partBreaches (l : Lane) : List Nat :=
  let en := (List.range 32).filter (fun k => l.flag (Reg.CHE_PART_ATTR.EN k))
  let code := (en.filter (fun k => decide (l.partKind k ≤ 1))).foldl (fun a k => a + ((l.partSpan k).2 - (l.partSpan k).1)) 0
  let src := fun n => l.rd (Reg.CHE_TASK_CFG.SRC n)
  let outs := (List.range 16).filter (fun n => l.namesOutput n)
  let spec := (List.range 16).filter (fun n => l.flag (Reg.CHE_TASK_CFG.SPEC n))
  breach (anyOverlap (en.map l.partSpan) || (List.range 32).any (fun k => decide (0x400000 < (l.partSpan k).2)) ||
    decide (0x100000 < code) ||
    l.tasksOn.any (fun n => ((l.partsOf n 0).isEmpty && (l.partsOf n 1).isEmpty) || (l.partsOf n 5).isEmpty) ||
    outs.any (fun n => decide (2 ≤ src n)) ||
    [0, 1].any (fun b => decide (1 < (outs.filter (fun n => src n == b)).length))) (detailRule 66) ++
  breach (decide (1 < spec.length) || spec.any (fun n => decide (2 ≤ src n) || !l.namesOutput n)) (detailRule 88)

/-- Registers of a companion whose fields do not go together (R129, R171, R224, R259, R186). -/
def Comp.regBreaches (x : Comp) (keyOk : Nat → Bool) : List Nat :=
  outOfRange x.regs compRanges detailComp ++
  [0, 1].flatMap (fun b => breach (x.rd (Reg.PWM_CFG.PERIOD b) % 2 == 1) (detailComp (Reg.PWM_CFG.PERIOD b)) ++
    breach ((decide (x.rd (Reg.POS_CFG.INC b) ≤ 2) && x.rd (Reg.POS_CFG.ABS b) == x.rd (Reg.POS_CFG.INC b) + 1) ||
      (x.flag (Reg.POS_CFG.EN b) && x.rd (Reg.POS_CFG.LINES b) == 0)) (detailComp (Reg.POS_CFG.EN b))) ++
  breach ([0, 1].any (fun p => x.flag (Reg.POS_PRB_CFG.EN p) && x.rd (Reg.POS_PRB_CFG.EDGE p) == 0))
    (detailComp (Reg.POS_PRB_CFG.EN 0)) ++
  breach (decide (x.rd Reg.JMC_CFG.ACTION_OFS < x.rd Reg.JMC_CFG.PI)) (detailComp Reg.JMC_CFG.ACTION_OFS) ++
  breach ((!x.flag Reg.JMC_AUTH.EN && x.flag Reg.JMC_AUTH.ET_AUTH) || (x.flag Reg.JMC_AUTH.EN && !keyOk (x.rd Reg.JMC_AUTH.TXKEY)) ||
    (List.range 4).any (fun k => x.flag (Reg.JMC_AUTH.RXKEYS k) && !keyOk k))
      (detailComp Reg.JMC_AUTH.EN)

/-- L_F of R155 in ns. -/
def filterLatency (dec : Nat) : Nat := 75 * (16 * 2 ^ dec - 1) + 125

/-- Activation offsets, positions and speed windows of a companion that do not go together (R155, R171, R174, R188). -/
def Comp.frontBreaches (x : Comp) (l : Lane) : List Nat :=
  let used := fun b => l.tasksOn.any (fun n => l.rd (Reg.CHE_TASK_CFG.SRC n) == b)
  let both := fun (p : Nat → Bool) => p 0 || p 1
  let k := fun b => if x.rd (Reg.POS_CFG.INC b) = 3 then 4 else 4096
  breach (x.rd Reg.MFE_CFG.ALIGN == 1 && both (fun b => used b &&
    decide (x.rd (Reg.CTB_ACT.OFS b) * 10 < filterLatency (x.rd Reg.MFE_CFG.DEC)))) (detailRule 155) ++
  breach (both (fun b => decide (x.rd (Reg.POS_CFG.LINES b) * k b ≤ x.rd (Reg.POS_IDX_REF.REF b)))) (detailRule 171) ++
  breach (both (fun b => used b && x.flag (Reg.POS_CFG.EN b) && decide (x.rd (Reg.CTB_ACT.OFS b) < 35))) (detailRule 174) ++
  breach (both (fun b =>
    let w := x.rd (Reg.POS_SPD_CFG.SPD_N b) * x.rd (Reg.PWM_CFG.PERIOD b)
    x.flag (Reg.POS_CFG.EN b) && (decide (w < 1000) || decide (1000000 < w)))) (detailRule 188)

/-! ### Schedule tables (R223, R224, R240, R252, R259) -/

/-- d(n) of R213 at the slower port, in tenths of a tick. -/
def Comp.dur10 (x : Comp) (n : Nat) (auth : Bool) : Nat := wireBytes n auth * x.slowByte10

/-- An entry does not fit its slot as a sent frame, or as a received one (R224), in tenths of a tick. -/
def Comp.txUnfit (x : Comp) (e : Nat) : Bool :=
  decide (entLen e * 10 < (x.rd Reg.JMC_CFG.ACTION_OFS + x.rd Reg.JMC_CFG.PI) * 10 + x.dur10 (entPay e) (entAuth e) + 12 * x.slowByte10)
def Comp.rxUnfit (x : Comp) (e : Nat) : Bool :=
  let dly := max (entDelay e false) (entDelay e true)
  let need := if entRole e = 2 ∧ entDir e = 2 then x.dur10 12 (entAuth e) + 240 + x.dur10 60 (entAuth e) else x.dur10 (entPay e) (entAuth e)
  decide (entLen e * 10 < (x.rd Reg.JMC_CFG.ACTION_OFS + x.rd Reg.JMC_CFG.PI + dly) * 10 + need)

/-- The combination of DIR and ROLE is assigned (R221). -/
def entAssigned (e : Nat) : Bool :=
  match entDir e with
  | 0 => entRole e == 0
  | 1 => decide (entRole e ≤ 2)
  | 2 => decide (entRole e ≤ 4)
  | _ => entRole e == 0

/-- The bits that R220 and R221 declare 0 are 0. -/
def entZeros (e : Nat) : Bool :=
  match entDir e with
  | 0 => entNode e == 0 && entPay e == 0 && e % 2 ^ 26 == 0
  | 1 => e % 2 ^ 18 == 0
  | 2 => match entRole e with
    | 0 => e % 4 == 0
    | 1 => !hasBit e 4
    | 2 => e % 32 == 0
    | 3 => e % 32 == 0
    | _ => e % 4 == 0
  | _ => true

/-- An entry that R223 refuses in the table of node `own`. -/
def Comp.badEntry (x : Comp) (l : Lane) (own e : Nat) : Bool :=
  decide (entLen e < 80) || decide (6400 < entLen e) || decide (256 < entPay e) || !entAssigned e || !entZeros e ||
  (entIsRx e 1 && !(l.flag (Reg.CHE_TASK_CFG.EN (entRxTask e)) && l.rd (Reg.CHE_TASK_CFG.SRC (entRxTask e)) == 2)) ||
  (entIsTx e && entNode e != own) || (entDir e == 2 && entNode e == own) ||
  (entTxData e && ((decide (48 < entPay e) && !x.flag (Reg.FQ_CFG.EN (8 + entTxQueue e))) || !l.hasOutput (entTask e)))

/-- A SPARE entry that R252 refuses. -/
def Comp.badSpare (x : Comp) (e : Nat) : Bool :=
  entIsSpare e && (decide (11 < e % 32) || entNode e % 2 ^ (e % 32) != 0 || x.txUnfit e || x.rxUnfit e)

/-- The breaches of a companion's schedule table. -/
def Comp.tableBreaches (x : Comp) (l : Lane) (own : Nat) : List Nat :=
  let es := (List.range l.nslots).map x.ent
  let sps := (es.filter (entIsRx · 2)).length
  let syncs := ((es.filter (fun e => entTxSync e || entIsRx e 3)).map entNode).eraseDups
  breach (decide (l.cycleLen < x.etStart l + l.rd Reg.JLF_ET.ET_LEN * 100) || es.any (x.badEntry l own) || decide (1 < sps) ||
    (decide (sps = 1) != l.specTask.isSome) || decide (8 < syncs.length)) (detailRule 223) ++
  breach (es.any (fun e => (entIsTx e && x.txUnfit e) || (entDir e == 2 && x.rxUnfit e))) (detailRule 224) ++
  breach (l.flag Reg.JLF_START.CS_EN && !es.any entTxSync) (detailRule 240) ++
  breach (es.any x.badSpare) (detailRule 252) ++
  breach (!x.flag Reg.JMC_AUTH.EN && es.any (fun e => entDir e != 0 && entAuth e)) (detailRule 259)

/-! ### Vote, transfer and rings (R267, R292, R300) -/

/-- The voted task and its unit are not the same in every lane (R267). -/
def Draft.voteBreach (g : Draft) : Bool :=
  let l := g.lane
  let src := l.rd (Reg.CHE_TASK_CFG.SRC (l.rd Reg.RDN_CFG.VOTE_TASK))
  let keyOf := fun (p : Nat × Comp) => (p.2.rd (Reg.PWM_CFG.PERIOD src), p.2.rd (Reg.PWM_CFG.PHASE src))
  l.flag Reg.RDN_CFG.VOTE_EN && (decide (2 ≤ src) || decide (1 < (g.comps.map keyOf).eraseDups.length))

/-- The transfer does not fit 150 × P_min, or XFER_LEN is 0 with an XFER partition enabled (R292). -/
def Draft.xferBreach (g : Draft) : Bool :=
  let l := g.lane
  let n := l.xferParts.length
  let len := l.rd Reg.RDN_CFG.XFER_LEN
  n != 0 && (len == 0 || g.comps.any (fun p => (p.2.xferPeriods l).any (fun q => decide (150 * q.2 < (256 + n * len * 64) * 100))))

/-- The ring control area and the seventeen rings in host memory (R300, R301). -/
def Lane.hostSpans (l : Lane) : List (Nat × Nat) :=
  (l.rca, l.rca + 384) :: (List.range 8).flatMap (fun r =>
    let base := l.ringBase r
    let size := 2 ^ l.rd (Reg.RNG_SIZE.LOG r) * 64
    (List.range (if 5 ≤ r then 4 else 1)).map (fun i => (base + i * size, base + (i + 1) * size)))

/-- Every breach of an image in checking order, as DETAIL codes: lane registers, companion registers, then rules. -/
def Draft.breaches (g : Draft) (keyOk : Nat → Bool) : List Nat :=
  g.lane.regBreaches ++ g.comps.flatMap (fun p => p.2.regBreaches keyOk) ++ g.lane.partBreaches ++
  g.comps.flatMap (fun p => p.2.frontBreaches g.lane) ++ g.comps.flatMap (fun p => p.2.tableBreaches g.lane p.1) ++
  breach g.voteBreach (detailRule 267) ++ breach g.xferBreach (detailRule 292) ++
  breach (g.lane.flag Reg.RNG_CFG.EN && anyOverlap g.lane.hostSpans) (detailRule 300)

/-- The first breach of an image, if any (R377). -/
def ruleBroken (s : Setup) (keyOk : Nat → Bool) : Option Nat := ((draftOf s).breaches keyOk).head?

end Sys2Proof.Machine
end

