-- ==== Sys2Proof/Machine/Startup.lean ====
section
/-!
DEFINITION. Start-up, calibration and self-test, supplies and temperature (R374 to R394, R436, R458 to R463).
-/
namespace Sys2Proof.Machine

/-! ### Loads at a start (R376, R398, R435) -/

/-- The wear record that a start uses: the copy with the higher generation (R398). -/
def Mram.bestWear (m : Mram) : WearRec :=
  let a : WearRec := Sparse.get {} m.copies 0
  let b : WearRec := Sparse.get {} m.copies 1
  if hasBit m.wearLost 0 then b else if hasBit m.wearLost 1 then a else if a.gen < b.gen then b else a

/-- A lane's registers loaded from its wear record (R435 domain LW). -/
def Lane.loadWear (l : Lane) : Lane :=
  let w := l.mram.bestWear
  let l := { l with mram := { l.mram with wear := w, dirty := none }, regs := l.regs.load w.regs wearLaneAddr }
  let used := ((List.range 64).filter (fun k => decide (64 ≤ l.rd (Reg.MEM_BANK_STAT.PHYS k)))).length
  (l.wr Reg.MEM_STAT.BANKS_LEFT (4 - used)).assignRoles

/-- The capsule registers read from the headers (R409, R435 domain LM); a capsule frozen and never committed is TORN. -/
def Dev.loadCapsules (d : Dev) (l : LaneId) : Dev :=
  [1, 2, 3, 4].foldl (fun d k =>
    let c := Sparse.get {} (d.lane l).bbx.caps k
    if c.frozen && !c.bodyDone then
      let torn : Capsule := { c with state := 0, frozen := false, torn := true }
      (d.modLane l (fun x => { x with bbx := { x.bbx with caps := Sparse.set {} x.bbx.caps k torn } }.wr
        (Reg.BBX_CAP_STAT.TORN (k - 1)) 1)).raise l 114 sevFault
        (k - 1)
    else
      d.modLane l (fun x => ((((x.wr (Reg.BBX_CAP_STAT.STATE (k - 1)) c.state).wr (Reg.BBX_CAP_STAT.FIRST (k - 1))
        (bit c.first)).wr (Reg.BBX_CAP_STAT.HOLDUP (k - 1)) (bit c.holdup)).wr (Reg.BBX_CAP_STAT.SUMMARY (k - 1))
        (bit c.sent)).wr (Reg.BBX_CAP_STAT.SERIAL (k - 1)) c.serial)) d

/-- RDN_PROOF.AGE: the whole hours since the latest completed proof by the retention count (R296). -/
def Wit.proofAge (w : Wit) : Nat := min (((w.ret + 2 ^ 48 - w.proofAt) % 2 ^ 48) / (32768 * 3600)) 1023

/-- What a lane takes from the vault at its start (R288, R373, R435 domains LP and LV): epoch, proof record, and the
source of the latest wake. -/
def Dev.loadVault (d : Dev) (l : LaneId) : Dev :=
  if d.wit.powered then
    d.modLane l (fun x =>
      let x := { x with epoch := d.wit.rd Reg.WIT_EPOCH.EPOCH }
      let age := if d.wit.proof = 0 then 0 else d.wit.proofAge
      (((((x.wr Reg.PWR_EPOCH.EPOCH x.epoch).wr Reg.RDN_PROOF.RESULT d.wit.proof).wr Reg.RDN_PROOF.AGE age).wr
        Reg.RDN_PROOF.FAIL_STEP d.wit.proofStep).wr Reg.PWR_WAKE_STAT.SRC d.pwr.src).wr Reg.PWR_WAKE_STAT.ADDR d.pwr.addr)
  else d

/-- FUSE_LOAD (R376, R414, R433): fuses, identity and wear record of a lane; in BLANK, MANUFACTURE and FIELD_RETURN its LANE_IO
pads are released as soon as the fuses are loaded. -/
def Dev.loadStart (d : Dev) (l : LaneId) : Dev :=
  let d := d.modLane l (fun x => (((x.loadFuses.loadWear.wr Reg.LCTL_ID.LANE (laneIdx l)).wr Reg.LCTL_ID.STEP_L
    x.fuses.stepL).wr Reg.LCTL_ID.STEP_N x.fuses.stepN))
  let d := (d.loadVault l).loadCapsules l
  if (d.lane l).life = 0 ∨ (d.lane l).life = 1 ∨ (d.lane l).life = 4 then d.padRelease l 0 else d

/-- A lane enters BOOT with a reset cause (R374, R386); the setup lock of its companion opens where R438 says so. -/
def Dev.enterBoot (d : Dev) (l : LaneId) (cause : Nat) (st : StartSt) : Dev :=
  let d := d.modLane l (fun x => { x.fresh cause 0 .boot with start := st })
  let d := match homeComp l with
    | some c => if (d.comp c).sw = SwPos.primary ∧ !(d.comp c).quarP then d.modComp c (fun y => { y with locked := false }) else d
    | none => d
  let d := ((d.setSt l .boot).decideState l 1).noComp
  ((d.loadStart l).padView l).discont l

/-! ### Failed starts (R385, R386) -/

/-- LCTL_START_CAUSE: the cause, the state the check failed in and the detail (R385). -/
def Lane.startCause (x : Lane) (cause detail : Nat) : Lane :=
  ((x.wr Reg.LCTL_START_CAUSE.CAUSE cause).wr Reg.LCTL_START_CAUSE.STATE (laneStCode x.st)).wr Reg.LCTL_START_CAUSE.DETAIL detail

/-- A failing check of lane D (R122, R290, R294, R295): the cause is recorded and LCTL_START_FAIL raised. At a bring-in lane D is
lost with START_FAIL; a proof goes on to its end. Lane D neither counts nor retries its starts (log 115). -/
def Dev.startFailD (d : Dev) (cause detail : Nat) : Dev :=
  let d := d.modLane .D (·.startCause cause detail)
  let d := d.raise .D 0 sevFault (d.lD.regs.word 0x4000000C)
  if d.lD.start.purpose = 2 then d.decideLoss .D 0x0B 3 else d

/-- START_FAIL (R385, R386): cause, state and detail recorded and kept in the wear record, LCTL_START_FAIL raised; a
count below 3 retries from BOOT, a count of 3 or more enters MINIMAL. -/
def Dev.startFail (d : Dev) (l : LaneId) (cause detail : Nat) : Dev :=
  let x := (d.lane l).startCause cause detail
  let x := (x.inc Reg.LCTL_START_CNT.COUNT).wr Reg.LCTL_START_CNT.CLEAN_S 0
  let n := x.rd Reg.LCTL_START_CNT.COUNT
  let d := (d.setLane l x).raise l 0 sevFault (x.regs.word 0x4000000C)
  let d := d.writeWear l
  if n < 3 then d.enterBoot l 3 { tS := some d.clk, tS0 := x.start.tS0 }
  else
    let d := (d.setSt l .minimal).decideState l 8
    (d.raise l 1 sevFault n).padRelease l 0

/-! ### Power-up (R13, R374) -/

/-- COMPANION_POWER_UP (R13, R366): VDDA rises; the switch comes up PRIMARY and the pad groups latch. Where the record of the
running witness differs, the pads stay held until the switch-control handshake resumes. Its fuses hold stepping B0. -/
def Dev.companionUp (d : Dev) (c : CompId) : Dev :=
  if (d.comp c).powered then d
  else
    let other := d.wit.powered && (d.wit.rd (Reg.WIT_SW.POS (compIdx c)) != 0 || d.wit.flag (Reg.WIT_SW.QUAR (compIdx c)))
    d.setComp c (((({ powered := true, goodAt := some d.clk, handshake := other } : Comp).wr Reg.CMPS_ID.POSITION (compIdx c)).wr
    Reg.CMPS_ID.STEP_L 2).wr Reg.CMPS_ID.STEP_N 0)

/-- The witness registers that the vault keeps (R453 domain WV). -/
def witVaultAddr (a : Nat) : Bool :=
  a == 0x4C000024 || a == 0x4C000030 || a == 0x4C000038 || (decide (0x4C000080 ≤ a) && decide (a < 0x4C0000C0))

/-- The witness without its supply: only the vault's content is left. -/
def Wit.lose (w : Wit) : Wit :=
  { powered := false, regs := w.regs.pick witVaultAddr, journal := w.journal, image := w.image, proof := w.proof
    proofStep := w.proofStep, proofDigest := w.proofDigest, proofAt := w.proofAt, summs := w.summs, cert := w.cert
    keys := w.keys, wear := w.wear, tEntry := w.tEntry, nEntry := w.nEntry, retMark := true }

/-- WITNESS_POWER_ON (R371, R373, R374): the witness starts, reads the vault, advances the epoch after the lost count and
releases the gating. -/
def execWitnessPowerOn (tm : Nat) (s : State) : Host.Outcome State Fault Refusal :=
  s.act tm (fun _ d =>
    if d.wit.powered then d
    else
      let d := d.modWit (fun w => { w.lose with powered := true, retRun := true, retMark := true }.wr Reg.WIT_ID.STEP_L 2)
      let d := d.modWit (fun w => w.wr (Reg.WIT_STAT.LSTATE 3) (if w.proof = 1 ∧ !d.lD.powered then 9 else laneStCode d.lD.st))
      let d := if d.lD.powered then d else d.modLane .D (fun x => { x with st := if d.wit.proof = 1 then .spareCold else .off })
      (d.beginStart 1 0).raiseW 128 sevDiag ((d.wit.rd Reg.WIT_EPOCH.EPOCH) + 1))

/-- The fuse words' copies agree and the life-cycle bits form a pattern (R376). -/
def Lane.fusesOk (x : Lane) : Bool := !x.fuses.bad && (lifeOf x.fuses.life).isSome

/-- SUPPLY_GOOD (R374, R376): a lane's and its companion's supplies are good after the witness's release: t_S, BOOT, and
the fuse load, which fails the start where the copies disagree or the life-cycle bits form no pattern. A companion whose supply
returns under a powered lane comes up again (R13, R459). -/
def execSupplyGood (tm : Nat) (l : LaneId) (fuseOk : Bool) (s : State) : Host.Outcome State Fault Refusal :=
  s.act tm (fun t d =>
    match homeComp l with
    | none => d
    | some c =>
      if d.wit.powered && d.wit.release && (d.lane l).powered && !(d.comp c).powered then
        let d := (d.companionUp c).noComp
        (if (d.lane l).st = .boot then d else d.nodeStart c).settle
      else if d.wit.powered && d.wit.release && !(d.lane l).powered then
        let d := (d.companionUp c).modLane l (fun x => { x with fuses := { x.fuses with bad := !fuseOk } })
        let d := d.enterBoot l (if d.pwr.src = 1 then 1 else 2) { tS := some t, tS0 := some t }
        if (d.lane l).fusesOk then d else d.startFail l 1 0
      else d)

/-- COMPANION_LOCK_TIMEOUT (R375, R385): by t_S + 5 ms the companion's timebase is not locked or the primary port not
up. -/
def execCompanionLockTimeout (tm : Nat) (l : LaneId) (s : State) : Host.Outcome State Fault Refusal :=
  s.act tm (fun t d =>
    match homeComp l, (d.lane l).start.tS with
    | some c, some tS =>
      if (d.lane l).powered && (d.lane l).st == .boot && decide (tS + 500000 ≤ t) && !(d.comp c).running then
        d.startFail l 5 0
      else d
    | _, _ => d)

/-! ### BOOT (R377, R417 to R420, R436) -/

/-- Whether image slot `i` of a lane verifies (R419, R420): header, key, and in PRODUCTION the rollback counter; with the
verdicts of its signature and hash. -/
def Lane.slotOk (l : Lane) (i : Nat) (sig hash : Bool) : Bool :=
  let w := l.imgWord i
  let key := w 1 % 256
  let life := l.life
  let keyOk := l.rootOk key || (key == 0xF && (life == 1 || life == 4))
  sig && hash && keyOk && w 0 == 0x52530001 && w 1 / 256 == 0 && decide (w 2 ≤ 64) && decide (w 4 ≤ 392960) &&
    !hasBit l.mram.imgLost i && (life != 3 || decide (l.rd Reg.LCS_SVN.COUNT ≤ w 2))

/-- The slot a lane selects among those that verify (R420): higher SVN, then higher BUILD, then A; the other verifying
slot after two failed starts. -/
def Lane.selectSlot (l : Lane) (okA okB : Bool) : Option Nat :=
  let better := if l.imgWord 0 2 ≠ l.imgWord 1 2 then decide (l.imgWord 1 2 < l.imgWord 0 2)
    else decide (l.imgWord 1 3 ≤ l.imgWord 0 3)
  match okA, okB with
  | false, false => none
  | true, false => some 0
  | false, true => some 1
  | true, true =>
    let first := if better then 0 else 1
    some (if 2 ≤ l.rd Reg.LCTL_START_CNT.COUNT then 1 - first else first)

/-- LCTL_SETUP.LOCK set (R436, R438): in the lane and, where it drives a companion as its primary lane, there too. -/
def Dev.lockSetup (d : Dev) (l : LaneId) : Dev :=
  if (d.lane l).flag Reg.LCTL_SETUP.LOCK then d
  else
    let d := d.modLane l (fun x => ((x.wr Reg.LCTL_SETUP.LOCK 1).wr Reg.LCTL_STATUS.LOCKED 1).wr Reg.LCTL_STATUS.ROLE
      (x.rd Reg.LCTL_SETUP.ROLE))
    let d := match d.reaches l with
      | some c => d.modComp c (fun y => { y with locked := true })
      | none => d
    d.raise l 6 sevTrace 0

/-- The Gnomon writes every RWL field of the lane and of its adopted companion from the image, loads the schedule table
and the fabric keys, and sets the lock (R426, R436, R438). -/
def Dev.writeSetup (d : Dev) (l : LaneId) (img : Setup) : Dev :=
  let d := d.modLane l (fun x => { x with regs := writeRwl x.regs img.laneRegs, image := img.digest
                                          ring := { x.ring with lastRsp := d.clk }
                                          start := { x.start with img := some img, svn := img.svn } })
  let d := d.modLane l (fun x => x.wr Reg.CHX_STAT.SPLIT (x.rd Reg.CHX_CFG.SPLIT))
  let d := match d.reaches l with
    | some c => d.modComp c (fun y =>
        let y := if y.locked then y else { y with regs := writeRwl y.regs (img.compRegs.getD (compIdx c) []) }
        { y with lower := { y.lower with table := (d.lane l).tableOf c []
                                         keys := (d.lane l).mram.keys } })
    | none => d
  d.lockSetup l

/-- The companion's wear-record registers are loaded at its primary lane's first CALIB, after lane D's vault entries were
merged (R399, R453). -/
def Dev.mergeWear (d : Dev) (l : LaneId) : Dev :=
  match homeComp l with
  | some c =>
    let extra := Sparse.get [] d.wit.wear (compIdx c)
    let x := d.lane l
    let comp := if d.wit.powered && !extra.isEmpty then RegMap.compWear extra x.mram.wear.comp else x.mram.wear.comp
    let d := d.setLane l { x with mram := { x.mram with wear := { x.mram.wear with comp := comp } } }
    if (d.comp c).calRun then d
    else d.modComp c (fun y => { y with regs := y.regs.load comp wearCompAddr })
  | none => d

/-- The lowest-indexed lane that has completed BOOT writes the vault copy of an image that differs (R289, R377). -/
def Dev.vaultCopy (d : Dev) (l : LaneId) (img : Setup) : Dev :=
  if d.wit.powered && d.wit.image.map Setup.digest != some img.digest then
    let start := match d.wit.copying with
      | some (_, r) => decide (laneIdx l < laneIdx r)
      | none => true
    if start then d.modWit (fun w => ({ w with copying := some (d.clk, l) }.wr Reg.WIT_VAULT.COPYING 1).wr
      Reg.WIT_VAULT.IMG_OK 0)
    else d
  else d

/-- BOOT_COMPLETE (R377): the checks of BOOT in order, each failing the start with its cause; then setup, lock, vault copy,
fabric LISTEN and CALIB. In BLANK and SCRAPPED the lane stays in BOOT (R382). -/
def execBootComplete (tm : Nat) (l : LaneId) (o : BootObs) (s : State) : Host.Outcome State Fault Refusal :=
  s.act tm (fun _ d =>
    if (d.lane l).powered && (d.lane l).st == .boot && l != .D then
      let d := if (d.lane l).rdn.beacon.isNone then d.goWitless l else d
      let d := d.lifeTransition l o.certSig
      let x := d.lane l
      if !x.fusesOk then d.startFail l 1 0
      else if x.life = 0 ∨ x.life = 5 then d
      else if !o.supOk then d.startFail l 2 0
      else if !o.mramOk || x.mram.trimsLost || x.mram.wearLost == 3 then d.startFail l 0x0C 0
      else
        let okA := x.slotOk 0 o.sigA o.hashA
        let okB := x.slotOk 1 o.sigB o.hashB
        let d := d.modLane l (fun x => (x.wr Reg.LCS_IMG.OK_A (bit okA)).wr Reg.LCS_IMG.OK_B (bit okB))
        match x.selectSlot okA okB with
        | none => d.startFail l 3 0
        | some i =>
          let img := if i = 0 then o.imgA else o.imgB
          let d := d.wrL l Reg.LCS_IMG.SEL i
          match ruleBroken img (fun k => (Sparse.look x.mram.keys k).isSome) with
          | some detail => d.startFail l 4 detail
          | none =>
            let d := (d.writeSetup l img).vaultCopy l img
            let d := d.mergeWear l
            let d := match d.adopted l with
              | some c => d.nodeStart c
              | none => d
            (d.setSt l .calib).decideState l 2
    else d)

/-- SETUP_LOCK (R436): the Gnomon sets LCTL_SETUP.LOCK in BOOT; in BLANK and SCRAPPED it is not set. -/
def execSetupLock (tm : Nat) (l : LaneId) (s : State) : Host.Outcome State Fault Refusal :=
  s.act tm (fun _ d =>
    if (d.lane l).powered && (d.lane l).st == .boot && (d.lane l).life != 0 && (d.lane l).life != 5 then d.lockSetup l else d)

/-- VAULT_IMAGE_WRITE_DONE (R289): the copy in the vault is complete. -/
def execVaultImageWriteDone (tm : Nat) (s : State) : Host.Outcome State Fault Refusal :=
  s.act tm (fun _ d =>
    match d.wit.copying with
    | some (_, l) =>
      d.modWit (fun w => ({ w with copying := none, image := (d.lane l).start.img }.wr Reg.WIT_VAULT.COPYING 0).wr
        Reg.WIT_VAULT.IMG_OK (bit (d.lane l).start.img.isSome))
    | none => d)

/-! ### CALIB (R379) -/

/-- CALIB_COMPLETE (R379, R181): calibration ends; EXC is released, the position front end starts, SELFTEST begins; with
CAL_DONE not set the start fails. -/
def execCalibComplete (tm : Nat) (l : LaneId) (r : CalibRes) (s : State) : Host.Outcome State Fault Refusal :=
  s.act tm (fun _ d =>
    if (d.lane l).powered && (d.lane l).st == .calib then
      match d.adopted l with
      | some c =>
        let d := d.calibrate c r
        if !(d.comp c).flag Reg.MFE_STAT.CAL_DONE then d.startFail l 6 0
        else
          let d := (d.startPosition c r).padRelease l 3
          (d.setSt l .selftest).decideState l 3
      | none => d.startFail l 6 0
    else d)

/-- COMPANION_CALIB_COMMAND (R379): once per power-up, 35 ms after the companion's supplies are good, when its primary
lane has not entered CALIB. -/
def execCompanionCalibCommand (tm : Nat) (c : CompId) (r : CalibRes) (s : State) : Host.Outcome State Fault Refusal :=
  s.act tm (fun t d =>
    let x := d.comp c
    match x.goodAt with
    | some g =>
      if d.wit.powered && x.powered && !x.calRun && (d.lane (homeLane c)).st != .calib && decide (g + 3500000 ≤ t) then (d.calibrate c r).startPosition c r else d
    | none => d)

/-! ### Memory BIST and initialisation (R380, R383, R384) -/

/-- A repair of a start's BIST (R383, R384): counted, kept in the wear record and, under REPAIR_FUSE where R382 allows it, blown
into fuses; BST_REPAIR, its data as BST_MEM_LAST stands (log 137). -/
def Dev.bistKeep (d : Dev) (l : LaneId) : Dev :=
  let d := d.modLane l (fun x =>
    let x := (x.inc Reg.BST_STAT.REPAIRS).wearDirty d.clk
    if x.rd Reg.BST_CFG.POLICY = 1 then
      if x.life = 1 ∨ x.life = 4 then { x with fuses := { x.fuses with repairs := x.regs.pick wearLaneAddr } }
      else x.wr Reg.BST_STAT.FUSE_DENIED 1
    else x)
  d.raise l 120 sevDiag ((d.lane l).regs.word 0x4000D008)

/-- A repair of memory BIST (R383). Kind 1 column, 2 row, 3 bank. -/
def Dev.bistRepair (d : Dev) (l : LaneId) (kind bank row col : Nat) : Dev :=
  (d.modLane l (fun x => ((((x.wr Reg.BST_MEM_LAST.KIND kind).wr Reg.BST_MEM_LAST.BANK bank).wr Reg.BST_MEM_LAST.ROW row).wr
    Reg.BST_MEM_LAST.COLUMN col).wr Reg.BST_STAT.MEM 2)).bistKeep l

/-- A logical bank with no spare left (R383): under DISABLE_BLOCK marked unusable, which fails the start where an enabled
partition lies in it; otherwise the start fails. -/
def Dev.bankLost (d : Dev) (l : LaneId) (bank : Nat) : Dev × Option (Nat × Nat) :=
  let x := d.lane l
  if x.rd Reg.BST_CFG.POLICY = 2 then
    let f := if bank < 32 then Reg.BST_DIS_LO.BANKS bank else Reg.BST_DIS_HI.BANKS (bank - 32)
    let d := ((d.wrL l f 1).modLane l (fun x => (x.wr Reg.BST_STAT.DISABLED 1).wearDirty d.clk)).raise l 121 sevFault bank
    let hit := (List.range 32).find? (fun k =>
      let base := x.rd (Reg.CHE_PART_BASE.BASE k) * 4096
      let size := (x.rd (Reg.CHE_PART_ATTR.SIZE k) + 1) * 4096
      x.flag (Reg.CHE_PART_ATTR.EN k) && decide (base < (bank + 1) * 65536) && decide (bank * 65536 < base + size))
    match hit with
    | some k => (d, some (4, (Reg.CHE_PART_BASE.BASE k).addr % 2 ^ 30 / 4))
    | none => (d, none)
  else (d, some (7, bank))

/-- A whole bank is replaced by a spare bank while one is left (R276, R383). -/
def Dev.bistBank (d : Dev) (l : LaneId) (bank : Nat) : Dev × Option (Nat × Nat) :=
  let left := (d.lane l).rd Reg.MEM_STAT.BANKS_LEFT
  if left ≠ 0 then
    let d := d.modLane l (fun x => (((x.wr (Reg.MEM_BANK_STAT.PHYS bank) (68 - left)).wr (Reg.MEM_BANK_STAT.ROWS bank) 0).wr
      (Reg.MEM_BANK_STAT.COLS bank) 0).wr Reg.MEM_STAT.BANKS_LEFT (left - 1))
    (d.bistRepair l 3 bank 0 0, none)
  else d.bankLost l bank

/-- One fault found by memory BIST, repaired by the smallest element that has a spare (R276, R383); with the failure it
leads to. -/
def Dev.bistFault (d : Dev) (l : LaneId) (f : BistFault) : Dev × Option (Nat × Nat) :=
  match f with
  | .supervisor => (d, some (7, 0))
  | .bank b => d.bistBank l (b % 64)
  | .row b r =>
    let n := (d.lane l).rd (Reg.MEM_BANK_STAT.ROWS (b % 64))
    if n < 8 then ((d.wrL l (Reg.MEM_BANK_STAT.ROWS (b % 64)) (n + 1)).bistRepair l 2 (b % 64) r 0, none)
    else d.bistBank l (b % 64)
  | .column b c =>
    let n := (d.lane l).rd (Reg.MEM_BANK_STAT.COLS (b % 64))
    if n < 2 then ((d.wrL l (Reg.MEM_BANK_STAT.COLS (b % 64)) (n + 1)).bistRepair l 1 (b % 64) 0 c, none)
    else d.bistBank l (b % 64)

/-- Memory BIST's faults in order, up to the first that fails the start. -/
def Dev.bistFaults (l : LaneId) : List BistFault → Dev → Dev × Option (Nat × Nat)
  | [], d => (d, none)
  | f :: t, d =>
    match d.bistFault l f with
    | (d, some e) => (d, some e)
    | (d, none) => Dev.bistFaults l t d

/-- A lane's self-test runs (R261, R380): in SELFTEST, or at lane D's bring-in. -/
def Lane.selfTesting (x : Lane) (l : LaneId) : Bool := x.st == .selftest || (l == .D && x.st == .spareWaking)

/-- What memory BIST records under full diagnosis: in MANUFACTURE and FIELD_RETURN with DIAG, every failing location (R384). -/
def Lane.diagnose (x : Lane) (faults : List BistFault) : Lane :=
  if (x.life = 1 ∨ x.life = 4) ∧ x.flag Reg.BST_CFG.DIAG then { x with diag := x.diag ++ faults } else x

/-- MEMORY_BIST_COMPLETE (R380, R383, R384): in SELFTEST, or lane D's bring-in or proof; each failing element is repaired once,
and a fault without a usable spare fails the start. -/
def execMemoryBistComplete (tm : Nat) (l : LaneId) (faults : List BistFault) (s : State) : Host.Outcome State Fault Refusal :=
  s.act tm (fun t d =>
    let x := d.lane l
    if x.powered && x.selfTesting l && !x.start.mbist then
      let d := d.modLane l (fun x => (x.wr Reg.BST_STAT.MEM 1).diagnose faults)
      match Dev.bistFaults l faults.eraseDups d with
      | (d, none) =>
        let ms := match x.start.tS with
          | some tS => (t - tS) / 100000
          | none => 0
        d.modLane l (fun x => { x with start := { x.start with mbist := true, mbistAt := t } }.wr Reg.BST_TIME.MBIST_MS
          (min ms 255))
      | (d, some (cause, detail)) =>
        let d := d.wrL l Reg.BST_STAT.MEM 3
        if l = .D then d.startFailD cause detail else d.startFail l cause detail
    else d)

/-- Chord SRAM as memory initialisation leaves it (R67, R380): the image's initial data, 0 elsewhere, every word clean. -/
def initMem (init : List (Nat × Byte)) : LaneMem :=
  init.foldl (fun m p => if p.1 < 4194304 then m.putByte p.1 p.2 else m) {}

/-- MEMORY_INIT_COMPLETE (R380, R381): every word written; the lane requests a logic BIST slot, at a bring-in it does not. -/
def execMemoryInitComplete (tm : Nat) (l : LaneId) (s : State) : Host.Outcome State Fault Refusal :=
  s.actM tm (fun t m d =>
    let x := d.lane l
    if x.powered && x.selfTesting l && x.start.mbist && !x.start.init then
      let m := m.setLane l (initMem ((x.start.img.map Setup.init).getD []))
      let d := d.modLane l (fun x => { x with start := { x.start with init := true, reqAt := some t } })
      if x.start.purpose = 2 then (m, d)
      else if x.start.slotAt.isSome then (m, d)
      else if d.wit.powered && !x.flag Reg.RDN_STAT.WITNESSLESS then
        (m, d.modWit (fun w => { w with bistQ := w.bistQ ++ [l] }.wr (Reg.WIT_BIST.PENDING (laneIdx l)) 1))
      else (m, d.modLane l (fun x => { x with start := { x.start with witless := true } }))
    else (m, d))

/-! ### Logic BIST and the injection test (R122, R381, R401) -/

/-- The next lane to get a slot: A to C in the order of their requests, those of one instant in lane order, then D. -/
def Dev.nextSlot (d : Dev) : Option LaneId :=
  let q := d.wit.bistQ.filter (· ≠ .D)
  let key := fun (l : LaneId) => ((d.lane l).start.reqAt.getD 0) * 4 + laneIdx l
  match q.foldl (fun a l => match a with
      | none => some l
      | some b => if key l < key b then some l else some b) none with
  | some l => some l
  | none => if [LaneId.A, .B, .C].any (fun l => (d.lane l).inStart && !(d.lane l).start.lbist) then none
    else d.wit.bistQ.head?

/-- LOGIC_BIST_SLOT_GRANT (R381): the witness grants the slot to the next lane when none holds it. -/
def execLogicBistSlotGrant (tm : Nat) (s : State) : Host.Outcome State Fault Refusal :=
  s.act tm (fun t d =>
    if d.wit.powered && !d.wit.flag Reg.WIT_BIST.BUSY then
      match d.nextSlot with
      | some l =>
        let d := d.modWit (fun w => (({ w with bistQ := w.bistQ.filter (· ≠ l), bistAt := t }.wr Reg.WIT_BIST.GRANT
          (laneIdx l)).wr Reg.WIT_BIST.BUSY 1).wr (Reg.WIT_BIST.PENDING (laneIdx l)) 0)
        let d := if l = .D && d.wit.keyProof && !d.lD.powered then
            (d.modWit (fun w => { w with proving := some (true, t) })).powerD 1
          else d
        let d := d.modLane l (fun x => { x with start := { x.start with slotAt := some t } }.wr Reg.BST_STAT.SLOT_WAIT
          (min ((t - x.start.reqAt.getD t) / 100000) 255))
        d.raiseW 140 sevTrace (laneIdx l)
      | none => d
    else d)

/-- The drift of a slice in 0.1 % of its baseline (R401). -/
def driftOf (base m : Nat) : Nat := if base = 0 ∨ m ≤ base then 0 else (m - base) * 1000 / base

/-- The drift check of slice `s` (R401): the baseline is stored at the first measurement in PRODUCTION. -/
def Dev.sliceDrift (d : Dev) (l : LaneId) (i m : Nat) : Dev :=
  let x := d.lane l
  match Sparse.look x.mram.wear.base i with
  | none =>
    if x.life = 3 then
      d.modLane l (fun x => ({ x with mram := { x.mram with wear := { x.mram.wear with
        base := Sparse.put x.mram.wear.base i m } } }.wr (Reg.WEAR_SLICE.BASED i) 1).wearDirty d.clk)
    else d
  | some b =>
    let dr := driftOf b m
    let d := d.modLane l (fun x => (x.wr (Reg.WEAR_SLICE.BASED i) 1).wr (Reg.WEAR_SLICE.DRIFT i) (min dr 255))
    if x.flag (Reg.CHX_SLICE.RETIRED i) then d
    else if 100 ≤ dr then
      if x.spareSlice then d.retireSlice l i else d.raise l 119 sevFault (i + 256 * min dr 255)
    else if 60 ≤ dr then (d.raise l 119 sevDiag (i + 256 * min dr 255)).serviceFlag l
    else d

/-- Slices of a lane that are not retired. -/
def Lane.slicesLeft (l : Lane) : Nat := ((List.range 3).filter (fun i => !l.flag (Reg.CHX_SLICE.RETIRED i))).length

/-- LOGIC_BIST_COMPLETE (R381, R383, R401): in the lane's slot, or its fixed slot when it started witnessless (R378);
compare events that it finds count like any other (R120), failing slices are retired, fewer than two left fails the start;
then the drift of each slice. -/
def execLogicBistComplete (tm : Nat) (l : LaneId) (r : BistRes) (meas : List Nat) (s : State) :
    Host.Outcome State Fault Refusal :=
  s.act tm (fun t d =>
    let x := d.lane l
    let fixed := match x.start.reqAt with
      | some r => x.start.witless && decide (r + laneIdx l * 1500000 ≤ t)
      | none => false
    if x.powered && x.st == .selftest && x.start.init && !x.start.lbist && (x.start.slotAt.isSome || fixed) then
      let d := if x.start.slotAt.isSome && d.wit.powered then d.modWit (·.wr Reg.WIT_BIST.BUSY 0) else d
      let d := d.modLane l (fun x => (({ x with start := { x.start with lbist := true } }.wr Reg.BST_STAT.LOGIC_DONE 1).wr
        Reg.BST_STAT.LOGIC r.fail).wr Reg.BST_TIME.LBIST_MS (min ((t - x.start.slotAt.getD (x.start.reqAt.getD t)) / 100000) 255))
      let d := d.each r.events (fun d e => d.compareEvent l (bistCmp e) 1)
      let d := ((List.range 3).filter (fun i => hasBit r.fail i && !(d.lane l).flag (Reg.CHX_SLICE.RETIRED i))).foldl
        (fun d i => if (d.lane l).slicesLeft ≤ 2 then d.modLane l (fun x => x.wr (Reg.CHX_SLICE.RETIRED i) 1)
          else (d.retireSlice l i).bistKeep l) d
      if (d.lane l).st != .selftest then d
      else if (d.lane l).slicesLeft < 2 then (if l = .D then d.startFailD 8 r.fail else d.startFail l 8 r.fail)
      else (meas.zip (List.range 3)).foldl (fun d p => d.sliceDrift l p.2 p.1) d
    else d)

/-- A lane enters READY (R375, R463): LANE_IO released and RDY_x high; its start's loopback has passed. -/
def Dev.enterReady (d : Dev) (l : LaneId) : Dev :=
  let d := d.modLane l (fun x => x.wr Reg.BST_TIME.READY_MS (min ((d.clk - x.start.tS.getD d.clk) / 100000) 4095))
  let d := match homeComp l with
    | some c => if (d.comp c).powered then d.wrC c (Reg.CMPS_PORT.LOOP_OK 0) 1 else d
    | none => d
  ((d.setSt l .ready).decideState l 4).padRelease l 0

/-- INJECTION_TEST_COMPLETE (R122, R375, R290): a passed test takes lanes A to C to READY once the hold-up charge is good,
and sets lane D's XFER_READY at a bring-in; a failed one fails the start. -/
def execInjectionTestComplete (tm : Nat) (l : LaneId) (pass : Bool) (bitNo : Nat) (hupOk : Bool) (s : State) :
    Host.Outcome State Fault Refusal :=
  s.act tm (fun _ d =>
    let x := d.lane l
    if x.powered && x.selfTesting l && x.start.init && (x.start.lbist || x.start.purpose == 2) && !x.start.inj then
      if pass || x.isSplit then
        let d := d.modLane l (fun x => { x with start := { x.start with inj := true } }.wr Reg.CHX_STAT.INJ_PASS
          (bit (!x.isSplit)))
        if l = .D then
          if x.start.purpose = 2 then
            let d := d.modWit (fun w => { w with bring := w.bring.map (fun b => { b with ready := true }) })
            d.modLane .D (fun x => { x with rdn := { x.rdn with xferRdy := true } }.wr Reg.RDN_XFER.PHASE 2)
          else d
        else if hupOk then d.enterReady l
        else d
      else
        let d := d.raise l 23 sevFault bitNo
        if l = .D then d.startFailD 9 0 else d.startFail l 9 0
    else d)

/-! ### Deadlines and hold-up (R385, R463) -/

/-- Whether the 160 ms limit of R375 applies to a lane (R382). -/
def Lane.limitApplies (l : Lane) : Bool :=
  l.life == 2 || l.life == 3 || ((l.life == 1 || l.life == 4) && !l.flag Reg.BST_CFG.DIAG)

/-- START_DEADLINE (R385): READY not reached by t_S + 160 ms. -/
def execStartDeadline (tm : Nat) (l : LaneId) (s : State) : Host.Outcome State Fault Refusal :=
  s.act tm (fun t d =>
    match (d.lane l).start.tS with
    | some tS => if (d.lane l).powered && (d.lane l).inStart && (d.lane l).limitApplies && decide (tS + 16000000 ≤ t) && l != .D then
        d.startFail l 0x0B 0 else d
    | none => d)

/-- HUP_CHARGE_CHECK (R463): a charged capacitor lets a waiting lane enter READY; one below 10.7 V at t_S + 150 ms fails
the start. -/
def execHupChargeCheck (tm : Nat) (l : LaneId) (hupOk : Bool) (s : State) : Host.Outcome State Fault Refusal :=
  s.act tm (fun t d =>
    match (d.lane l).start.tS with
    | some tS =>
      if (d.lane l).powered && (d.lane l).inStart && l != .D then
        if hupOk then (if (d.lane l).start.inj then d.enterReady l else d)
        else if tS + 15000000 ≤ t then d.startFail l 0x0A 0
        else d
      else d
    | none => d)

/-- HUP_LOW (R463): below 10.7 V for 1 ms in READY or ACTIVE sets the service flag. -/
def execHupLow (tm : Nat) (l : LaneId) (s : State) : Host.Outcome State Fault Refusal :=
  s.act tm (fun _ d =>
    if (d.lane l).powered && (d.lane l).started then
      (d.modLane l (fun x => { x with hupLow := true })).serviceFlag l
    else d)

/-! ### Quorum and the first entry to ACTIVE (R389 to R392) -/

/-- The positions of A to C whose lane is not READY at t_D are treated as lost (R392): journalled, quarantined, and lane
D brought in to one of them when it is available. -/
def Dev.missing (d : Dev) (l : LaneId) : Dev :=
  match homeComp l with
  | some c =>
    let d := d.jstep none 1 (laneIdx l) (2 ^ 31 + (d.lane l).rd Reg.LCTL_START_CAUSE.CAUSE) id
    let d := d.jstep none 2 (laneIdx l) 0 (fun d => d.quarantine c)
    d.wakeD (some c)
  | none => d

/-- START_DECISION (R389, R390, R392): once every lane of A to C is READY, MINIMAL or past 160 ms from the t_S of its
first attempt, the quorum is counted; below 2 the device is MINIMAL. -/
def execStartDecision (tm : Nat) (s : State) : Host.Outcome State Fault Refusal :=
  s.act tm (fun t d =>
    let abc := [LaneId.A, .B, .C]
    let settled := abc.all (fun l => (d.lane l).st == .ready || (d.lane l).st == .minimal ||
      (match (d.lane l).start.tS0 with
        | some tS => decide (tS + 16000000 ≤ t)
        | none => false))
    if settled && !d.wit.decided then
      let ready := abc.filter (fun l => (d.lane l).powered && (d.lane l).st == .ready &&
        !((d.lane l).life == 3 && (d.lane l).isSplit))
      let d := d.modWit (fun w => { w with decided := true })
      if ready.length < 2 then
        let d := d.modWit (fun w => { w.wr Reg.WIT_STAT.DEV_MINIMAL 1 with fltW := true })
        let d := d.each (allLanes.filter (fun l => (d.lane l).powered)) (fun d l => d.wrL l Reg.LCTL_STATUS.DEV_MINIMAL 1)
        (d.raiseAll 2 sevFault (bitsOf 4 (fun i => ready.any (fun l => laneIdx l == i)))).flt
      else
        let d := d.each ready (fun d l => d.modLane l (fun x => { x with start := { x.start with counted := true } }))
        if d.wit.powered then d.each (abc.filter (fun l => (d.lane l).st != .ready)) Dev.missing else d
    else d)

/-- DEVICE_READY (R391): two counted READY lanes have nodes in fabric phase ACTIVE, and no vault copy runs. -/
def execDeviceReady (tm : Nat) (s : State) : Host.Outcome State Fault Refusal :=
  s.act tm (fun t d =>
    let up := allLanes.filter (fun l => (d.lane l).start.counted && (d.lane l).st == .ready &&
      (d.lane l).rd Reg.JLF_START_STAT.PHASE == 5)
    if d.wit.decided && d.wit.readyAt.isNone && decide (2 ≤ up.length) && d.wit.copying.isNone &&
        !d.wit.flag Reg.WIT_STAT.DEV_MINIMAL then
      (d.modWit (fun w => { w with readyAt := some t })).devRdy
    else d)

/-- FIRST_ACTIVE_ENTRY (R391): at the cycle start after the device is ready, the counted READY lanes enter ACTIVE
together; GATE and SBC are released, the start level and the masks are set, and the master is appointed. -/
def execFirstActiveEntry (tm : Nat) (s : State) : Host.Outcome State Fault Refusal :=
  s.act tm (fun t d =>
    match d.wit.readyAt with
    | some r =>
      let go := allLanes.filter (fun l => (d.lane l).start.counted && (d.lane l).st == .ready)
      if r ≤ t ∧ 2 ≤ go.length ∧ d.actives.isEmpty then
        let d := d.each go (fun d l =>
          let d := (d.setSt l .active).decideState l 5
          let d := d.modLane l (fun x => { x with start := { x.start with cleanAt := some t } })
          (d.padRelease l 1).padRelease l 2)
        let lst := fun i => laneStCode (d.lane (laneOf i)).st
        let lvl := countLevel lst d.dAvail d.dWaking
        let d := d.modWit (fun w => { w with dusk := duskNow false d.dWaking lvl })
        let d := if d.wit.powered then d.witLevel lvl else d
        let d := d.each (allLanes.filter (fun l => (d.lane l).powered)) (fun d l =>
          (d.modLane l (fun x => { x with rdn := { x.rdn with dusk := duskNow false d.dWaking lvl } })).laneLevel l lvl)
        d.showAvail.appoint.sendMasks.settle
      else d
    | none => d)

/-- START_CNT_CLEAR (R387, R421): after 10 clean minutes in ACTIVE the count and the cause clear, and in PRODUCTION the
rollback counter is blown up to the running image's SVN. -/
def execStartCntClear (tm : Nat) (l : LaneId) (s : State) : Host.Outcome State Fault Refusal :=
  s.act tm (fun t d =>
    let x := d.lane l
    match x.start.cleanAt with
    | some c =>
      if x.powered && x.st == .active && decide (c + 60000000000 ≤ t) then
        let x := (((x.wr Reg.LCTL_START_CNT.COUNT 0).wr Reg.LCTL_START_CNT.CLEAN_S 600).wr Reg.LCTL_START_CAUSE.CAUSE 0).wearDirty t
        let x := if x.life = 3 ∧ x.fuses.svn < x.start.svn then
            ({ x with fuses := { x.fuses with svn := x.start.svn } }).wr Reg.LCS_SVN.COUNT x.start.svn
          else x
        d.setLane l x
      else d
    | none => d)

/-! ### Supplies, temperature and supervisor (R338, R266, R458 to R461) -/

/-- SUPPLY_LOSS (R458, R410, R460): the lane decides its own loss with cause SUPPLY and commits on hold-up energy; a start
fails with cause SUPPLY. `back`: the supply returns during the commit and the lane stays in SUSPECT; else it is without
power. -/
def execSupplyLoss (tm : Nat) (l : LaneId) (back : Bool) (s : State) : Host.Outcome State Fault Refusal :=
  s.actP tm (fun _ d =>
    if (d.lane l).powered then
      let d := if (d.lane l).inStart && l != .D then d.startFail l 0x0A 0
        else (d.decideLoss l 0x0D 3).holdupCommit l
      if back then d else (d.modLane l (·.off .off))
    else d)

/-- COMPANION_SUPPLY_LOSS (R238, R255, R460): the companion stops and with it the node; the witness treats its drive as
lost. -/
def execCompanionSupplyLoss (tm : Nat) (c : CompId) (s : State) : Host.Outcome State Fault Refusal :=
  s.act tm (fun _ d =>
    if (d.comp c).powered then
      let h := homeLane c
      let d := d.driveLost c
      let sw := (d.comp c).sw
      let d := d.setComp c { Comp.unpowered with sw := sw }
      let d := match d.driver c with
        | some l => d.modLane l (fun x => (x.phase5 phOff syUnsync).endClaims)
        | none => d
      if (d.lane h).powered && (d.lane h).inStart then d.startFail h 5 0 else d.sendMasks
    else d)

/-- Lane D's power switch without the witness (R460): a latch keeps it closed in SPARE_WAKING and ACTIVE; in any other state it
opens, and lane D commits on its hold-up energy (R410). -/
def Dev.latchD (d : Dev) : Dev :=
  if d.lD.powered && d.lD.st != .spareWaking && d.lD.st != .active then
    (d.holdupCommit .D).modLane .D (·.off (if d.lD.st = .suspect ∨ d.lD.st = .retired then .retired else .off))
  else d

/-- WITNESS_SUPPLY_LOSS (R460): the witness is lost with what it held outside the vault; FLT_N and DEVRDY are low. -/
def execWitnessSupplyLoss (tm : Nat) (s : State) : Host.Outcome State Fault Refusal :=
  s.actP tm (fun _ d => (d.modWit Wit.lose).latchD.settle)

/-- CRYSTAL_FAIL (R370, R394): the gates are off, CTB_FAIL is raised and the drive reported lost; a start fails with cause
COMPANION. -/
def execCrystalFail (tm : Nat) (c : CompId) (s : State) : Host.Outcome State Fault Refusal :=
  s.act tm (fun _ d =>
    if (d.comp c).powered && !(d.comp c).flag Reg.CTB_STAT.FAIL then
      let d := d.raiseC c false 110 sevFault 0
      let d := d.modComp c (fun x => ((({ x with running := false, b0 := x.b0.dropOutputs, b1 := x.b1.dropOutputs }).wr
        Reg.CTB_STAT.FAIL 1).wr Reg.CTB_STAT.XTAL_OK 0).wr Reg.CTB_STAT.LOCK 0)
      let h := homeLane c
      if (d.lane h).powered && (d.lane h).inStart then d.startFail h 5 0 else d.driveLost c
    else d)

/-- LANE_OVERTEMP (R461): above 153 °C for 1 ms the lane decides its own loss with cause SUPPLY. -/
def execLaneOvertemp (tm : Nat) (l : LaneId) (s : State) : Host.Outcome State Fault Refusal :=
  s.act tm (fun _ d =>
    if (d.lane l).powered then
      (if (d.lane l).inStart && l != .D then d.startFail l 0x0A 0 else d.decideLoss l 0x0D 3)
    else d)

/-- SUPERVISOR_FAULT (R338, R385): the lane's own loss with cause SUPERVISOR; during a start, its failure. -/
def execSupervisorFault (tm : Nat) (l : LaneId) (s : State) : Host.Outcome State Fault Refusal :=
  s.act tm (fun _ d =>
    if (d.lane l).powered then
      (if (d.lane l).inStart && l != .D then d.startFail l 2 0 else d.decideLoss l 0x0C 3)
    else d)

/-- LANE_PORT_FAIL (R266): the lane decides its own loss with cause COMP_SERVICE; during a start, its failure with cause
COMPANION. -/
def execLanePortFail (tm : Nat) (l : LaneId) (s : State) : Host.Outcome State Fault Refusal :=
  s.act tm (fun _ d =>
    if (d.lane l).powered then
      (if (d.lane l).inStart && l != .D then d.startFail l 5 0 else d.decideLoss l 0x09 3)
    else d)

/-- COMPANION_OVERTEMP (R461): a measured T_CMP above 160 °C turns both bridges off. -/
def execCompanionOvertemp (tm : Nat) (c : CompId) (s : State) : Host.Outcome State Fault Refusal :=
  s.act tm (fun _ d =>
    match (d.comp c).powered, (d.comp c).tCmp with
    | true, some t => if 2560 < t then
        ((d.modComp c (fun x => { x with overtemp := true })).supplyCond c false).supplyCond c true else d
    | _, _ => d)

/-- COMPANION_TEMP_RETURN (R461): below 150 °C the supply condition ends. -/
def execCompanionTempReturn (tm : Nat) (c : CompId) (s : State) : Host.Outcome State Fault Refusal :=
  s.act tm (fun _ d =>
    match (d.comp c).tCmp with
    | some t => if t < 2400 then d.modComp c (fun x => { x with overtemp := false }) else d
    | none => d)

end Sys2Proof.Machine
end

