-- ==== Sys2Proof/Machine/BringIn.lean ====
section
/-!
DEFINITION. Bringing lane D in and proving it (R13, R288 to R296): supplies, image, copies, limits, the proof's end, and the
switch-control handshake.
-/
namespace Sys2Proof.Machine

/-! ### The switch-control handshake (R13) -/

/-- SWITCH_HANDSHAKE_RESUME (R13): the witness sets a powered-up companion's switch position and quarantine from its own
record, and reaches SPARE by way of OPEN (R14). -/
def execSwitchHandshakeResume (tm : Nat) (c : CompId) (s : State) : Host.Outcome State Fault Refusal :=
  s.act tm (fun _ d =>
    if d.wit.powered && (d.comp c).powered && (d.comp c).handshake then
      let code := d.wit.rd (Reg.WIT_SW.POS (compIdx c))
      let pos : SwPos := if code = 1 then .spare else if code = 2 then .opened else .primary
      let d := d.modComp c (fun x => { x with handshake := false })
      let d := if d.wit.flag (Reg.WIT_SW.QUAR (compIdx c)) then d.quarantine c else d
      if (d.comp c).sw = pos then d.noComp.settle
      else if pos = .opened then d.setSw c pos
      else (d.setSw c .opened).setSw c pos
    else d)

/-! ### Supplies and image (R289, R290, R380) -/

/-- LANE_D_SUPPLY_GOOD (R261, R290, R376, R417, R427): lane D, powered for a proof or a bring-in, loads its fuses and trims,
applies the vault certificate and takes the keys of the vault; a proof then goes on in SELFTEST (log 114). Fuse copies that
differ fail the start. -/
def execLaneDSupplyGood (y : DSupply) (s : State) : Host.Outcome State Fault Refusal :=
  s.act y.at_ (fun _ d =>
    if d.lD.powered && d.lD.start.purpose != 0 && (d.lD.st == .boot || d.lD.st == .spareWaking) then
      let d := d.modWit (fun w => { w with bring := w.bring.map (fun b => { b with good := true }) })
      let d := d.modLane .D (fun x => { x with fuses := { x.fuses with bad := !y.fuseOk } })
      let d := (d.loadStart .D).keysForD.lifeTransition .D y.certSig
      if !d.lD.fusesOk then d.startFailD 1 0
      else if d.lD.st = .boot then (d.setSt .D .selftest).decideState .D 3 else d
    else d)

/-- What R420 asks of an image besides its signature and its hash: a life-cycle state that accepts images, and in PRODUCTION a
security version not below the rollback counter. -/
def Lane.imageFits (l : Lane) (svn : Nat) : Bool :=
  l.life != 0 && l.life != 5 && (l.life != 3 || decide (l.rd Reg.LCS_SVN.COUNT ≤ svn))

/-- The image that lane D has read passes the check of R420 and is the one of the proof record and of the master's heartbeats
(R290). -/
def Dev.imageOk (d : Dev) (img : Setup) : Bool :=
  d.lD.imageFits img.svn && d.wit.proof == 1 && d.wit.proofDigest == img.digest &&
    (match d.master with
      | some l => (d.lane l).image == img.digest
      | none => true)

/-- IMAGE_LOADED (R67, R290, R380): lane D has verified the vault image, its memory is initialised from it and its setup
registers are written; journalled as step 5. A failed check ends the start (R294). -/
def execImageLoaded (tm : Nat) (ok : Bool) (img : Setup) (s : State) : Host.Outcome State Fault Refusal :=
  s.actM tm (fun t m d =>
    let x := d.lD
    match d.wit.bring with
    | some b =>
      if d.wit.powered && x.powered && x.st == .spareWaking && x.start.mbist && b.good && !b.loaded then
        if ok && d.imageOk img then
          let m := m.setLane .D (initMem img.init)
          let d := d.jstep (some .D) 5 3 0 (fun d =>
            let d := d.writeSetup .D img
            let d := d.modLane .D (fun x => { x with start := { x.start with init := true, reqAt := some t } })
            d.modWit (fun w => { w with bring := some { b with loaded := true } }))
          (m, d)
        else (m, d.decideLoss .D 0x0B 3)
      else (m, d)
    | none => (m, d))

/-! ### Copies (R291) -/

/-- Lane D keeps a copy in place of an earlier one of the same part; copies of another source are discarded (R285, R291). -/
def keepCopy (cs : List Copy) (c : Copy) : List Copy :=
  cs.filter (fun x => x.src == c.src && x.part != c.part) ++ [c]

/-- Every copy of R291 is held: the lane context and the window of every XFER partition. -/
def Lane.holdsAll (l : Lane) : Bool :=
  l.rdn.copies.any (fun c => c.part.isNone) && l.xferOwned.all (fun k => l.rdn.copies.any (fun c => c.part == some k))

/-- XFER_DONE (R281, R290): the transfer's DONE record of the master, step 7 of lane D, then the handover, or HOLD_HOT where
there is no target. -/
def Dev.xferDone (d : Dev) (b : BringIn) : Dev :=
  let d := match d.master with
    | some l => (d.jwrite (some l) 1 6 3 0).1
    | none => d
  let d := d.jstep (some .D) 7 3 0 (fun d =>
    (d.modWit (fun w => { w with bring := some { b with tX := some d.clk } })).modLane .D (fun x => x.wr Reg.RDN_XFER.PHASE 4))
  if b.target.isNone then d.holdHot else d

/-- A copy has passed its CRC at lane D. -/
def Dev.takeCopy (d : Dev) (c : Copy) : Dev :=
  let started := match c.part with
    | some k => ((d.lD.maskOwner k).map (fun n => Sparse.get false d.lD.eng.begun n)).getD false
    | none => !d.lD.eng.begun.isEmpty
  if started then d
  else
    let d := d.modLane .D (fun x =>
      let x := (x.modRdn (fun r => { r with copies := keepCopy r.copies c })).wr Reg.RDN_XFER.SRC c.src
      { x with regs := x.regs.addSat Reg.RDN_XFER.COPIES 1 })
    match d.wit.bring with
    | some b =>
      if d.wit.powered && d.lD.st == .spareWaking && b.loaded && b.ready && b.tX.isNone then
        if d.lD.holdsAll then d.xferDone b else d.modLane .D (fun x => x.wr Reg.RDN_XFER.PHASE 3)
      else d
    | none => d

/-- STATE_COPY_RECEIVE (R291): the oldest copy of a part that the master has sent reaches lane D; one whose CRC fails is
counted and dropped. -/
def execStateCopyReceive (tm : Nat) (part : Option Nat) (crcOk : Bool) (s : State) : Host.Outcome State Fault Refusal :=
  s.act tm (fun _ d =>
    match d.master with
    | some l =>
      if l = .D ∨ !d.lD.powered ∨ !(d.lane l).rdn.xferring then d
      else match (d.lane l).rdn.copies.find? (fun c => c.part == part) with
        | none => d
        | some c =>
          let d := d.modLane l (·.modRdn (fun r => { r with copies := r.copies.erase c }))
          if crcOk then d.takeCopy c else d.incL .D Reg.XLK_ERR.CRC
    | none => d)

/-! ### Limits (R290, R294) -/

/-- P of R290 in ticks: the longest activation period among the owners of XFER partitions, else of the voted task. -/
def Dev.longestP (d : Dev) (target : Option CompId) : Nat :=
  let c := match target with
    | some c => c
    | none => (d.master.bind d.adopted).getD .CA
  let ps := (d.comp c).xferPeriods d.lD
  let ps := if ps.isEmpty then ((d.comp c).taskPeriods d.lD (d.lD.rd Reg.RDN_CFG.VOTE_TASK)).toList else ps
  ps.foldl (fun a p => max a p.1) 0

/-- The limit on t_X (R290): 2 × P after the later of 4,100 µs and the latest appointment, extended for the source events that
failed to occur (R482). -/
def Dev.copyLimit (d : Dev) (b : BringIn) : Nat :=
  max (b.tL + 410000) b.masterAt + 2 * d.longestP b.target + (b.late.map Prod.snd).foldl max 0

/-- BRING_IN_DEADLINE (R290, R294): a limit of the bring-in has passed without its step: 0 supplies by 500 µs, 1 the image by
4,050 µs, 2 XFER_READY by 4,100 µs, 3 every copy by the limit of `copyLimit`. -/
def execBringInDeadline (tm : Nat) (step : Nat) (s : State) : Host.Outcome State Fault Refusal :=
  s.act tm (fun t d =>
    match d.wit.bring with
    | some b =>
      let missed := match step with
        | 0 => !b.good && decide (b.tL + 50000 < t)
        | 1 => !b.loaded && decide (b.tL + 405000 < t)
        | 2 => !b.ready && decide (b.tL + 410000 < t)
        | 3 => b.tX.isNone && decide (d.copyLimit b < t)
        | _ => false
      if d.wit.powered && missed && d.lD.st == .spareWaking then d.decideLoss .D 0x0B 3 else d
    | none => d)

/-! ### The proof's end (R36, R295, R296, R392) -/

/-- RDN_PROOF of every powered lane shows the record. -/
def Dev.showProof (d : Dev) : Dev :=
  d.each (allLanes.filter (fun l => (d.lane l).powered)) (fun d l => d.modLane l (fun x =>
    ((x.wr Reg.RDN_PROOF.RESULT d.wit.proof).wr Reg.RDN_PROOF.AGE d.wit.proofAge).wr Reg.RDN_PROOF.FAIL_STEP d.wit.proofStep))

/-- The level becomes DL0 in the witness and in every powered lane (R36). -/
def Dev.toNoon (d : Dev) : Dev :=
  (d.each (allLanes.filter (fun l => (d.lane l).powered)) (fun d l => d.laneLevel l 0)).witLevel 0

/-- After a key-on proof: a position that was missing at the start decision takes lane D; with three lanes active since the
start at DL1 the level becomes DL0; otherwise the level is evaluated afresh (R36, R296, R392). -/
def Dev.afterKeyProof (d : Dev) (pass : Bool) : Dev :=
  let gone := [LaneId.A, .B, .C].filter (fun l => d.wit.decided && !(d.lane l).start.counted)
  let d := match pass, gone.filterMap homeComp with
    | true, c :: _ => if (d.comp c).quarP then d.wakeD (some c) else d
    | _, _ => d
  let noon := pass && gone.isEmpty && [LaneId.A, .B, .C].all d.isActive && d.wit.rd Reg.WIT_STAT.DL == 1 && !d.wit.dusk
  if noon then d.toNoon.showAvail.settle else if d.actives.isEmpty then d.showAvail else d.reLevel

/-- The step at which a proof failed, as FAIL_STEP codes it (R295): the one reported, else the first that has not passed, where
the fuses and the image come first; 0 for a pass. -/
def Dev.proofFails (d : Dev) (reported : Nat) : Nat :=
  let x := d.lD
  let fits := match d.wit.image with
    | some img => x.imageFits img.svn
    | none => false
  if reported % 256 ≠ 0 then reported % 256
  else if !(x.fusesOk && fits) then 1
  else if !x.start.mbist then 2
  else if !x.start.lbist then 3
  else if !x.start.inj then 4
  else 0

/-- PROOF_WAKE_END (R261, R295, R296, R421): lane D writes the proof record, and the witness opens the power switch. A passed
proof leaves SPARE_COLD; a failed one raises RDN_PROOF_FAIL. After the proof of an entry to OFF the retention counter stops
(R364). `failStep` is the step that the image check or the loopback test failed at, 0 where neither did. -/
def execProofWakeEnd (tm : Nat) (failStep : Nat) (aborted : Bool) (s : State) : Host.Outcome State Fault Refusal :=
  s.actP tm (fun _ d =>
    match d.wit.proving with
    | some (keyOn, _) =>
      if d.wit.powered && d.lD.powered && d.lD.start.purpose == 1 then
        let fs := d.proofFails failStep
        let res := if aborted then 3 else if fs = 0 then 1 else 2
        let d := if res = 2 then d.raise .D 86 sevFault fs else d
        let d := if res = 1 && d.lD.life == 3 then d.modLane .D (fun x =>
            { x with fuses := { x.fuses with svn := max x.fuses.svn ((d.wit.image.map Setup.svn).getD 0) } }) else d
        let d := d.modWit (fun w => { w with
          proving := none, keyProof := false, proof := res, proofStep := if res = 2 then fs else 0
          proofDigest := if res = 1 then (w.image.map Setup.digest).getD 0 else w.proofDigest
          proofAt := if res = 3 then w.proofAt else w.ret
          retRun := w.retRun && d.pwr.state != 4
          bistQ := w.bistQ.filter (· ≠ .D) })
        let d := d.each (allComps.filter (fun c => (d.comp c).powered && (res == 1 || (res == 2 && fs == 5))))
          (fun d c => d.wrC c (Reg.CMPS_PORT.LOOP_OK 1) (bit (res == 1)))
        let d := d.modWit (fun w => if w.rd Reg.WIT_BIST.GRANT = 3 then w.wr Reg.WIT_BIST.BUSY 0 else w)
        let d := (d.openD (if res = 1 then .spareCold else .off)).showProof
        if keyOn then d.afterKeyProof (res == 1) else d
      else d
    | none => d)

end Sys2Proof.Machine
end

