-- ==== Sys2Proof/Machine/MramView.lean ====
section
/-!
DEFINITION. The MRAM read window (R26, R395): image slots, capsules laid out byte by byte (R263, R264, R406), journal
pages and the rest.
-/
namespace Sys2Proof.Machine

/-- Bytes cut or filled with 0 to a length. -/
def sized (n : Nat) (bs : List Byte) : List Byte := bs.take n ++ List.replicate (n - bs.length) 0

/-- The 64 bytes of a heartbeat (R263). -/
def Heartbeat.bytes (h : Heartbeat) : List Byte :=
  let b := leBytes 1 1 ++ leBytes 1 (laneIdx h.lane + 4 * bit h.pathY) ++ leBytes 1 (h.state % 16) ++
    leBytes 1 (bit h.nonCheck + 2 * bit h.witless + 4 * bit h.unlinked + 8 * bit h.master + 16 * bit h.service +
      32 * bit h.xferRdy) ++ leBytes 2 h.seq ++ leBytes 1 (h.depth % 8) ++ leBytes 1 (h.dl % 8) ++ leBytes 8 h.key ++
    leBytes 8 h.digest ++ leBytes 1 (h.heardX % 16 + 16 * (h.heardY % 16)) ++
    leBytes 1 (h.accuse % 16 + 16 * (h.lost % 16)) ++
    leBytes 2 (h.sib % 8 + 8 * bit h.sibValid + 16 * (h.sibCycle % 4096)) ++ leBytes 4 h.jseq ++ leBytes 4 h.image ++
    leBytes 4 (h.evidCnt % 32 + 2 ^ 31 * bit h.evid) ++ leBytes 2 h.lstate ++ leBytes 1 h.cause ++ leBytes 17 0
  b ++ leBytes 4 (crc32 b).toNat

/-- The 16 bytes of a beacon (R264). -/
def Beacon.bytes (x : Beacon) : List Byte :=
  let b := leBytes 2 x.seq ++ leBytes 1 (x.dl % 8) ++ leBytes 1 (x.master % 4 + 4 * bit x.masterValid) ++
    leBytes 2 x.lstate ++ leBytes 2 0 ++ leBytes 4 x.jseq
  b ++ leBytes 4 (crc32 b).toNat

/-- The 20 bytes of a status word (R264). -/
def StatusWord.bytes (x : StatusWord) : List Byte :=
  let flags := bit x.nonCheck + 2 * bit x.witless + 4 * bit x.unlinked + 8 * bit x.master + 16 * bit x.service + 32 * bit x.xferRdy
  let b := leBytes 1 (x.state % 16) ++ leBytes 1 flags ++ leBytes 2 x.seq ++ leBytes 4 x.key ++ leBytes 8 x.digest
  b ++ leBytes 4 (crc32 b).toNat

/-- The status registers of a block, in index order: those with an RO or W1C field (R406). -/
def statusAddrs (blocks : List Nat) : List Nat :=
  (regTable.filter (fun r => blocks.contains (r.base / 4096))).flatMap (fun r =>
    ((List.range r.count).map (fun i => r.base + r.stride * i)).filter (fun a =>
      (fieldsAt a).any (fun f => f.acc == .ro || f.acc == .w1c) && a != (Reg.BBX_RATE.RATE 0).addr))

/-- The header of capsule `k` of a lane (R406). -/
def Capsule.header (c : Capsule) (who : LaneId) : List Byte :=
  let b := leBytes 4 1 ++ leBytes 1 c.state ++
    leBytes 1 (bit c.first + 2 * bit c.sent + 4 * bit c.holdup + 8 * bit c.postClosed + 16 * bit c.refreshed) ++
    leBytes 1 (laneIdx who) ++ leBytes 1 c.dl ++ ((c.trigger.map Evt.bytes).getD (leBytes 16 0)) ++ leBytes 4 c.serial ++
    leBytes 4 c.safetyCnt ++ leBytes 4 c.post.length ++ leBytes 4 c.postLost ++ leBytes 8 c.writeHours ++
    leBytes 4 c.writeEpoch ++ leBytes 2 c.lstate ++ leBytes 2 0 ++ leBytes 32 c.image ++ leBytes 164 0
  b ++ leBytes 4 (crc32 b).toNat

/-- A section of a capsule by its offset, and the offset at which it starts (R406). -/
def Capsule.section_ (c : Capsule) (who : LaneId) (off : Nat) : Nat × List Byte :=
  if off < 0x100 then (0, c.header who)
  else if off < 0x1000 then (0x100, (statusAddrs capsuleLaneBlocks).flatMap (fun a => leBytes 4 (c.regs.word a)) ++
    (statusAddrs capsuleCompBlocks).flatMap (fun a => leBytes 4 (c.compRegs.word a)))
  else if off < 0x5000 then (0x1000, c.hist.flatMap Evt.bytes)
  else if off < 0x7000 then (0x5000, c.inputs.flatMap (sized 256))
  else if off < 0x9000 then (0x7000,
    (allLanes.filter (· ≠ who)).flatMap (fun l =>
      sized 2048 (((c.hbs.filter (fun h => h.lane == l)).take 32).reverse.flatMap Heartbeat.bytes)) ++
    sized 512 ((c.beacons.take 32).reverse.flatMap Beacon.bytes))
  else if off < 0xA000 then (0x9000, c.journal.flatMap JRec.bytes)
  else if off < 0xE000 then (0xA000, c.post.flatMap Evt.bytes)
  else (0xE000, [])

/-- A byte of a lane's MRAM at an offset of the read window (R395). Bytes whose layout no rule states are open, and
those of a poisoned word (R396). -/
def Lane.mramByte (x : Lane) (who : LaneId) (off : Nat) : Byte :=
  if x.mram.poison.contains (off / 8) then Config.mramByte off
  else if off < 0xC0000 then
    BitVec.ofNat 8 (Sparse.get 0 x.mram.img (off / 4) / 256 ^ (off % 4))
  else if off < 0x100000 then
    let k := (off - 0xC0000) / 0x10000 + 1
    let at_ := (off - 0xC0000) % 0x10000
    let s := (Sparse.get ({} : Capsule) x.bbx.caps k).section_ who at_
    s.2.getD (at_ - s.1) 0
  else if off < 0x1C0000 then
    let n := (off - 0x100000) / 1024
    let at_ := (off - 0x100000) % 1024
    match Sparse.look x.bbx.pages n with
    | some es => if at_ < 16 then Config.mramByte off else (es.flatMap Evt.bytes).getD (at_ - 16) 0
    | none => Config.mramByte off
  else if off < 0x1E0000 then Config.mramByte off
  else 0

/-- A 32-bit word of the read window. -/
def Lane.mramWord (x : Lane) (who : LaneId) (off : Nat) : Nat :=
  leNat ((List.range 4).map (fun i => x.mramByte who (off + i)))

end Sys2Proof.Machine
end

