-- ==== Sys2Proof/Machine/RegAccess.lean ====
section
/-!
DEFINITION. Register accesses (R26 to R29, R428 to R439, R448 to R452): decoding, permissions, the setup lock, latched
pairs, the effect of a write on the block it reaches, and the service SPI port.
-/
namespace Sys2Proof.Machine

/-! ### Outcomes and events (R430) -/

/-- Outcomes of an access (R430). -/
def accOk : Nat := 0
def accDecode : Nat := 1
def accPerm : Nat := 2
def accEcc : Nat := 3
def accLockOrder : Nat := 4
def accTimeout : Nat := 5
def accNoComp : Nat := 6

/-- The number of an accessor of a lane, for its latches (R432). -/
def accCode (a : Accessor) (l : LaneId) : Nat :=
  (match a with | .gnomon => 0 | .spi => 1 | .ring => 2) * 4 + laneIdx l

/-- The data of LCTL_BUS_ERR, LCTL_NO_COMP and LCTL_SETUP_WERR (R447). -/
def accData (out a : Nat) : Nat := out * 2 ^ 29 + a % 2 ^ 31 / 4

/-- The event of an access that ends with a bus error (R28, R430). -/
def Dev.accReport (d : Dev) (l : LaneId) (acc : Accessor) (out a : Nat) : Dev :=
  if out = accNoComp then d.raise l 3 sevDiag (accData out a)
  else if out ≠ accOk ∧ acc ≠ .ring then d.raise l 4 sevDiag (accData out a)
  else d

/-! ### Where an address leads (R26 to R29) -/

/-- What a lane's address reaches. -/
inductive Place where
  | sram
  | mram
  | lane
  | comp (c : CompId)
  | wit
  | err (out : Nat)
deriving DecidableEq, Repr

/-- The place of an address, with the errors of R27, R28, R29 and R429. An adopted companion without power answers
NO_COMPANION as well (the log's entry on it: DESIGN CHOICE). -/
def Dev.place (d : Dev) (l : LaneId) (a : Nat) : Place :=
  let known := fun (p : Place) => if (fieldsAt a).isEmpty then .err accDecode else p
  if a % 4 ≠ 0 then .err accDecode
  else if a < 0x400000 then .sram
  else if 0x8000000 ≤ a ∧ a < 0x8200000 then .mram
  else if 0x40000000 ≤ a ∧ a < 0x40040000 then known .lane
  else if 0x48000000 ≤ a ∧ a < 0x48010000 then
    match d.reaches l with
    | some c => if (d.comp c).powered then known (.comp c) else .err accNoComp
    | none => .err accNoComp
  else if 0x4C000000 ≤ a ∧ a < 0x4C001000 then (if d.hubUp l then known .wit else .err accTimeout)
  else .err accDecode

/-! ### Registers that show the present moment -/

/-- A lane's registers as they stand now: spans of time and selected views. -/
def Lane.live (x : Lane) (clk now : Nat) : Lane :=
  let x := x.showHeard clk
  let x : Lane := match x.sec.ends with
    | some e => x.wr Reg.DBG_STAT.LEFT (min 2047 ((e - clk) / 100000000))
    | none => x
  let x : Lane := match x.start.cleanAt with
    | some c => if x.st == .active then x.wr Reg.LCTL_START_CNT.CLEAN_S (min 600 ((clk - c) / 100000000)) else x
    | none => x
  let x := (x.wr Reg.CHX_TCNT.IN_1S (min 4 (countWithin x.eng.cmps now 100000000))).wr Reg.CHX_TCNT.IN_1H
    (min 16 (countWithin x.eng.cmps now hourTicks))
  x.wr Reg.JLF_MEMB.PRESENT (bit (x.fab.vector.contains (x.rd Reg.JLF_MEMB_SEL.NODE)))

/-- A companion's registers as they stand now. -/
def Dev.compLive (d : Dev) (c : CompId) : Comp :=
  let x := d.comp c
  let x := [false, true].foldl (fun x b =>
    x.wr (Reg.GDV_STAT.FAULTS_1S (bit b)) (min 2 ((x.bridge b).recentFaults x.tcorr).length)) x
  let x := (List.range 4).foldl (fun x n => x.wr (Reg.SNT_STAT.CNT n)
    (min 15 ((x.sentCh n).rejects.filter (fun t => decide (d.clk < t + 10000000))).length)) x
  let x := (x.wr Reg.CTB_TIME_LO.TIME (x.tcorr % 2 ^ 32)).wr Reg.CTB_TIME_HI.TIME (x.tcorr / 2 ^ 32)
  let e := Sparse.get 0 x.lower.table (x.rd Reg.JMC_TBL_IDX.IDX)
  let x := ((x.wr Reg.JMC_TBL_LO.ENTRY (e % 2 ^ 32)).wr Reg.JMC_TBL_HI.ENTRY (e / 2 ^ 32)).winviolShow
  (x.wr (Reg.CMPS_PORT.UP 0) (bit (d.lane (homeLane c)).powered)).wr (Reg.CMPS_PORT.UP 1) (bit d.lD.powered)

/-- The witness's registers as they stand now. -/
def Wit.live (w : Wit) (clk : Nat) : Wit :=
  let w := (List.range 4).foldl (fun w i => (w.wr (Reg.WIT_HB.SEEN_Y i) (bit (within w.hbAt i clk 3000))).wr
    (Reg.WIT_HB.SEEN_C i) (bit (within w.stAt i clk 3000))) w
  (w.wr Reg.WIT_RET_LO.COUNT (w.ret % 2 ^ 32)).wr Reg.WIT_RET_HI.COUNT (w.ret / 2 ^ 32)

/-! ### Reads (R429, R432, R452) -/

/-- The registers that a read of the register at `a` latches (R432, R452). -/
def latchedBy (a : Nat) : List Nat :=
  if a = Reg.RDN_DIG_LO.DIGEST.addr then [Reg.RDN_DIG_HI.DIGEST.addr]
  else if a = (Reg.BST_DIS_LO.BANKS 0).addr then [(Reg.BST_DIS_HI.BANKS 0).addr]
  else if a = Reg.LCS_UID_LO.UID.addr then [Reg.LCS_UID_HI.UID.addr]
  else if a = (Reg.EVT_LAST.WORD 0).addr then [1, 2, 3].map (fun i => (Reg.EVT_LAST.WORD i).addr)
  else if a = Reg.CTB_TIME_LO.TIME.addr then [Reg.CTB_TIME_HI.TIME.addr]
  else if a = Reg.WIT_RET_LO.COUNT.addr then [Reg.WIT_RET_HI.COUNT.addr]
  else []

/-- The key of a latched register of an accessor. -/
def latchKey (a who : Nat) : Nat := a * 16 + who

/-- A read of a register file by one accessor: the latches after it, and the word. -/
def readFile (regs : RegMap) (latch : Sp Nat) (a who : Nat) : Sp Nat × Nat :=
  ((latchedBy a).foldl (fun t b => Sparse.put t (latchKey b who) (regs.word b)) latch,
    (Sparse.look latch (latchKey a who)).getD (regs.word a))

/-- A register read by an accessor of a lane (R428, R429): the part after it, its outcome and its data. -/
def Dev.regRd (d : Dev) (l : LaneId) (acc : Accessor) (a : Nat) : Dev × Nat × Nat :=
  let who := accCode acc l
  match d.place l a with
  | .lane =>
    let r := readFile ((d.lane l).live d.clk (d.laneTime l).1).regs (d.lane l).latch a who
    (d.modLane l (fun x => { x with latch := r.1 }), accOk, r.2)
  | .comp c =>
    let r := readFile (d.compLive c).regs (d.comp c).latch a who
    (d.modComp c (fun x => { x with latch := r.1 }), accOk, r.2)
  | .wit =>
    let r := readFile (d.wit.live d.clk).regs d.wit.latch a who
    (d.modWit (fun w => { w with latch := r.1 }), accOk, r.2)
  | .err out => (d, out, 0)
  | .sram => (d, accDecode, 0)
  | .mram => (d, accDecode, 0)

/-! ### Writes (R431, R436 to R439) -/

/-- DEBUG may read memory in the present state and session (R339, R424). -/
def Lane.debugReads (x : Lane) : Bool := x.life == 1 || x.life == 2 || x.life == 4 || (x.life == 3 && hasBit x.granted 0)

/-- Debug writes are allowed in the present state and session (R424). -/
def Lane.debugWrites (x : Lane) : Bool :=
  x.life == 1 || x.life == 2 || x.life == 4 || (x.life == 3 && hasBit x.granted 1 && x.st != .active)

/-- The register at `a` is one of `n` at a stride of 4 from `f`. -/
def inArray (f : Fld) (n a : Nat) : Bool := decide (f.addr ≤ a) && decide (a < f.addr + 4 * n)

/-- An accessor may write the register at `a` (R428, R437, R439). -/
def Lane.mayWrite (x : Lane) (acc : Accessor) (a : Nat) : Bool :=
  let gn := acc == .gnomon
  let spi := acc == .spi
  if acc == .ring then false
  else if a = (Reg.ARB_PRIO.PRIO 0).addr then gn || x.debugWrites
  else if a = (Reg.PWR_PAD_RELEASE.RELEASE 0).addr ∨ a = (Reg.FQ_CTL.FLUSH 0).addr ∨ a = Reg.LCTL_SETUP.LOCK.addr then gn
  else if a = Reg.LCS_ROT_PROG.SLOT.addr then spi && x.life == 1
  else if inArray (Reg.LCS_CERT.WORD 0) 32 a ∨ a = Reg.LCS_CERT_CTL.SUBMIT.addr then spi && x.life != 5
  else if inArray (Reg.LCS_KEY_DATA.WORD 0) 4 a ∨ a = Reg.LCS_KEY_CTL.OP.addr then spi
  else if inArray (Reg.DBG_RESP.WORD 0) 16 a ∨ a = Reg.DBG_CTL.REQ.addr then spi && x.life != 0 && x.life != 5
  else if (fieldsAt a).any (fun f => f.acc == .rwl) then gn
  else true

/-- One field under a write of `w` (R8, R431): RW takes it, RWL before the lock only, W1C loses the bits written 1. Fields
with a meaning of their own, W1S and WO, are the block's. -/
def writeField (locked : Bool) (w : Nat) (m : RegMap) (f : Fld) : RegMap :=
  match f.acc with
  | .rw => m.set f (f.of w)
  | .rwl => if locked then m else m.set f (f.of w)
  | .w1c => m.set f (m.get f - Nat.land (m.get f) (f.of w))
  | .ro => m
  | .w1s => m
  | .wo => m

/-- The plain fields of the register at `a` under a write. -/
def writeReg (locked : Bool) (a w : Nat) (m : RegMap) : RegMap := (fieldsAt a).foldl (writeField locked w) m

/-- Bit `i` of a written word. -/
def wrBit (w i : Nat) : Bool := hasBit w i

/-- What a write does in a lane beyond its plain fields: CLR and W1S fields and the blocks that act on a write. -/
def Dev.laneEffect (d : Dev) (l : LaneId) (a w : Nat) : Dev :=
  if a = Reg.LCTL_SETUP.LOCK.addr then (if wrBit w 31 then d.lockSetup l else d)
  else if inArray (Reg.CHE_SLACK_MIN.MIN 0) 16 a then
    (if wrBit w 31 then d.wrL l (Reg.CHE_SLACK_MIN.MIN ((a - (Reg.CHE_SLACK_MIN.MIN 0).addr) / 4)) 0xFFFFF else d)
  else if inArray (Reg.ARB_MAXWAIT.MAX 0) 10 a then
    (if wrBit w 31 then d.wrL l (Reg.ARB_MAXWAIT.MAX ((a - (Reg.ARB_MAXWAIT.MAX 0).addr) / 4)) 0 else d)
  else if a = (Reg.PWR_PAD_RELEASE.RELEASE 0).addr then
    d.each ((List.range 4).filter (wrBit w)) (fun d n => d.padRelease l n)
  else if a = Reg.LCS_IMG_DATA.DATA.addr then d.modLane l (·.imgData w)
  else if a = Reg.LCS_ROT_PROG.SLOT.addr then d.modLane l (·.rotProgram w)
  else if a = Reg.LCS_CERT_CTL.SUBMIT.addr then (if wrBit w 31 then d.modLane l (·.certSubmit d.clk) else d)
  else if a = Reg.LCS_KEY_CTL.OP.addr then d.keyOp l w
  else if inArray (Reg.LCS_KEY_DATA.WORD 0) 4 a then
    d.wrL l (Reg.LCS_KEY_DATA.WORD ((a - (Reg.LCS_KEY_DATA.WORD 0).addr) / 4)) w
  else if inArray (Reg.DBG_RESP.WORD 0) 16 a then d.wrL l (Reg.DBG_RESP.WORD ((a - (Reg.DBG_RESP.WORD 0).addr) / 4)) w
  else if a = Reg.DBG_CTL.REQ.addr then
    let d := if wrBit w 31 then d.modLane l Lane.dbgReq else d
    let d := if wrBit w 30 then d.wrL l Reg.DBG_CTL.SUBMIT 1 else d
    if wrBit w 29 then d.modLane l Lane.dbgEnd else d
  else d

/-- What a write does in a companion beyond its plain fields. -/
def Dev.compEffect (d : Dev) (l : LaneId) (c : CompId) (a w : Nat) : Dev :=
  if inArray (Reg.GDV_STAT.DESAT 0) 2 a then d.w1cFault c (a != (Reg.GDV_STAT.DESAT 0).addr) (wrBit w 30) (wrBit w 29)
  else if a = (Reg.FQ_CTL.FLUSH 0).addr then d.fqFlush l w
  else if a = Reg.JMC_WV_SEL.NODE.addr then d.modComp c Comp.winviolShow
  else d

/-- The DIAG event of a write that meets locked RWL fields (R431). -/
def Dev.setupWerr (d : Dev) (l : LaneId) (locked : Bool) (a : Nat) : Dev :=
  if locked && (fieldsAt a).any (fun f => f.acc == .rwl) then d.raise l 5 sevDiag (accData accOk a) else d

/-- A write to a companion's register that takes effect. -/
def Dev.compWr (d : Dev) (l : LaneId) (c : CompId) (a w : Nat) : Dev :=
  let locked := (d.comp c).locked
  let plain := !inArray (Reg.GDV_STAT.DESAT 0) 2 a
  let d := d.modComp c (fun x => { x with regs := if plain then writeReg locked a w x.regs else x.regs })
  (d.compEffect l c a w).setupWerr l locked a

/-- A register write by an accessor of a lane (R428 to R439, R451): the part after it and its outcome. -/
def Dev.regWr (d : Dev) (l : LaneId) (acc : Accessor) (a w : Nat) : Dev × Nat :=
  let w := w % 2 ^ 32
  match d.place l a with
  | .lane =>
    if (d.lane l).mayWrite acc a then
      let locked := (d.lane l).flag Reg.LCTL_SETUP.LOCK
      let d := d.modLane l (fun x => { x with regs := writeReg locked a w x.regs })
      ((d.laneEffect l a w).setupWerr l locked a, accOk)
    else (d, accPerm)
  | .comp c => if (d.lane l).mayWrite acc a then (d.compWr l c a w, accOk) else (d, accPerm)
  | .wit => (d, accPerm)
  | .err out => (d, out)
  | .sram => (d, accDecode)
  | .mram => (d, accDecode)

/-- A register write with its event. -/
def Dev.regWrEvt (d : Dev) (l : LaneId) (acc : Accessor) (a w : Nat) : Dev :=
  let r := d.regWr l acc a w
  r.1.accReport l acc r.2 a

/-! ### Memory accesses of the service port (R339, R424, R428) -/

/-- A 32-bit read of Chord SRAM or of the MRAM window by DEBUG: the outcome and the data. -/
def Dev.memRd (m : Mems) (d : Dev) (l : LaneId) (a : Nat) : Mems × Dev × Nat × Nat :=
  let x := d.lane l
  if !x.debugReads then (m, d, accPerm, 0)
  else if 0x8000000 ≤ a then (m, d, accOk, x.mramWord l (a - 0x8000000))
  else
    let r := Dev.readWord m (d.modLane l (fun x => x.beats 9 1)) l 9 (a / 8) .clean
    if r.2.2 then (r.1, r.2.1, accOk, (r.1.lane l).num a 4) else (r.1, r.2.1, accEcc, 0)

/-- A 32-bit write of Chord SRAM by DEBUG (R331, R332, R424); MRAM is not written through its window (R27). -/
def Dev.memWr (m : Mems) (d : Dev) (l : LaneId) (a w : Nat) : Mems × Dev × Nat :=
  if 0x8000000 ≤ a then (m, d, accDecode)
  else if !(d.lane l).debugWrites then (m, d, accPerm)
  else
    let r := Dev.readWord m (d.modLane l (fun x => x.beats 9 1)) l 9 (a / 8) .clean
    if r.2.2 then (r.1.setLane l ((r.1.lane l).store a 4 (w % 2 ^ 32)), r.2.1, accOk) else (r.1, r.2.1, accEcc)

/-! ### The service SPI port (R433, R434) -/

/-- The port shows the end of an access. -/
def Lane.spiEnd (x : Lane) (out data : Nat) : Lane :=
  { x with spi := { status := some out, data := if out = accOk then data else 0 }, xacc := none }

/-- A witness access that gets no answer runs on until the time limit of R29. -/
def Dev.waits (d : Dev) (l : LaneId) (a : Nat) (spi : Bool) : Dev :=
  d.modLane l (fun x => { x with xacc := some { addr := a, spi := spi, at_ := d.clk }
                                 spi := if spi then {} else x.spi })

/-- SPI_READ (R27, R29, R433, R434): the status byte and the data of a READ access. -/
def execSpiRead (tm : Nat) (l : LaneId) (addr : Nat) (s : State) : Host.Outcome State Fault Refusal :=
  s.actM tm (fun _ m d =>
    if !(d.lane l).powered then (m, d)
    else
      let a := addr % 2 ^ 32
      let done := fun (m : Mems) (d : Dev) (out data : Nat) => (m, (d.modLane l (·.spiEnd out data)).accReport l .spi out a)
      match d.place l a with
      | .sram => let r := Dev.memRd m d l a; done r.1 r.2.1 r.2.2.1 r.2.2.2
      | .mram => let r := Dev.memRd m d l a; done r.1 r.2.1 r.2.2.1 r.2.2.2
      | .err out => if out = accTimeout then (m, d.waits l a true) else done m d out 0
      | .lane => let r := d.regRd l .spi a; done m r.1 r.2.1 r.2.2
      | .comp _ => let r := d.regRd l .spi a; done m r.1 r.2.1 r.2.2
      | .wit => let r := d.regRd l .spi a; done m r.1 r.2.1 r.2.2)

/-- SPI_WRITE (R27, R428, R433, R437, R439): a WRITE access and its status byte. -/
def execSpiWrite (tm : Nat) (l : LaneId) (addr w : Nat) (s : State) : Host.Outcome State Fault Refusal :=
  s.actM tm (fun _ m d =>
    if !(d.lane l).powered then (m, d)
    else
      let a := addr % 2 ^ 32
      let done := fun (m : Mems) (d : Dev) (out : Nat) => (m, (d.modLane l (·.spiEnd out 0)).accReport l .spi out a)
      match d.place l a with
      | .sram => let r := Dev.memWr m d l a w; done r.1 r.2.1 r.2.2
      | .mram => let r := Dev.memWr m d l a w; done r.1 r.2.1 r.2.2
      | .err out => if out = accTimeout then (m, d.waits l a true) else done m d out
      | .lane => let r := d.regWr l .spi a w; done m r.1 r.2
      | .comp _ => let r := d.regWr l .spi a w; done m r.1 r.2
      | .wit => let r := d.regWr l .spi a w; done m r.1 r.2)

/-! ### Register commands -/

/-- REGISTER_WRITE (R27, R28, R429, R431, R437, R439): a write by the Gnomon or the service port, with lock and permission
checks. -/
def execRegisterWrite (tm : Nat) (l : LaneId) (acc : Accessor) (addr w : Nat) (s : State) : Host.Outcome State Fault Refusal :=
  s.act tm (fun _ d =>
    if !(d.lane l).powered then d
    else
      match d.place l addr with
      | .err out => if out = accTimeout ∧ acc ≠ .ring then d.waits l addr (acc == .spi) else d.regWrEvt l acc addr w
      | _ => d.regWrEvt l acc addr w)

/-- LO_READ_LATCH (R432, R452): reading a LO register latches its HI register for the same accessor. -/
def execLoReadLatch (tm : Nat) (l : LaneId) (acc : Accessor) (addr : Nat) (s : State) : Host.Outcome State Fault Refusal :=
  s.act tm (fun _ d =>
    if (d.lane l).powered && !(latchedBy addr).isEmpty then
      let r := d.regRd l acc addr
      r.1.accReport l acc r.2.1 addr
    else d)

/-- The companion whose position carried an access of a lane before the switch moved: its own, or for lane D the one in
OPEN (R14, R449). -/
def Dev.carried (d : Dev) (l : LaneId) : Option CompId :=
  match d.reaches l, homeComp l with
  | some c, _ => some c
  | none, some c => some c
  | none, none => allComps.find? (fun c => (d.comp c).sw == .opened)

/-- COMPANION_REGISTER_ACCESS (R28, R448, R449): an access over the selected lane port. When the switch has left the position
that carried it, a write that the companion had acknowledged has taken effect and every other access ends NO_COMPANION. -/
def execCompanionRegisterAccess (tm : Nat) (l : LaneId) (acc : Accessor) (addr : Nat) (wr : Option Nat) (moved acked : Bool)
    (s : State) : Host.Outcome State Fault Refusal :=
  s.act tm (fun _ d =>
    let inRange := decide (0x48000000 ≤ addr) && decide (addr < 0x48010000)
    let show_ := fun (d : Dev) (out data : Nat) => if acc = .spi then d.modLane l (·.spiEnd out data) else d
    if !((d.lane l).powered && inRange) then d
    else if !moved then
      match wr with
      | some w => let r := d.regWr l acc addr w; (show_ r.1 r.2 0).accReport l acc r.2 addr
      | none => let r := d.regRd l acc addr; (show_ r.1 r.2.1 r.2.2).accReport l acc r.2.1 addr
    else
      match wr, acked, d.carried l with
      | some w, true, some c =>
        if (d.lane l).mayWrite acc addr && (d.comp c).powered then show_ (d.compWr l c addr (w % 2 ^ 32)) accOk 0
        else (show_ d accNoComp 0).accReport l acc accNoComp addr
      | _, _, _ => (show_ d accNoComp 0).accReport l acc accNoComp addr)

/-- SLACK_MIN_CLR (R83, R428): writing CHE_SLACK_MIN[n].CLR sets MIN to 0xF_FFFF. -/
def execSlackMinClr (tm : Nat) (l : LaneId) (acc : Accessor) (n : Nat) (s : State) : Host.Outcome State Fault Refusal :=
  s.act tm (fun _ d =>
    if (d.lane l).powered && decide (n < 16) then d.regWrEvt l acc (Reg.CHE_SLACK_MIN.MIN n).addr (2 ^ 31) else d)

/-- MAXWAIT_CLR (R346, R428): writing ARB_MAXWAIT[r].CLR sets MAX to 0. -/
def execMaxwaitClr (tm : Nat) (l : LaneId) (acc : Accessor) (n : Nat) (s : State) : Host.Outcome State Fault Refusal :=
  s.act tm (fun _ d =>
    if (d.lane l).powered && decide (n < 10) then d.regWrEvt l acc (Reg.ARB_MAXWAIT.MAX n).addr (2 ^ 31) else d)

/-- ARB_PRIO_WRITE (R345, R439): the arbiters rank by the new values from their next phase on. -/
def execArbPrioWrite (tm : Nat) (l : LaneId) (acc : Accessor) (w : Nat) (s : State) : Host.Outcome State Fault Refusal :=
  s.act tm (fun _ d => if (d.lane l).powered then d.regWrEvt l acc (Reg.ARB_PRIO.PRIO 0).addr w else d)

end Sys2Proof.Machine
end

