-- ==== Sys2Proof/Machine/Rings.lean ====
section
/-!
DEFINITION. Ring traffic (R302 to R313): the RCA poll, responses of the host, resends, a lost host, generation changes
and wake doorbells.
-/
namespace Sys2Proof.Machine

/-! ### Responses (R307, R309) -/

/-- The fields of an RWP payload (R307). -/
structure Rwp where
  op     : Nat
  tag    : Nat
  status : Nat
  addr   : Nat
  len    : Nat
  data   : List Byte
deriving DecidableEq, Repr

/-- An RWP payload; none where it breaks R307. -/
def rwpOf (p : List Byte) : Option Rwp :=
  let b := fun (i : Nat) => (p.getD i 0).toNat
  let len := beNat ((p.drop 12).take 2)
  let dataLen := if b 0 = 2 ∨ b 0 = 3 then len else 0
  if p.length < 16 ∨ b 0 = 0 ∨ 5 < b 0 ∨ 16 ≤ b 2 ∨ b 14 ≠ 0 ∨ b 15 ≠ 0 ∨ len < 4 ∨ 1008 < len ∨ len % 4 ≠ 0 ∨
      2 < b 3 ∨ (b 0 ≤ 2 ∧ b 3 ≠ 0) ∨ p.length ≠ 16 + dataLen then none
  else some { op := b 0, tag := b 1, status := b 3, addr := beNat ((p.drop 4).take 8), len := len, data := p.drop 16 }

/-- A request that reads (R307). -/
def Req.reads (q : Req) : Bool :=
  match q.what with
  | .rca => true
  | .fetch _ _ _ => true
  | .desc _ _ => false
  | .devWord _ _ => false

/-- A response ends a request: TAG, ADDR and LENGTH match, READ_RSP for a read, WRITE_ACK for a write, ERROR_RSP for
either (R309, R312). -/
def Rwp.answers (p : Rwp) (q : Req) : Bool :=
  q.tag == p.tag && q.addr == p.addr && q.len == p.len &&
    (p.op == 5 || (p.op == 3 && q.reads) || (p.op == 4 && !q.reads))

/-- An accepted response ends its request: the host is heard (R309, R310). -/
def Lane.ended (x : Lane) (q : Req) (clk : Nat) : Lane :=
  let ring := { x.ring with out := x.ring.out.erase q, ended := Sparse.put x.ring.ended q.tag (q.addr, q.len)
                            lastRsp := clk }
  ({ x with ring := ring }.wr Reg.RNG_STAT.HOST_LOST 0).outStat

/-- An ET_RWP frame received by a companion, as a response of one kind (R307 to R309): the lane, the request it ends and
its fields. A frame that breaks R307 counts as FORMAT, a later copy of an ended response in DUP_RSP. -/
def Dev.rwpRx (d : Dev) (c : CompId) (f : RxFrame) (op : Nat) : Dev × Option (LaneId × Req × Rwp) :=
  match d.rxEt c f 6 with
  | (d, none) => (d, none)
  | (d, some (l, h)) =>
    match rwpOf h.payload with
    | none => (d.incC c (Reg.JMC_CNT.FMT (bit f.netY)), none)
    | some p =>
      if p.op ≠ op then (d, none)
      else
        match (d.lane l).ring.out.find? p.answers with
        | some q => (d.modLane l (·.ended q d.clk), some (l, q, p))
        | none =>
          (if Sparse.look (d.lane l).ring.ended p.tag = some (p.addr, p.len) then d.incL l Reg.RWP_CNT.DUP_RSP else d, none)

/-! ### Fetched commands (R321, R322) -/

/-- The index that the next fetched descriptor of CMDQ `r` has. -/
def Lane.nextIdx (x : Lane) (r : Nat) : Nat := (x.rd (Reg.RNG_IDX.IDX r) + x.undecided r) % 65536

/-- An APP command is between fetch and its T_app (R321). -/
def Lane.appBusy (x : Lane) : Bool :=
  x.ring.app.isSome || x.ring.cmds.any (fun c => decide (2 ≤ c.opcode) && decide (c.opcode ≤ 4))

/-- Fetched descriptors of CMDQ `r` from index `idx` join the commands in hand in order. A second APP command stays
unfetched, with all that follows it (R321). -/
def Lane.arrive (r gen : Nat) : List (Nat × List Byte) → Lane → Lane
  | [], x => x
  | (idx, raw) :: t, x =>
    let c : Cmd := { ring := r, gen := gen, idx := idx, raw := raw }
    if idx ≠ x.nextIdx r then x
    else if 2 ≤ c.opcode ∧ c.opcode ≤ 4 ∧ x.appBusy then
      { x with ring := { x.ring with fetched := Sparse.put x.ring.fetched r idx } }
    else Lane.arrive r gen t { x with ring := { x.ring with cmds := x.ring.cmds ++ [c] } }

/-- The descriptors of a fetch response with their indices. -/
def fetchedDescs (idx n : Nat) (data : List Byte) : List (Nat × List Byte) :=
  (List.range n).map (fun j => ((idx + j) % 65536, (data.drop (64 * j)).take 64))

/-- What the ring engine of a lane does when a response has changed its rings: it completes what is due, writes device
words and held items, and sends what MAX_OUT allows (R305, R311, R316). -/
def Dev.ringsOn (d : Dev) (l : LaneId) : Dev :=
  let d := d.drain l
  d.modLane l (fun x => ((List.range 8).foldl (fun x r => x.putWord l r) x).fillRings l)

/-- RWP_READ_RSP (R302, R303, R309, R321): the RCA's doorbells drive fetches and writes; fetched descriptors become
commands. A response to a fetch of an older generation carries nothing. -/
def execRwpReadRsp (tm : Nat) (c : CompId) (f : RxFrame) (s : State) : Host.Outcome State Fault Refusal :=
  s.act tm (fun _ d =>
    match d.rwpRx c f 3 with
    | (d, none) => d
    | (d, some (l, q, p)) =>
      match q.what with
      | .rca => ((d.doorbells l p.data).modLane l (·.fetch l)).ringsOn l
      | .fetch r idx n =>
        if q.gen = (d.lane l).rd (Reg.RNG_IDX.GEN r) then
          (d.modLane l (Lane.arrive r q.gen (fetchedDescs idx n p.data))).ringsOn l
        else d
      | .desc _ _ => d
      | .devWord _ _ => d)

/-- Descriptors that an acknowledged device word of ring `r` covers are the host's (R311). -/
def Lane.covered (x : Lane) (r gen idx : Nat) : Lane :=
  { x with ring := { x.ring with uncov := x.ring.uncov.filter (fun q => match q.what with
    | .desc r' i => !(r' == r && q.gen == gen && decide ((idx + 65536 - i - 1) % 65536 < 32768))
    | _ => true) } }

/-- A descriptor write is acknowledged: a completion may free its command's device word, a FENCE, or the entry to a power
state (R311, R324, R325, R327). -/
def Dev.descAcked (d : Dev) (l : LaneId) (r idx : Nat) : Dev :=
  if r = 4 then
    (d.modLane l (fun x => { x with ring := { x.ring with cpls := x.ring.cpls.filter (fun k => k.idx != idx) } })).powerAcked
      l idx
  else d

/-- RWP_WRITE_ACK (R309, R311, R325): the write request ends, and device words follow the descriptors they cover. -/
def execRwpWriteAck (tm : Nat) (c : CompId) (f : RxFrame) (s : State) : Host.Outcome State Fault Refusal :=
  s.actP tm (fun _ d =>
    match d.rwpRx c f 4 with
    | (d, none) => d
    | (d, some (l, q, _)) =>
      let now := fun (r : Nat) => q.gen == (d.lane l).rd (Reg.RNG_IDX.GEN r)
      let d := match q.what with
        | .desc r i => if now r then d.descAcked l r i else d
        | .devWord r i => d.modLane l (·.covered r q.gen i)
        | .rca => d
        | .fetch _ _ _ => d
      d.ringsOn l)

/-- RWP_ERROR_RSP (R312): the request ends without retry, its ring stops, and for the RCA read every ring of the lane. -/
def execRwpErrorRsp (tm : Nat) (c : CompId) (f : RxFrame) (s : State) : Host.Outcome State Fault Refusal :=
  s.act tm (fun _ d =>
    match d.rwpRx c f 5 with
    | (d, none) => d
    | (d, some (l, q, p)) =>
      let d := (d.incL l Reg.RWP_CNT.DENIED).raise l 12 sevFault (p.tag + 256 * p.status)
      let rings := match q.what with
        | .rca => (List.range 8).filter (fun r => (d.lane l).serves r)
        | .fetch r _ _ => [r]
        | .desc r _ => [r]
        | .devWord r _ => [r]
      (d.modLane l (fun x => rings.foldl (fun x r => x.stopRing r) x)).ringsOn l)

/-! ### Polls, resends and a lost host (R305, R306, R310) -/

/-- The ET segment of the running cycle: 0 before it, 1 in it, 2 after it. -/
def Dev.etPart (d : Dev) (l : LaneId) : Nat :=
  match d.adopted l with
  | some c =>
    let x := d.comp c
    let y := d.lane l
    let start := y.fab.cycle * y.cycleLen + x.etStart y
    if x.tcorr < start then 0 else if x.tcorr < start + y.rd Reg.JLF_ET.ET_LEN * 100 then 1 else 2
  | none => 0

/-- A lane's ring engine may send now: rings enabled, a state of R313, its node ACTIVE and the ET segment running. -/
def Dev.ringOpen (d : Dev) (l : LaneId) : Bool :=
  let x := d.lane l
  x.powered && x.flag Reg.RNG_CFG.EN && x.ringState && x.fphase == phActive && d.etPart l == 1

/-- RCA_POLL (R299, R301, R305): in the ET segment of every cycle that the poll cadence names, or that a WAKE_DB asked for,
the lane reads the whole RCA; the read is its first ET_RWP frame of the cycle. -/
def execRcaPoll (tm : Nat) (l : LaneId) (s : State) : Host.Outcome State Fault Refusal :=
  s.act tm (fun _ d =>
    let d := d.serving
    let x := d.lane l
    let n := x.fab.cycle
    let asked := match x.ring.extra with
      | some e => decide (e ≤ n)
      | none => false
    if d.ringOpen l && x.ring.polled != some n && (n % (x.rd Reg.RNG_CFG.CADENCE + 1) == 0 || asked) then
      d.modLane l (fun x =>
        let x := { x with ring := { x.ring with polled := some n, extra := if asked then none else x.ring.extra } }
        if x.ring.out.length < x.rd Reg.RWP_CFG.MAX_OUT then
          let held := x.fab.etq
          let x := { x with fab := { x.fab with etq := [] } }.sendReq { what := .rca, addr := x.rca, len := 384 }
          { x with fab := { x.fab with etq := x.fab.etq ++ held } }
        else { x with ring := { x.ring with wait := { what := .rca, addr := x.rca, len := 384 } :: x.ring.wait } })
    else d)

/-- A write of an older generation, or a fetch of one, is not sent again (R303). -/
def Lane.stale (x : Lane) (q : Req) : Bool :=
  match q.what with
  | .rca => false
  | .fetch r _ _ => q.gen != x.rd (Reg.RNG_IDX.GEN r)
  | .desc r _ => q.gen != x.rd (Reg.RNG_IDX.GEN r)
  | .devWord r _ => q.gen != x.rd (Reg.RNG_IDX.GEN r)

/-- An outstanding request replaced by another. -/
def Lane.setReq (x : Lane) (q q' : Req) : Lane :=
  { x with ring := { x.ring with out := x.ring.out.map (fun o => if o == q then q' else o) } }

/-- A request is sent again with the same tag and TRY incremented (R310). -/
def Lane.resend (x : Lane) (q : Req) : Lane :=
  let q' := { q with try_ := q.try_ + 1, sent := x.fab.cycle }
  ((x.setReq q q').sendEt 6 (x.rd Reg.RWP_CFG.HOST_NODE) q'.payload).inc Reg.RWP_RETRY.COUNT

/-- One outstanding request in the ET segment of a cycle (R310): without response by the end of the second cycle it is sent
again; after MAX_RETRY resends it fails with RWP_TIMEOUT: a read of the RCA ends, a fetch is not consumed, and a write is
resent in every later ET segment. -/
def Dev.retry (d : Dev) (l : LaneId) (q : Req) : Dev :=
  let x := d.lane l
  let n := x.fab.cycle
  let most := x.rd Reg.RWP_CFG.MAX_RETRY
  let drop := fun (x : Lane) => { x with ring := { x.ring with out := x.ring.out.erase q } }.outStat
  let failed := fun (d : Dev) => (d.incL l Reg.RWP_CNT.TIMEOUT).raise l 11 sevDiag (q.tag + 256 * (if q.reads then 1 else 2))
  if x.stale q then (if decide (4 ≤ q.ring) && q.ring != 8 then d else d.modLane l drop)
  else if decide (4 ≤ q.ring) && q.ring != 8 && x.stopped q.ring then d
  else if most < q.try_ then (if q.sent < n then d.modLane l (·.resend q) else d)
  else if n < q.sent + 3 then d
  else if q.try_ < most then d.modLane l (·.resend q)
  else
    match q.what with
    | .rca => (failed d).modLane l drop
    | .fetch r idx _ => (failed d).modLane l (fun x =>
        let x := drop x
        { x with ring := { x.ring with fetched := Sparse.put x.ring.fetched r idx } })
    | .desc _ _ => (failed d).modLane l (·.resend q)
    | .devWord _ _ => (failed d).modLane l (·.resend q)

/-- RWP_RESEND (R310): in the ET segment a lane sends again what has had no response, and then what waits. -/
def execRwpResend (tm : Nat) (l : LaneId) (s : State) : Host.Outcome State Fault Refusal :=
  s.act tm (fun _ d =>
    if d.ringOpen l then (d.each (d.lane l).ring.out (fun d q => d.retry l q)).modLane l Lane.pump else d)

/-- HOST_LOST (R310): no response for HOST_TMO × 10 ms. -/
def execHostLost (tm : Nat) (l : LaneId) (s : State) : Host.Outcome State Fault Refusal :=
  s.act tm (fun t d =>
    let x := d.lane l
    if x.powered && x.flag Reg.RNG_CFG.EN && x.ringState && !x.flag Reg.RNG_STAT.HOST_LOST &&
        decide (x.ring.lastRsp + x.rd Reg.RWP_CFG.HOST_TMO * 1000000 ≤ t) then
      (d.wrL l Reg.RNG_STAT.HOST_LOST 1).raise l 9 sevFault 0
    else d)

/-- RING_GEN_REWRITE (R303): when each write of the older generation has been acknowledged, or the ET segment of the second
cycle after its latest send has ended, the descriptors of the ring are written again from index 0. -/
def execRingGenRewrite (tm : Nat) (l : LaneId) (r : Nat) (s : State) : Host.Outcome State Fault Refusal :=
  s.act tm (fun _ d =>
    let x := d.lane l
    let old := x.ring.out.filter (fun q => q.ring == r && x.stale q)
    let above := fun (q : Req) =>
      decide (q.sent + 2 < x.fab.cycle) || (q.sent + 2 == x.fab.cycle && d.etPart l == 2)
    match Sparse.look x.ring.redo r with
    | some qs =>
      if x.powered && x.ringState && old.all above then
        d.modLane l (fun x =>
          { x with ring := { x.ring with out := x.ring.out.filter (fun q => !(q.ring == r && x.stale q))
                                         wait := x.ring.wait ++ qs, redo := Sparse.del x.ring.redo r } }.outStat.pump)
      else d
    | none => d)

/-- WAKE_DB_RECEIVE (R306): a frame that names a ring the lane serves asks for one extra read in the next ET segment. -/
def execWakeDbReceive (tm : Nat) (c : CompId) (f : RxFrame) (s : State) : Host.Outcome State Fault Refusal :=
  s.act tm (fun _ d =>
    match d.rxEt c f 7 with
    | (d, none) => d
    | (d, some (l, h)) =>
      let rings := (h.payload.getD 0 0).toNat
      if (List.range 8).any (fun r => hasBit rings r && (d.lane l).serves r) then
        d.modLane l (fun x => { x with ring := { x.ring with extra := some (x.ring.extra.getD (x.fab.cycle + 1)) } })
      else d)

end Sys2Proof.Machine
end

