-- ==== Sys2Proof/Machine/Commands.lean ====
section
/-!
DEFINITION. Ring commands (R285, R314 to R327, R412): the checks, forwarding and application of APP commands, and the
commands of the serving lane.
-/
namespace Sys2Proof.Machine

/-! ### Checks (R322, R326) -/

/-- APP commands (R319). -/
def isApp (op : Nat) : Bool := decide (2 ≤ op) && decide (op ≤ 4)

/-- A command is legal in a lane's state at its decided level (R326). -/
def Lane.legalCmd (x : Lane) (op : Nat) : Bool :=
  let dl := x.rd Reg.RDN_STAT.DL
  let calm := x.st == .ready || x.st == .minimal
  let act := x.st == .active
  if op = 0x11 then calm
  else if op = 0x20 then calm || (act && decide (dl ≤ 1))
  else if op = 0x03 then act && decide (dl ≤ 3)
  else if isApp op then act && decide (dl ≤ 2)
  else calm || (act && decide (dl ≤ 2))

/-- The same with R326's last rule: an unlinked serving lane refuses every APP command. -/
def Lane.legalServe (x : Lane) (op : Nat) : Bool := x.legalCmd op && !(isApp op && x.flag Reg.RDN_STAT.UNLINKED)

/-- ARGS bytes that an opcode names, from 0x10 (R319). -/
def namedArgs (op : Nat) : Nat :=
  if isApp op then 32 else if op = 0x10 then 36 else if op = 0x12 ∨ op = 0x20 then 4 else 0

/-- Reserved fields of a descriptor are 0 (R314, R319, R322). -/
def Cmd.reservedOk (c : Cmd) : Bool :=
  decide (c.flags < 2) && (c.arg 2 2).all (· == 0) && (c.raw.drop (0x10 + namedArgs c.opcode)).all (· == 0)

/-- The first argument word of a command. -/
def Cmd.arg0 (c : Cmd) : Nat := leNat (c.arg 0x10 4)

/-- The register addresses that a READ_REGS command names (R319). -/
def Cmd.regAddrs (c : Cmd) : List Nat := (List.range c.arg0).map (fun w => leNat (c.arg (0x14 + 4 * w) 4))

/-- An address that READ_REGS may name (R322). -/
def readable (a : Nat) : Bool :=
  a % 4 == 0 && ((decide (0x40000000 ≤ a) && decide (a < 0x40040000)) ||
    (decide (0x48000000 ≤ a) && decide (a < 0x48010000)) || (decide (0x4C000000 ≤ a) && decide (a < 0x4C001000)))

/-- ARGS lie within the ranges of R319 (R322). -/
def Cmd.inRange (c : Cmd) : Bool :=
  if c.opcode = 0x10 then decide (1 ≤ c.arg0) && decide (c.arg0 ≤ 8) && c.regAddrs.all readable
  else if c.opcode = 0x12 then decide (5 ≤ c.arg0) && decide (c.arg0 ≤ 7)
  else if c.opcode = 0x20 then decide (c.arg0 ≤ 4)
  else true

/-- An address of the DBG or LCS block. -/
def guarded (a : Nat) : Bool := decide (0x40010000 ≤ a) && decide (a < 0x40012000)

/-- A recovery is in progress (R322): after its DECIDE_LOSS record, until JOIN_END, HOLD_HOT or D_FAIL, or LEVEL where lane D
is not brought in, has a DONE or REFUSED record and no winding is still joining. -/
def Dev.recovering (d : Dev) (l : LaneId) : Bool :=
  let j := (d.lane l).rdn.journal
  match (j.filter (fun r => r.step == 1)).map JRec.jseq with
  | [] => false
  | a :: t =>
    let start := t.foldl max a
    let above := fun (step : Nat) => j.any (fun r => r.step == step && r.status != 0 && decide (start < r.jseq))
    let joining := allComps.any (fun c => (d.comp c).b0.joining || (d.comp c).b1.joining)
    !((above 10 && !joining) || above 11 || above 12 || (above 13 && d.wit.bring.isNone && !above 4))

/-- The first check of R322 that a descriptor fails, as its completion code; check 1 is taken in `Dev.drain`. -/
def Dev.checkCmd (d : Dev) (l : LaneId) (c : Cmd) : Option Nat :=
  let x := d.lane l
  let seqOk := match Sparse.look x.ring.expect c.ring with
    | some n => c.seq == n
    | none => true
  if !(c.reservedOk && seqOk) then some codeFormat
  else if !x.legalServe c.opcode then some codeState
  else if !c.inRange then some codeRange
  else if c.opcode = 0x10 ∧ c.regAddrs.any guarded ∧ x.life = 3 ∧ !hasBit x.granted 0 then some codeAuth
  else if (c.opcode = 0x11 ∨ c.opcode = 0x20) ∧ d.recovering l then some codeLocked
  else none

/-- An APP command that this lane has applied already: a new serving lane's fetch of a CMD_SEQ not later than its own last
applied one (R325). -/
def Lane.appliedBefore (x : Lane) (c : Cmd) : Bool :=
  isApp c.opcode && Sparse.get false x.ring.resume c.ring && (Sparse.look x.ring.applyT c.ring).isSome && c.reservedOk &&
    decide ((x.rd (Reg.RNG_LAST_SEQ.SEQ c.ring) + 2 ^ 32 - c.seq) % 2 ^ 32 < 2 ^ 31)

/-- The serving lane decides the next command of one opcode (R322, R327): refused at the first failing check, else performed
by `f`. -/
def Dev.decideCmd (d : Dev) (l : LaneId) (op : Nat) (f : Dev → Cmd → Dev) : Dev :=
  let x := d.lane l
  if !(x.powered && x.flag Reg.RNG_STAT.SERVING) then d
  else
    match x.nextCmd (fun c => c.opcode == op) with
    | some (i, c) =>
      let again := x.appliedBefore c
      let d := d.modLane l (·.takeCmd i)
      (if again then
          d.modLane l (fun x => x.complete l c codeOk (Sparse.get 0 x.ring.applyT c.ring) (d.appliers c.ring c.seq) 0 [])
        else match d.checkCmd l c with
          | some code => d.complete l c code 0 0 []
          | none => f d c).drain l
    | none => d

/-! ### Commands of the serving lane (R319, R323, R412) -/

/-- NOP (R319): completes OK. -/
def execNop (tm : Nat) (l : LaneId) (s : State) : Host.Outcome State Fault Refusal :=
  s.act tm (fun _ d => d.decideCmd l 0x01 (fun d c => d.complete l c codeOk 0 0 []))

/-- The words of READ_REGS from word `w` on, each read as accessor READ_REGS: `bytes` holds the words before it and `mask`
names those of them not read. After the last the command completes, PARTIAL where a word was not read; a witness access without
an answer keeps it waiting for the time limit of R29. -/
def Dev.readRegs (l : LaneId) (c : Cmd) : List Nat → Nat → List Byte → Nat → Dev → Dev
  | [], _, bytes, mask, d => d.complete l c (if mask = 0 then codeOk else codePartial) 0 mask bytes
  | a :: t, w, bytes, mask, d =>
    let r := d.regRd l .ring a
    if r.2.1 = accTimeout then
      d.modLane l (fun x => { x with ring := { x.ring with regsRd := some ⟨c, bytes, mask, w, a, t, d.clk⟩ } })
    else if r.2.1 = accOk then Dev.readRegs l c t (w + 1) (bytes ++ leBytes 4 r.2.2) mask r.1
    else Dev.readRegs l c t (w + 1) (bytes ++ leBytes 4 0) (mask + 2 ^ w) (r.1.accReport l .ring r.2.1 a)

/-- A READ_REGS command that waits for a witness access goes on without that word, 2,000 ticks after the access began (R29,
R324). -/
def Dev.readRegsOn (d : Dev) (l : LaneId) : Dev :=
  match (d.lane l).ring.regsRd with
  | some a =>
    if (d.lane l).powered && decide (a.at_ + 2000 ≤ d.clk) then
      let d := (d.modLane l (fun x => { x with ring := { x.ring with regsRd := none } })).incL l Reg.XLK_ERR.TIMEOUT
      (Dev.readRegs l a.cmd a.left (a.word + 1) (a.bytes ++ leBytes 4 0) (a.mask + 2 ^ a.word)
        (d.accReport l .ring accTimeout a.addr)).drain l
    else d
  | none => d

/-- READ_REGS (R319, R324, R428): up to eight registers into RESULT; PARTIAL where an access ended with a bus error. -/
def execReadRegs (tm : Nat) (l : LaneId) (s : State) : Host.Outcome State Fault Refusal :=
  s.act tm (fun _ d => d.decideCmd l 0x10 (fun d c => Dev.readRegs l c c.regAddrs 0 [] 0 d))

/-- The access of the Gnomon or of the service port that the witness has not answered for 2,000 ticks ends with TIMEOUT. -/
def Dev.accTimesOut (d : Dev) (l : LaneId) : Dev :=
  match (d.lane l).xacc with
  | some x =>
    if (d.lane l).powered && decide (x.at_ + 2000 ≤ d.clk) then
      let d := d.incL l Reg.XLK_ERR.TIMEOUT
      let d := if x.spi then d.modLane l (·.spiEnd accTimeout 0) else d.modLane l (fun y => { y with xacc := none })
      d.accReport l (if x.spi then .spi else .gnomon) accTimeout x.addr
    else d
  | none => d

/-- CROSSLINK_TIMEOUT (R29, R430): a witness access that has had no answer for 2,000 ticks ends with TIMEOUT. -/
def execCrosslinkTimeout (tm : Nat) (l : LaneId) (s : State) : Host.Outcome State Fault Refusal :=
  s.act tm (fun _ d => (d.accTimesOut l).readRegsOn l)

/-- CLEAR_CAPSULE (R319, R412): the serving lane releases its capsule 1 and forwards the release; LANES names the powered
lanes. -/
def execClearCapsule (tm : Nat) (l : LaneId) (s : State) : Host.Outcome State Fault Refusal :=
  s.act tm (fun _ d => d.decideCmd l 0x11 (fun d c =>
    (d.clearCapsule l).complete l c codeOk (bitsOf 4 (fun i => (d.lane (laneOf i)).powered)) 0 []))

/-- Every item held for a ring is discarded and counted as a loss with cause FLUSH (R328). -/
def Lane.flushRing (x : Lane) (r : Nat) : Lane :=
  let h := x.bbx.hold r
  let n := h.evts.length + h.recs.length
  if n = 0 then x else (x.setHold r ({ h with evts := [], recs := [] }.lose 2 n)).ringLoses (r - 5) n

/-- FLUSH_RING (R319, R323, R328). -/
def execFlushRing (tm : Nat) (l : LaneId) (s : State) : Host.Outcome State Fault Refusal :=
  s.act tm (fun _ d => d.decideCmd l 0x12 (fun d c => (d.modLane l (·.flushRing c.arg0)).complete l c codeOk 0 0 []))

/-- POWER_REQ (R319, R362): a wake or the present state completes at once; a lower state is put to the vote. -/
def execPowerReq (tm : Nat) (l : LaneId) (s : State) : Host.Outcome State Fault Refusal :=
  s.act tm (fun _ d => d.decideCmd l 0x20 (fun d c => d.powerReq l c c.arg0))

/-! ### APP commands (R320, R323) -/

/-- The first fabric cycle start not earlier than `t` (R323). -/
def Lane.cycleFrom (x : Lane) (t : Nat) : Nat := (t + x.cycleLen - 1) / x.cycleLen * x.cycleLen

/-- An APP command that passes its checks is forwarded with T_app (R323). -/
def Dev.forwardApp (d : Dev) (l : LaneId) (c : Cmd) : Dev :=
  d.modLane l (fun x =>
    let a : AppCmd := { ring := c.ring, gen := c.gen, opcode := c.opcode, flags := c.flags, seq := c.seq, tag := c.tag
                        args := c.arg 0x10 32, src := l
                        tApp := x.cycleFrom ((d.laneTime l).1 + x.rd Reg.RNG_CFG.APPLY_LEAD * 100) }
    { x with ring := { x.ring with app := some (c, a) } })

/-- APP_DRIVE (R319, R322, R323). -/
def execAppDrive (tm : Nat) (l : LaneId) (s : State) : Host.Outcome State Fault Refusal :=
  s.act tm (fun _ d => d.decideCmd l 0x02 (fun d c => d.forwardApp l c))

/-- APP_SAFE (R319, R322, R323). -/
def execAppSafe (tm : Nat) (l : LaneId) (s : State) : Host.Outcome State Fault Refusal :=
  s.act tm (fun _ d => d.decideCmd l 0x03 (fun d c => d.forwardApp l c))

/-- APP_CONFIG (R319, R322, R323). -/
def execAppConfig (tm : Nat) (l : LaneId) (s : State) : Host.Outcome State Fault Refusal :=
  s.act tm (fun _ d => d.decideCmd l 0x04 (fun d c => d.forwardApp l c))

/-- The forward on its way to a lane: that of the serving lane's APP command in hand. -/
def Dev.forwardTo (d : Dev) (l : LaneId) : Option AppCmd :=
  let has := fun (x : Lane) => (x.ring.due.filter (fun u => u.cmd.isSome)).map AppDue.app ++
    (x.ring.app.map (fun a => a.2)).toList
  let x := d.lane l
  let same := fun (a b : AppCmd) => b.src == a.src && b.ring == a.ring && b.seq == a.seq && b.tApp == a.tApp
  ((allLanes.filter (fun o => decide (o ≠ l) && (d.lane o).powered)).flatMap (fun o => has (d.lane o))).find? (fun a =>
    !(x.ring.fwd.any (same a)) && !(x.ring.due.any (fun u => same a u.app)) &&
      !(x.ring.block.ring == a.ring && x.ring.block.seq == a.seq && x.ring.block.tApp == a.tApp))

/-- APP_FORWARD_RECEIVE (R323): an ACTIVE lane takes the forward; after T_app it raises RNG_APPLY_LATE. -/
def execAppForwardReceive (tm : Nat) (l : LaneId) (s : State) : Host.Outcome State Fault Refusal :=
  s.act tm (fun _ d =>
    match d.forwardTo l with
    | some a =>
      if (d.lane l).powered && (d.lane l).st == .active then
        let late := decide (a.tApp < (d.laneTime l).1)
        let d := d.modLane l (fun x => { x with ring := { x.ring with fwd := x.ring.fwd ++ [{ a with late := late }] } })
        if late then d.raise l 10 sevDiag a.seq else d
      else d
    | none => d)

/-- A lane applies an APP command: its tasks see it as NEW at their first activation from T_app on (R320, R323). -/
def Lane.applyApp (x : Lane) (a : AppCmd) (c : Option Cmd) : Lane :=
  let b : CmdBlock := { seq := a.seq, opcode := a.opcode, ring := a.ring, args := a.args, newFor := x.appTasks, tApp := a.tApp }
  { x with ring := { x.ring with prevBlk := x.ring.block, block := b, due := x.ring.due ++ [{ app := a, cmd := c }] } }

/-- The lane's decided state of another lane is lost: SUSPECT, RETIRED or OFF (R323). -/
def Lane.seesLost (x : Lane) (o : LaneId) : Bool :=
  let st := x.rd (Reg.RDN_STAT.LSTATE (laneIdx o))
  st == 0 || st == 6 || st == 7

/-- A forwarded command reaches its T_app in a lane other than the serving one (R323): discarded when its sender is lost or
it is no longer legal, else applied. -/
def Lane.dueForward (x : Lane) (a : AppCmd) : Lane :=
  if x.seesLost a.src || !x.legalCmd a.opcode then x else x.applyApp a none

/-- APP_APPLY (R320, R321, R323): at T_app a lane checks R326 once more and applies the command; one no longer legal is
applied in no lane and completes STATE. -/
def execAppApply (tm : Nat) (l : LaneId) (s : State) : Host.Outcome State Fault Refusal :=
  s.act tm (fun _ d =>
    let now := (d.laneTime l).1
    if !(d.lane l).powered then d
    else
      let ripe := (d.lane l).ring.fwd.filter (fun a => decide (a.tApp ≤ now))
      let d := d.modLane l (fun x => ripe.foldl Lane.dueForward
        { x with ring := { x.ring with fwd := x.ring.fwd.filter (fun a => !decide (a.tApp ≤ now)) } })
      match (d.lane l).ring.app with
      | some (c, a) =>
        if a.tApp ≤ now then
          let legal := (d.lane l).legalServe a.opcode
          let d := d.modLane l (fun x => { x with ring := { x.ring with app := none } })
          if legal then d.modLane l (fun x => x.applyApp a (some c))
          else (d.complete l c codeState 0 0 []).drain l
        else d
      | none => d)

/-- APP_TIMEOUT (R324): no named task has been activated within 100 ms of T_app. -/
def execAppTimeout (tm : Nat) (l : LaneId) (s : State) : Host.Outcome State Fault Refusal :=
  s.act tm (fun _ d =>
    let now := (d.laneTime l).1
    let above := fun (u : AppDue) => u.key.isNone && u.cmd.isSome && decide (u.app.tApp + 10000000 ≤ now)
    if (d.lane l).powered then
      let gone := (d.lane l).ring.due.filter above
      let d := d.modLane l (fun x => { x with ring := { x.ring with due := x.ring.due.map (fun u =>
        if above u then { u with cmd := none } else u) } })
      (d.each gone (fun d u => match u.cmd with
        | some c => d.complete l c codeTimeout 0 0 []
        | none => d)).drain l
    else d)

end Sys2Proof.Machine
end

