-- ==== Sys2Proof/Machine/Rerun.lean ====
section
/-!
DEFINITION. The two issues of an instruction and their comparison (R106 to R118): what an instruction asks for, what its
primary and its transformed issue compute, the points at which they are compared, and how a mismatch is resolved.
-/
namespace Sys2Proof.Machine

/-! ### Outcomes -/

/-- What an instruction whose guard holds asks for. -/
inductive Out where
  /-- A general register gets a 64-bit value; flags are set. -/
  | int (rd : BitVec 6) (v : Dword) (f : Flags)
  /-- A general register gets a binary32 value; flags are set; the shadow may have fallen back (R113). -/
  | flt (rd : BitVec 6) (v : BitVec 32) (f : Flags) (fb : Bool)
  /-- A predicate is written; flags are set; the shadow may have fallen back. -/
  | prd (pd : BitVec 3) (b : Bool) (f : Flags) (fb : Bool)
  /-- A branch to an exact address, with or without a link (R58). -/
  | jmp (target : Int) (link : Bool)
  /-- A jump to a register's value (R58). -/
  | jr (target : Nat)
  /-- An exception with its TRAP code. -/
  | exc (code trap : Nat)
  /-- A load of `size` bytes, sign-extended or not (R56). -/
  | load (addr size : Nat) (signed : Bool) (rd : BitVec 6)
  /-- A store of the low `size` bytes of a value. -/
  | store (addr size : Nat) (v : Dword)
  | lkb (g : Nat)
  | lke
  | seal
  /-- The guard is false (R39). -/
  | skip
deriving DecidableEq, Repr

/-- Destination general register of an outcome as CHX_LAST reports it, or 0. -/
def Out.reg : Out → Nat
  | .int rd _ _ => rd.toNat
  | .flt rd _ _ _ => rd.toNat
  | .load _ _ _ rd => rd.toNat
  | .jmp _ true => 63
  | _ => 0

/-- The shadow of a SCALE-class instruction has fallen back (R113). -/
def Out.fellBack : Out → Bool
  | .flt _ _ _ fb => fb
  | .prd _ _ _ fb => fb
  | _ => false

/-! ### The T slice (R110 to R113) -/

/-- What the T slice of an AN-class instruction brings to stage C: a code for a register with SAT, a predicate, or the code of
an address. -/
inductive AnOut where
  | val (rd : BitVec 6) (code : Int) (sat : Bool)
  | prd (pd : BitVec 3) (b : Bool)
  | load (code : Int) (size : Nat) (signed : Bool) (rd : BitVec 6)
  | store (code : Int) (size : Nat) (v : Dword)
deriving DecidableEq, Repr

/-- What the T slice computes, by class (R110): on AN codes, from the multiplier A, the code and the decoded value of each
register; or on decoded operands under a rotation index, with the inverse transformation of stage C applied. -/
inductive Twin where
  | an (f : Int → (BitVec 6 → Int) → (BitVec 6 → Dword) → AnOut)
  | other (f : Nat → Ctx → Out)

/-- An instruction for the engine: its functional unit by opcode × 16 + function, the general registers and predicates that it
reads, whether it has a guard (R39), the primary issue under a rotation index, and the transformed one. -/
structure Work where
  unit    : Nat
  regs    : List (BitVec 6) := []
  preds   : List (BitVec 3) := []
  guarded : Bool := true
  body    : Nat → Ctx → Out
  twin    : Twin

/-- The class PLAIN, and instructions that compute no data (R110): the T slice repeats the operation on decoded operands. -/
def Work.plain (unit : Nat) (regs : List (BitVec 6)) (body : Nat → Ctx → Out) : Work :=
  { unit := unit, regs := regs, body := body, twin := .other body }

/-- A register operand as the T slice's AN code under rotation `r`: its own code where the tag is that of `r`, else its decoded
value times A (R108). -/
def Ctx.code (c : Ctx) (r : Nat) (g : BitVec 6) : Int :=
  let p := c.shadow g
  if p.tag = BitVec.ofNat 4 (r % 4) then p.val.toInt else anMult r * p.decoded.toInt

/-- The context as the T slice reads it: registers decoded from their shadow copies, predicates from theirs (R108). -/
def Ctx.decoded (c : Ctx) (regs : List (BitVec 6)) : Ctx :=
  let d := regs.foldl (fun (d : Ctx) g => d.wg g (c.shadow g).decoded) c
  (List.range 8).foldl (fun (d : Ctx) i => d.wp (BitVec.ofNat 3 i) (!c.pshadow (BitVec.ofNat 3 i))) d

/-! ### Disturbances (R115) -/

/-- What strikes one issue of an instruction, if anything does. -/
def strikeOn (q : Issue) (i : IssueId) : Option Strike := q.strikes.find? (fun s => s.issue == i)

/-- The flags that are compared, with bits flipped: SAT, NV, DZ and NX (R115). -/
def Flags.struck (f : Flags) (m : BitVec 4) : Flags :=
  { f with sat := Bool.xor f.sat (m.getLsbD 0), nv := Bool.xor f.nv (m.getLsbD 1), dz := Bool.xor f.dz (m.getLsbD 2)
           nx := Bool.xor f.nx (m.getLsbD 3) }

/-- An outcome with bits flipped at the points that its instruction has. -/
def Out.struck (o : Out) (s : Strike) : Out :=
  match o with
  | .int rd v f => .int rd (v ^^^ s.res.truncate 64) (f.struck s.flg)
  | .flt rd v f fb => .flt rd (v ^^^ s.res.truncate 32) (f.struck s.flg) fb
  | .prd pd b f fb => .prd pd (Bool.xor b s.prd) (f.struck s.flg) fb
  | .jmp t link => .jmp (if s.adr = 0 then t else (BitVec.ofInt 64 t ^^^ s.adr).toInt) link
  | .jr t => .jr (t ^^^ s.adr.toNat)
  | .load a size sg rd => .load (a ^^^ s.adr.toNat) size sg rd
  | .store a size v => .store (a ^^^ s.adr.toNat) size (v ^^^ s.dat)
  | o => o

/-! ### The issues (R106, R110) -/

/-- An issue at the comparison: the disturbance of its decoder's output, what it asks for, and whether stage C and O2 accept
its residues (R111). -/
structure Res where
  dec : BitVec 64
  out : Out
  ok  : Bool := true
deriving DecidableEq, Repr

/-- An untransformed issue on a context (R106, R116). -/
def Work.primary (k : Work) (q : Issue) (i : IssueId) (rot : Nat) (c : Ctx) : Res :=
  let o := if !k.guarded || c.guard q.pg q.pn then k.body rot c else .skip
  match strikeOn q i with
  | none => { dec := 0, out := o }
  | some s => { dec := s.dec, out := o.struck s }

/-- Stage C on what the T slice of the AN class brings: the residue check, and the quotient by A (R111). -/
def AnOut.accept (A : Int) (mask : BitVec 72) : AnOut → Out × Bool
  | .val rd code sat =>
    let code := if mask = 0 then code else (BitVec.ofInt 72 code ^^^ mask).toInt
    (.int rd (BitVec.ofInt 64 (code / A)) { sat := sat }, code % A == 0)
  | .prd pd b => (.prd pd b {} false, true)
  | .load code size sg rd => (.load (BitVec.ofInt 64 (code / A)).toNat size sg rd, code % A == 0)
  | .store code size v => (.store (BitVec.ofInt 64 (code / A)).toNat size v, code % A == 0)

/-- The transformed issue on a context (R106, R110). -/
def Work.transformed (k : Work) (q : Issue) (i : IssueId) (rot : Nat) (c : Ctx) : Res :=
  let d := c.decoded k.regs
  let ok := k.regs.all (fun g => (c.shadow g).residueOk)
  let on := !k.guarded || d.guard q.pg q.pn
  let mask := match strikeOn q i with
    | none => 0
    | some s => s.res
  let r := match k.twin with
    | .an f => if on then (f (anMult rot) (c.code rot) (fun g => (c.shadow g).decoded)).accept (anMult rot) mask else (.skip, true)
    | .other f => (if on then f rot d else .skip, true)
  match strikeOn q i with
  | none => { dec := 0, out := r.1, ok := ok && r.2 }
  | some s =>
    let s := match k.twin with
      | .an _ => { s with res := 0 }
      | .other _ => s
    { dec := s.dec, out := r.1.struck s, ok := ok && r.2 }

/-! ### Comparison (R115) -/

/-- The lowest set bit of a value. -/
def lowBit (v : BitVec 64) : Option Nat := (List.range 64).find? (fun i => v.getLsbD i)

/-- The flags of an outcome that are compared, as bits. -/
def Flags.compared (f : Flags) : Bool × Bool × Bool × Bool := (f.sat, f.nv, f.dz, f.nx)

/-- The kind of comparison that covers an outcome: its value, predicate, or address, target or decision. -/
def Out.point : Out → CmpKind
  | .int .. => .result
  | .flt .. => .result
  | .prd .. => .pred
  | _ => .addr

/-- The first difference of two outcomes: its kind and its lowest differing bit position, if it has one. -/
def Out.differs (a b : Out) : Option (CmpKind × Option Nat) :=
  match a, b with
  | .int r v f, .int s w g =>
    if r ≠ s ∨ v ≠ w then some (.result, lowBit (v ^^^ w))
    else if f.compared ≠ g.compared then some (.flag, none) else none
  | .flt r v f _, .flt s w g _ =>
    if r ≠ s ∨ v ≠ w then some (.result, lowBit ((v ^^^ w).zeroExtend 64))
    else if f.compared ≠ g.compared then some (.flag, none) else none
  | .prd p x f _, .prd q y g _ =>
    if p ≠ q ∨ x ≠ y then some (.pred, some 0)
    else if f.compared ≠ g.compared then some (.flag, none) else none
  | .jmp t l, .jmp u m =>
    if t ≠ u ∨ l ≠ m then some (.addr, lowBit (BitVec.ofInt 64 t ^^^ BitVec.ofInt 64 u)) else none
  | .jr t, .jr u => if t ≠ u then some (.addr, lowBit (BitVec.ofNat 64 t ^^^ BitVec.ofNat 64 u)) else none
  | .load x n s r, .load y m t u =>
    if x ≠ y ∨ n ≠ m ∨ s ≠ t ∨ r ≠ u then some (.addr, lowBit (BitVec.ofNat 64 x ^^^ BitVec.ofNat 64 y)) else none
  | .store x n v, .store y m w =>
    if x ≠ y ∨ n ≠ m then some (.addr, lowBit (BitVec.ofNat 64 x ^^^ BitVec.ofNat 64 y))
    else if v ≠ w then some (.data, lowBit (v ^^^ w)) else none
  | .skip, b => if b = .skip then none else some (b.point, none)
  | a, b => if a = b then none else some (a.point, none)

/-- The first difference of two issues in the order of R115's table, past the operand checks of O2. -/
def Res.differs (p t : Res) : Option (CmpKind × Option Nat) :=
  if p.dec ≠ t.dec then some (.decode, lowBit (p.dec ^^^ t.dec))
  else match p.out.differs t.out with
    | some d => some d
    | none => if p.ok && t.ok then none else some (p.out.point, none)

/-- Two issues agree (R116). -/
def Res.agrees (p t : Res) : Bool := (p.differs t).isNone

/-- A compare event as the two issues of an instruction make it: its kind, its bit if it has one, and the physical register
whose residue or parity failed. -/
structure Mismatch where
  kind : CmpKind
  bit  : Option Nat := none
  phys : Option Nat := none
deriving DecidableEq, Repr

/-- Stage O2's checks on the operands of an instruction that executes (R115): the first AN shadow with a residue, else the first
primary whose parity fails. -/
def Work.operandCheck (k : Work) (c : Ctx) : Option Mismatch :=
  match k.regs.find? (fun g => !(c.shadow g).residueOk) with
  | some g => some { kind := .residue, phys := some (shadowIdx g) }
  | none =>
    match k.regs.find? (fun g => g ≠ 0 && !(c.preg (c.primIdx g)).parityOk) with
    | some g => some { kind := .regstore, phys := some (c.primIdx g) }
    | none => none

/-- The compare event of an instruction on a context, if its issues make one: a single event, of the first kind in the order of
R115's table. -/
def Work.mismatch (k : Work) (q : Issue) (rot : Nat) (c : Ctx) : Option Mismatch :=
  let p := k.primary q .prim rot c
  let t := k.transformed q .twin rot c
  let d := (p.differs t).map (fun x => ({ kind := x.1, bit := x.2 } : Mismatch))
  match d with
  | some m => if m.kind = .decode then some m
    else if p.out = .skip ∧ t.out = .skip then some m
    else some ((k.operandCheck c).getD m)
  | none => if p.out = .skip ∧ t.out = .skip then none else k.operandCheck c

/-! ### Resolution (R116 to R118) -/

/-- One register operand chosen under R117: the copy that passes its own check, and both copies rewritten from it; none where
both pass and disagree, or neither passes. -/
def Ctx.chooseReg (c : Ctx) (rot : Nat) (g : BitVec 6) : Option Ctx :=
  if g = 0 then some c
  else
    let p := c.preg (c.primIdx g)
    let s := c.shadow g
    match p.parityOk, s.residueOk with
    | true, true => if p.val.truncate 64 = s.decoded then some c else none
    | true, false => some (c.wsh g (anCode rot (p.val.truncate 64)))
    | false, true => some (c.wg g s.decoded)
    | false, false => none

/-- The operands of an instruction chosen under R117. The copies of a predicate carry no check of their own: where they
disagree nothing can be chosen. -/
def Work.choose (k : Work) (q : Issue) (rot : Nat) (c : Ctx) : Option Ctx :=
  if (k.preds ++ (if k.guarded then [q.pg] else [])).all (fun p => c.rp p == !c.pshadow p) then
    k.regs.foldl (fun d g => d.bind (fun c => c.chooseReg rot g)) (some c)
  else none

/-- How a mismatch comes out: CHX_LAST's outcome (0 MAJORITY, 1 RETRY, 2 COMPARE), the role of the losing slice (0 P, 1 T, 2 the
spare), the context with the operands' failed copies rewritten, and what the instruction retires with. -/
structure Resolution where
  outcome : Nat
  loser   : Option Nat := none
  ctx     : Ctx
  out     : Out := .skip
deriving DecidableEq, Repr

/-- The resolution of a mismatch: with a spare slice the majority of three issues (R116), else both issues once more (R118). -/
def Work.resolve (k : Work) (q : Issue) (rot : Nat) (c : Ctx) (spare : Bool) : Resolution :=
  match k.choose q rot c with
  | none => { outcome := 2, ctx := c }
  | some c' =>
    if spare then
      let p := k.primary q .prim rot c
      let t := k.transformed q .twin rot c
      let x := k.primary q .third rot c'
      if p.agrees t then { outcome := 0, loser := if p.agrees x then none else some 2, ctx := c', out := p.out }
      else if p.agrees x then { outcome := 0, loser := some 1, ctx := c', out := p.out }
      else if x.agrees t then { outcome := 0, loser := some 0, ctx := c', out := x.out }
      else { outcome := 2, ctx := c' }
    else
      let p := k.primary q .prim2 rot c'
      if p.agrees (k.transformed q .twin2 rot c') then { outcome := 1, ctx := c', out := p.out }
      else { outcome := 2, ctx := c' }

/-! ### The SCALE class (R112, R113) -/

/-- The T slice of a SCALE-class instruction with a register result: on scaled operands, brought back by s_res, or plain on
fallback. -/
def scaleOut (rd : BitVec 6) (fb : Bool) (sres : Int) (r : BitVec 32 × Flags) : Out :=
  .flt rd (fBack fb r sres).1 (fBack fb r sres).2 fb

end Sys2Proof.Machine
end

