-- ==== Sys2Proof/Machine/Chord.lean ====
section
/-!
DEFINITION. How one Chord instruction runs (R37 to R41, R56 to R64, R77, R93, R115 to R120): the stream it issues on, its
fetch, its guard, the compare event it may meet, and what each kind of outcome does to registers, flags and memory.
-/
namespace Sys2Proof.Machine

/-! ### Where an instruction issues -/

/-- A register context of the engine: a stream's, or a candidate bank's (R93). -/
inductive Slot where
  | half (h1 : Bool)
  | bank (k : Nat)
deriving DecidableEq, Repr

/-- The context is a candidate bank's. -/
def Slot.isBank : Slot → Bool
  | .half _ => false
  | .bank _ => true

/-- The run an instruction belongs to: its context, its task and its rotation index. -/
structure Issuer where
  slot : Slot
  task : Nat
  rot  : Nat
deriving DecidableEq, Repr

/-- The run of a stream. -/
def Half.issuer (h : Half) (h1 : Bool) : Option Issuer := h.run.map (fun r => ⟨.half h1, r.task % 16, r.rot⟩)

/-- The candidate run of lowest index that has not sealed (R92). -/
def Lane.candIssuer (l : Lane) : Option Issuer :=
  match l.eng.unsealed, l.specTask with
  | k :: _, some n => some ⟨.bank k, n, (Sparse.get {} l.eng.banks k).rot⟩
  | _, _ => none

/-- The run whose instruction issues next: the running activation, else a candidate run (R92); in split mode the
activation of the half-engine named (R124). -/
def Lane.issuer (l : Lane) (half1 : Bool) : Option Issuer :=
  if l.isSplit then (l.eng.half half1).issuer half1
  else match l.eng.h0.run with
    | some r => some ⟨.half false, r.task % 16, r.rot⟩
    | none => l.candIssuer

/-- The registers of a context. -/
def Lane.ctxAt (l : Lane) : Slot → Ctx
  | .half h1 => (l.eng.half h1).ctx
  | .bank k => (Sparse.get {} l.eng.banks k).ctx

/-- A candidate bank changed, where it still holds a run. -/
def Lane.modBank (l : Lane) (k : Nat) (f : Bank → Bank) : Lane :=
  match Sparse.look l.eng.banks k with
  | some b => l.modEng (fun e => { e with banks := Sparse.put e.banks k (f b) })
  | none => l

/-- The lane with the registers of a context replaced; a candidate run has then started (R96). -/
def Lane.setCtx (l : Lane) (s : Slot) (c : Ctx) : Lane :=
  match s with
  | .half h1 => l.modHalf h1 (fun h => { h with ctx := c })
  | .bank k => l.modBank k (fun b => { b with ctx := c, started := true })

/-- Sticky flags go to the task, or to the candidate's bank (R93, R94). -/
def Lane.addFlags (l : Lane) (w : Issuer) (f : Flags) : Lane :=
  match w.slot with
  | .half _ => l.setFlags w.task f
  | .bank k => l.modBank k (fun b => { b with flags := b.flags.or f })

/-! ### Exceptions (R62 to R64) -/

/-- Exception codes of R62. -/
def excIllegal : Nat := 1
def excAlign : Nat := 2
def excPartition : Nat := 3
def excDivZero : Nat := 4
def excFpTrap : Nat := 5
def excTrap : Nat := 6
def excBus : Nat := 7
def excLockLen : Nat := 8
def excMemEcc : Nat := 9
def excCompare : Nat := 11

/-- EXCEPTION: in an activation under R63; in a candidate run it discards that candidate alone (R64). -/
def Dev.except (d : Dev) (l : LaneId) (w : Issuer) (code trap : Nat) : Dev :=
  match w.slot with
  | .half h1 => d.exceptRun l h1 w.task code trap
  | .bank k => d.squash l [k]

/-! ### Fetch (R58, R77, R332, R340) -/

/-- Stages F1 and F2: the fetch check, the mask of CHORD_IF, the beat and the ECC check; with the exception, or 0. -/
def Dev.fetch (m : Mems) (d : Dev) (l : LaneId) (w : Issuer) (e : Ecc) : Mems × Dev × Nat :=
  let pc := ((d.lane l).ctxAt w.slot).pc.toNat
  if !(d.lane l).mayFetch w.task pc then (m, d, excPartition)
  else if !(d.lane l).permitted 2 (groupOf (pc / 8)) then (m, d, excBus)
  else
    let r := Dev.readWord m (d.modLane l (·.beats 2 1)) l 2 (pc / 8) e
    (r.1, r.2.1, if r.2.2 then 0 else excMemEcc)

/-! ### Compare events (R113, R115 to R120) -/

/-- The word after the running one; after 0x3F_FFFC the 22-bit counter wraps to 0 (the log's entry on the program counter). -/
def Ctx.nextPc (c : Ctx) : BitVec 22 := c.pc + 4

/-- The context after a register write with its shadow copy (R108, R114), at the next instruction; split mode keeps no
shadow. -/
def Ctx.retire (c : Ctx) (split : Bool) (rd : BitVec 6) (v : Dword) (sh : PReg) : Ctx := (c.both split rd v sh).goto c.nextPc

/-- A range fallback (R113): counted, with the TRACE event CHX_RANGE. -/
def Dev.rangeEvent (d : Dev) (l : LaneId) (w : Issuer) : Dev :=
  let pc := ((d.lane l).ctxAt w.slot).pc.toNat
  (d.incL l Reg.CHX_RANGE_CNT.COUNT).raise l 24 sevTrace (w.task + 16 * (pc / 4))

/-- The compare event of a mismatch (R115, R116, R121): the loser's slice by its role, and the location. -/
def Lane.cmpEvt (l : Lane) (k : Work) (m : Mismatch) (outcome : Nat) (loser : Option Nat) (w : Issuer) (pc reg : Nat) : CmpEvt :=
  let slice := loser.map (fun r => l.rd (if r = 0 then Reg.CHX_SLICE.ROLE_P else if r = 1 then Reg.CHX_SLICE.ROLE_T
    else Reg.CHX_SLICE.SPARE))
  { kind := kindCode m.kind, loser := slice, outcome := outcome, bit := (m.bit.getD (Config.eventBit (kindCode m.kind))) % 64
    reg := reg, task := w.task, cand := w.slot.isBank, pc := some pc
    loc := match m.phys with
      | some p => some (locReg p)
      | none => slice.map (fun s => locSlice s (Config.unitOf (if m.kind = .decode then decoderUnit else k.unit))) }

/-- A mismatch of a run at context `c`, with its effects (R113, R116 to R120): the part afterwards, and what the instruction
still retires with. A fallback is decided at O2, which an instruction that ends at D2 does not reach. -/
def Dev.resolveIssue (d : Dev) (l : LaneId) (w : Issuer) (q : Issue) (k : Work) (c : Ctx) (m : Mismatch) : Dev × Option Out :=
  let x := d.lane l
  let v := k.resolve q w.rot c x.spareSlice
  let late := q.late && !w.slot.isBank
  let o := if late then 3 else v.outcome
  let on := !k.guarded || c.guard q.pg q.pn
  let fb := on && (k.body w.rot c).fellBack
  let d := if fb && m.kind != .decode then d.rangeEvent l w else d
  let d := d.compareEvent l (x.cmpEvt k m o (if o = 0 then v.loser else none) w c.pc.toNat
    (if on then (k.body w.rot c).reg else 0)) 1
  if o = 3 then (d.overrun l w.task, none)
  else if o = 2 then (d.except l w excCompare 0, none)
  else if (d.lane l).issuer q.half1 ≠ some w then (d, none)
  else
    let d := d.modLane l (·.setCtx w.slot v.ctx)
    (if fb && m.kind == .decode then d.rangeEvent l w else d, some v.out)

/-- What an instruction of a run retires with, if it does: in split mode its one issue, in checked mode the primary where both
issues agree, with a fallback counted (R106, R113, R115, R124). -/
def Dev.issues (d : Dev) (l : LaneId) (w : Issuer) (q : Issue) (k : Work) : Dev × Option Out :=
  let x := d.lane l
  let c := x.ctxAt w.slot
  let o := (k.primary q .prim w.rot c).out
  if x.isSplit then (d, some o)
  else match k.mismatch q w.rot c with
    | none => (if o.fellBack then d.rangeEvent l w else d, some o)
    | some m => d.resolveIssue l w q k c m

/-- The instruction would trap: NV or DZ with the task's trap enabled (R52). -/
def Lane.fpTraps (l : Lane) (n : Nat) (f : Flags) : Bool :=
  (f.nv && l.flag (Reg.CHE_TASK_CFG.TRAP_NV n)) || (f.dz && l.flag (Reg.CHE_TASK_CFG.TRAP_DZ n))

/-- A result written to the context, with its flags. -/
def Dev.writeBack (d : Dev) (l : LaneId) (w : Issuer) (c : Ctx) (f : Flags) : Dev :=
  d.modLane l (fun x => (x.setCtx w.slot c).addFlags w f)

/-- The context moved to the next instruction. -/
def Dev.advance (d : Dev) (l : LaneId) (w : Issuer) : Dev :=
  d.modLane l (fun x => x.setCtx w.slot ((x.ctxAt w.slot).goto (x.ctxAt w.slot).nextPc))

/-! ### Memory accesses (R56, R57, R59, R93, R96, R331, R348) -/

/-- A load's value from its bytes. -/
def loadValue (bs : List Byte) (size : Nat) (signed : Bool) : Dword :=
  if signed then BitVec.ofInt 64 (dec (8 * size) (leNat bs)) else BitVec.ofNat 64 (leNat bs)

/-- A data access of an activation counts in its locked sequence (R59). -/
def Half.countBeat (h : Half) : Half := if h.locks.isEmpty then h else { h with beats := h.beats + 1 }

/-- What refuses a data access of an activation before the memory is reached: the exception code, or 0. The order is
ALIGN, PARTITION, LOCK_LEN, then the bus errors PERM and LOCK_ORDER. -/
def Lane.accessCheck (l : Lane) (w : Issuer) (h : Half) (a size : Nat) (grant : Bool) : Nat :=
  if a % size ≠ 0 then excAlign
  else if !grant then excPartition
  else if !h.locks.isEmpty && decide (16 ≤ h.beats) then excLockLen
  else if !l.permitted 1 (groupOf (a / 8)) then excBus
  else if h.ended.contains (groupOf (a / 8)) then excBus
  else 0

/-- The beat of CHORD_LS for an access of an activation, and its count in the locked sequence. -/
def Dev.lsBeat (d : Dev) (l : LaneId) (h1 : Bool) (q : Issue) (a : Nat) : Dev :=
  d.modLane l (fun x => (x.beat 1 (groupOf (a / 8)) q.contend ((x.eng.half h1).locks.contains (groupOf (a / 8)))).modHalf h1
    Half.countBeat)

/-- The event and count of a LOCK_ORDER error that an ended grant makes (R347, R348). -/
def Dev.endedError (d : Dev) (l : LaneId) (h : Half) (a : Nat) (code : Nat) : Dev :=
  if code = excBus && h.ended.contains (groupOf (a / 8)) && (d.lane l).permitted 1 (groupOf (a / 8)) then
    d.lockOrder l 1 (groupOf (a / 8))
  else d

/-- A load of an activation. -/
def Dev.loadRun (m : Mems) (d : Dev) (q : Issue) (w : Issuer) (h1 : Bool) (a size : Nat) (signed : Bool) (rd : BitVec 6) :
    Mems × Dev :=
  let l := q.lane
  let h := (d.lane l).eng.half h1
  let code := (d.lane l).accessCheck w h a size ((d.lane l).mayLoad w.task a)
  if code ≠ 0 then (m, (d.endedError l h a code).except l w code 0)
  else
    let r := Dev.readWord m (d.lsBeat l h1 q a) l 1 (a / 8) q.data
    if r.2.2 then
      let x := r.2.1.lane l
      let v := loadValue ((r.1.lane l).bytes a size) size signed
      (r.1, r.2.1.writeBack l w ((x.ctxAt w.slot).retire x.isSplit rd v (anCode w.rot v)) {})
    else (r.1, r.2.1.except l w excMemEcc 0)

/-- A store of an activation: a full word stores a fresh code; a narrower one reads its word first, and an uncorrectable
word ends it with exception BUS (R331, R332). -/
def Dev.storeRun (m : Mems) (d : Dev) (q : Issue) (w : Issuer) (h1 : Bool) (a size : Nat) (v : Dword) : Mems × Dev :=
  let l := q.lane
  let h := (d.lane l).eng.half h1
  let code := (d.lane l).accessCheck w h a size ((d.lane l).mayStore w.task a)
  if code ≠ 0 then (m, (d.endedError l h a code).except l w code 0)
  else
    let d := d.lsBeat l h1 q a
    let r := if size = 8 then (m, d, true) else Dev.readWord m d l 1 (a / 8) q.data
    if r.2.2 then
      (r.1.setLane l ((r.1.lane l).store a size v.toNat), (r.2.1.advance l w).sharedStore l w.task a)
    else (r.1, r.2.1.except l w excBus 0)

/-- A load of a candidate run: bytes of its own store buffer first (R93). -/
def Dev.loadCand (m : Mems) (d : Dev) (q : Issue) (w : Issuer) (k a size : Nat) (signed : Bool) (rd : BitVec 6) :
    Mems × Dev :=
  let l := q.lane
  let x := d.lane l
  let b := Sparse.get {} x.eng.banks k
  let code := x.accessCheck w {} a size (x.mayLoad w.task a)
  if code ≠ 0 then (m, d.except l w code 0)
  else
    let own := (List.range size).all (fun i => (b.sbByte (a + i)).isSome)
    let r := if own then (m, d, true)
      else Dev.readWord m (d.modLane l (fun x => x.beat 1 (groupOf (a / 8)) q.contend false)) l 1 (a / 8) q.data
    if r.2.2 then
      let v := loadValue (b.bytes (r.1.lane l) (x.baseOf w.task 5 + 0x28) a size) size signed
      (r.1, r.2.1.writeBack l w (((r.2.1.lane l).ctxAt w.slot).retire false rd v (anCode w.rot v)) {})
    else (r.1, r.2.1.except l w excMemEcc 0)

/-- Bytes `off … off + size − 1` of a doubleword replaced by the low bytes of a value. -/
def mergeBytes (d : BitVec 64) (off size : Nat) (v : Dword) : BitVec 64 :=
  let ones : BitVec 64 := BitVec.ofNat 64 ((2 ^ (8 * size) - 1) * 2 ^ (8 * off))
  (d &&& ~~~ ones) ||| ((v <<< (8 * off)) &&& ones)

/-- A store into a candidate's store buffer, if it has room (R93). -/
def Bank.putStore (b : Bank) (a size : Nat) (v : Dword) : Option Bank :=
  let mask : BitVec 8 := BitVec.ofNat 8 ((2 ^ size - 1) * 2 ^ (a % 8))
  match b.sbuf.find? (fun e => e.word == a / 8) with
  | some _ => some { b with sbuf := b.sbuf.map (fun e => if e.word = a / 8 then
      { e with data := mergeBytes e.data (a % 8) size v, mask := e.mask ||| mask } else e) }
  | none =>
    if b.sbuf.length < 64 then
      some { b with sbuf := b.sbuf ++ [{ word := a / 8, data := mergeBytes 0 (a % 8) size v, mask := mask }] }
    else none

/-- A store of a candidate run stays in its store buffer; a 65th entry squashes it with SB_FULL (R93, R94). -/
def Dev.storeCand (d : Dev) (q : Issue) (w : Issuer) (k a size : Nat) (v : Dword) : Dev :=
  let l := q.lane
  let x := d.lane l
  let code := x.accessCheck w {} a size (x.mayStore w.task a)
  if code ≠ 0 then d.except l w code 0
  else match (Sparse.get {} x.eng.banks k).putStore a size v with
    | some b => (d.modLane l (fun x => x.modBank k (fun _ => b))).advance l w
    | none => (d.incL l (Reg.CHE_SPEC_CNT.COUNT 6)).squash l [k]

/-! ### Locks (R59, R347) -/

/-- A half-engine holds one more group, granted at lane time `t` (R59, R348). -/
def Half.hold (h : Half) (g t : Nat) : Half :=
  { h with locks := h.locks ++ [g]
           lockAt := Sparse.put h.lockAt g t }

/-- LKB of an activation. -/
def Dev.lkbRun (d : Dev) (l : LaneId) (w : Issuer) (h1 : Bool) (g : Nat) : Dev :=
  let h := (d.lane l).eng.half h1
  if h.locks.contains g then d.advance l w
  else if h.locks.any (fun x => decide (g < x)) then (d.lockOrder l 1 g).except l w excBus 0
  else (d.modLane l (fun x => x.modHalf h1 (·.hold g (d.laneTime l).1))).advance l w

/-- LKE of an activation: every held group is released, and a ready run of lower PRIO value pre-empts (R72). -/
def Dev.lkeRun (d : Dev) (l : LaneId) (w : Issuer) (h1 : Bool) : Dev :=
  ((d.modLane l (fun x => x.modHalf h1 (fun h => { h with locks := [], beats := 0, ended := [] }))).advance l w).modLane l
    Lane.dispatch

/-! ### Carrying an outcome out -/

/-- A branch of the run to `t`: a target outside the CODE partitions of the task raises PARTITION (R58). -/
def Dev.jump (d : Dev) (l : LaneId) (w : Issuer) (t : Int) (link : Bool) : Dev :=
  let x := d.lane l
  let c := x.ctxAt w.slot
  if 0 ≤ t ∧ t < 4194304 ∧ x.mayFetch w.task t.toNat then
    let ra : Dword := c.nextPc.zeroExtend 64
    let c' := if link then c.retire x.isSplit 63 ra (anCode w.rot ra) else c
    d.modLane l (fun x => x.setCtx w.slot (c'.goto (BitVec.ofInt 22 t)))
  else d.except l w excPartition 0

/-- What an outcome does in the run it belongs to. -/
def Dev.perform (m : Mems) (d : Dev) (q : Issue) (w : Issuer) (o : Out) : Mems × Dev :=
  let l := q.lane
  let x := d.lane l
  let c := x.ctxAt w.slot
  match o with
  | .int rd v f =>
    if x.fpTraps w.task f then (m, d.except l w excFpTrap 0)
    else (m, d.writeBack l w (c.retire x.isSplit rd v (anCode w.rot v)) f)
  | .flt rd v f fb =>
    if x.fpTraps w.task f then (m, d.except l w excFpTrap 0)
    else (m, d.writeBack l w (c.retire x.isSplit rd (ofF32 v)
      (if fb then PReg.of (v.zeroExtend 72) tagPlain else fShadow w.rot v)) f)
  | .prd pd b f _ =>
    if x.fpTraps w.task f then (m, d.except l w excFpTrap 0)
    else (m, d.writeBack l w ((c.wp pd b).goto c.nextPc) f)
  | .jmp t link => (m, d.jump l w t link)
  | .jr t => (m, if t % 4 ≠ 0 then d.except l w excAlign 0 else d.jump l w t false)
  | .exc code trap => (m, d.except l w code trap)
  | .load a size signed rd => match w.slot with
    | .half h1 => Dev.loadRun m d q w h1 a size signed rd
    | .bank k => Dev.loadCand m d q w k a size signed rd
  | .store a size v => match w.slot with
    | .half h1 => Dev.storeRun m d q w h1 a size v
    | .bank k => (m, d.storeCand q w k a size v)
  | .lkb g => match w.slot with
    | .half h1 => (m, d.lkbRun l w h1 g)
    | .bank _ => (m, d.advance l w)
  | .lke => match w.slot with
    | .half h1 => (m, d.lkeRun l w h1)
    | .bank _ => (m, d.advance l w)
  | .seal => match w.slot with
    | .half h1 => match (x.eng.half h1).run with
      | some r => Dev.sealAct m d l h1 r
      | none => (m, d)
    | .bank k => (m, d.modLane l (·.sealCand k))
  | .skip => (m, d.advance l w)

/-- The register file of a run after the hits of an issue. -/
def Dev.hit (d : Dev) (l : LaneId) (w : Issuer) (q : Issue) : Dev :=
  if q.hits.isEmpty && q.phits.isEmpty then d
  else d.modLane l (fun x => x.setCtx w.slot ((x.ctxAt w.slot).hit q))

/-- One instruction of a run after its fetch: both issues, their comparison, and what retires (R39, R106, R116). -/
def Dev.execute (m : Mems) (d : Dev) (q : Issue) (w : Issuer) (k : Work) : Mems × Dev :=
  let u := d.issues q.lane w q k
  match u.2 with
  | some o => Dev.perform m u.1 q w o
  | none => (m, u.1)

/-- One instruction: it issues in the run whose turn it is; where the engine runs nothing it has no effect. -/
def Dev.issue (m : Mems) (d : Dev) (q : Issue) (k : Work) : Mems × Dev :=
  match (d.lane q.lane).issuer q.half1 with
  | none => (m, d)
  | some w =>
    let f := Dev.fetch m (d.hit q.lane w q) q.lane w q.fetch
    if f.2.2 = 0 then Dev.execute f.1 f.2.1 q w k else (f.1, f.2.1.except q.lane w f.2.2 0)

/-- The meaning of a Chord instruction. -/
def chord (q : Issue) (k : Work) (s : State) : Host.Outcome State Fault Refusal :=
  let r := Dev.issue s.mems s.dev q k
  .next { s with mems := r.1, dev := r.2 }

end Sys2Proof.Machine
end

