-- ==== Sys2Proof/Machine/Control.lean ====
section
/-!
DEFINITION. Branches, locks, TRAP, SEAL and illegal encodings (R39 to R41, R58 to R61).
-/
namespace Sys2Proof.Machine

/-- An illegal encoding (R39, R40): ILLEGAL whatever its guard. -/
def workIllegal : Work := { Work.plain 0x3F0 [] (fun _ _ => .exc excIllegal 0) with guarded := false }

/-- ILLEGAL_ENCODING (R39, R40): a word that decodes to no instruction raises ILLEGAL whatever its guard; a word that is
an instruction is not this command's, and nothing happens. -/
def execIllegalEncoding (q : Issue) (word : BitVec 32) (s : State) : Host.Outcome State Fault Refusal :=
  match decodeChord q 0 word with
  | some _ => .next s
  | none => chord q workIllegal s

/-- SEAL (R61): ends the activation or candidate run. -/
def workSeal : Work := .plain 0x3B0 [] (fun _ _ => .seal)

/-- SEAL (R61): its work issued at instant `tm`. -/
def execSeal (q : Issue) (tm : Nat) (s : State) : Host.Outcome State Fault Refusal :=
  s.actM tm (fun _ m d => Dev.issue m d q workSeal)

/-- BR (R41, R58): PC := PC + sext(off22) × 4. -/
def workBr (off : BitVec 22) : Work :=
  .plain 0x380 [] (fun _ c => .jmp (brTarget c.pc off) false)

/-- BR (R41, R58): its work issued. -/
def execBr (q : Issue) (off : BitVec 22) (s : State) : Host.Outcome State Fault Refusal :=
  chord q (workBr off) s

/-- CALL (R41, R58): g63 := PC + 4; PC := PC + sext(off22) × 4. -/
def workCall (off : BitVec 22) : Work :=
  .plain 0x390 [] (fun _ c => .jmp (brTarget c.pc off) true)

/-- CALL (R41, R58): its work issued. -/
def execCall (q : Issue) (off : BitVec 22) (s : State) : Host.Outcome State Fault Refusal :=
  chord q (workCall off) s

/-- JR (R41, R58): PC := ra. -/
def workJr (ra : BitVec 6) : Work :=
  .plain 0x3A0 [ra] (fun _ c => .jr (c.rg ra).toNat)

/-- JR (R41, R58): its work issued. -/
def execJr (q : Issue) (ra : BitVec 6) (s : State) : Host.Outcome State Fault Refusal :=
  chord q (workJr ra) s

/-- LKB (R59): lock bank group g. -/
def workLkb (g : BitVec 3) : Work :=
  .plain 0x3C0 [] (fun _ _ => .lkb g.toNat)

/-- LKB (R59): its work issued. -/
def execLkb (q : Issue) (g : BitVec 3) (s : State) : Host.Outcome State Fault Refusal :=
  chord q (workLkb g) s

/-- LKE (R59): release all held bank groups. -/
def workLke : Work :=
  .plain 0x3D0 [] (fun _ _ => .lke)

/-- LKE (R59): its work issued. -/
def execLke (q : Issue) (s : State) : Host.Outcome State Fault Refusal :=
  chord q workLke s

/-- TRAP (R60): exception TRAP with an 8-bit code. -/
def workTrap (code : BitVec 8) : Work :=
  .plain 0x3E0 [] (fun _ _ => .exc excTrap code.toNat)

/-- TRAP (R60): its work issued. -/
def execTrap (q : Issue) (code : BitVec 8) (s : State) : Host.Outcome State Fault Refusal :=
  chord q (workTrap code) s

end Sys2Proof.Machine
end

