-- ==== Sys2Proof/Machine/Integer.lean ====
section
/-!
DEFINITION. Integer and predicate instructions (R41 to R46), with what their T slice computes (R110, R111): one work and one
meaning per instruction over `chord`.
-/
namespace Sys2Proof.Machine

/-! ### Shared functions -/

/-- The shift amount rb[5:0] (R42). -/
def shAmt (v : Dword) : Nat := v.toNat % 64

/-- The value with its 16-bit field `hw` replaced (R41). -/
def putField (v : Dword) (hw : BitVec 2) (imm : BitVec 16) : Dword :=
  (v &&& ~~~ ((0xFFFF : Dword) <<< (16 * hw.toNat))) ||| ((imm.zeroExtend 64 : Dword) <<< (16 * hw.toNat))

/-- The number of one bits of a value. -/
def onesOf (v : Dword) : Nat := (List.range 64).foldl (fun n i => n + bit (v.getLsbD i)) 0

/-- A clamp into `rd`, with SAT when it changed the number (R43, R47). -/
def clampTo (rd : BitVec 6) (sat : Int → Int) (x : Int) : Out := .int rd (ofInt (sat x)) (satFlag (decide (sat x ≠ x)))

/-- The condition of CMP and CMPI on two values (R45). -/
def condHolds (c : Cond) (a b : Dword) : Bool :=
  match c with
  | .eq => decide (a = b)
  | .ne => decide (a ≠ b)
  | .lt => decide (a.toInt < b.toInt)
  | .ge => decide (b.toInt ≤ a.toInt)
  | .ltu => decide (a.toNat < b.toNat)
  | .geu => decide (b.toNat ≤ a.toNat)
  | .tst => decide (a &&& b ≠ 0)
  | .ntst => decide (a &&& b = 0)

/-- The function of PLOG (R46). -/
def plogFunc (f : PFunc) (a b : Bool) : Bool :=
  match f with
  | .pand => a && b
  | .por => a || b
  | .pxor => Bool.xor a b
  | .pandn => a && !b
  | .porn => a || !b
  | .pset => true
  | .pclr => false

/-! ### Shapes of works (R110) -/

/-- An AN-class instruction from two registers: its result, and the code that the T slice forms (R111). -/
def anRR (unit : Nat) (rd ra rb : BitVec 6) (f : Dword → Dword → Dword) (g : Int → Int → Int → Int) : Work :=
  { unit := unit, regs := [ra, rb], body := fun _ c => .int rd (f (c.rg ra) (c.rg rb)) {}
    twin := .an (fun A x _ => .val rd (g A (x ra) (x rb)) false) }

/-- An AN-class instruction from one register. -/
def anR (unit : Nat) (rd ra : BitVec 6) (f : Dword → Dword) (g : Int → Int → Int) : Work :=
  { unit := unit, regs := [ra], body := fun _ c => .int rd (f (c.rg ra)) {}
    twin := .an (fun A x _ => .val rd (g A (x ra)) false) }

/-- An instruction from two registers whose T slice computes `g` on decoded operands (R110). -/
def otherRR (unit : Nat) (rd ra rb : BitVec 6) (f g : Dword → Dword → Dword) : Work :=
  { unit := unit, regs := [ra, rb], body := fun _ c => .int rd (f (c.rg ra) (c.rg rb)) {}
    twin := .other (fun _ c => .int rd (g (c.rg ra) (c.rg rb)) {}) }

/-- An instruction from one register whose T slice computes `g` on the decoded operand (R110). -/
def otherR (unit : Nat) (rd ra : BitVec 6) (f g : Dword → Dword) : Work :=
  { unit := unit, regs := [ra], body := fun _ c => .int rd (f (c.rg ra)) {}
    twin := .other (fun _ c => .int rd (g (c.rg ra)) {}) }

/-- An instruction of class PLAIN from two registers. -/
def plainRR (unit : Nat) (rd ra rb : BitVec 6) (f : Dword → Dword → Out) : Work :=
  .plain unit [ra, rb] (fun _ c => f (c.rg ra) (c.rg rb))

/-! ### Mirrored and dual forms (R110) -/

/-- A left shift as a right shift of the bit-reversed operand, reversed back. -/
def mirrorLeft (v : Dword) (n : Nat) : Dword := (v.reverse >>> n).reverse

/-- A right shift as a left shift of the bit-reversed operand with the fill bit given, reversed back. -/
def mirrorRight (v : Dword) (n : Nat) (fill : Bool) : Dword :=
  ((v.reverse <<< n) ||| (if fill then BitVec.ofNat 64 (2 ^ n - 1) else 0)).reverse

/-- The number of trailing zeros of a value; 64 for 0. -/
def trailingZeros (v : Dword) : Nat := ((List.range 64).find? (fun i => v.getLsbD i)).getD 64

/-- AND as OR on inverted operands, inverted back; and so on. -/
def dualAnd (a b : Dword) : Dword := ~~~(~~~a ||| ~~~b)
def dualOr (a b : Dword) : Dword := ~~~(~~~a &&& ~~~b)
def dualXor (a b : Dword) : Dword := ~~~(~~~(~~~a ^^^ ~~~b))
def dualAndn (a b : Dword) : Dword := ~~~(~~~a ||| ~~~(~~~b))

/-- The function of PLOG from inverted operands, inverted back (R110). -/
def plogDual (f : PFunc) (a b : Bool) : Bool :=
  let na := !a
  let nb := !b
  match f with
  | .pand => !(na || nb)
  | .por => !(na && nb)
  | .pxor => !(!(Bool.xor na nb))
  | .pandn => !(na || !nb)
  | .porn => !(na && !nb)
  | .pset => !false
  | .pclr => !true

/-- TST and NTST on inverted operands (R110). -/
def tstDual (c : Cond) (a b : Dword) : Bool :=
  let none := decide ((~~~a ||| ~~~b) = BitVec.allOnes 64)
  if c = .tst then !none else none

/-- A signed or unsigned compare of two codes (R111). -/
def codeCond (c : Cond) (A a b : Int) : Bool :=
  match c with
  | .eq => decide (a = b)
  | .ne => decide (a ≠ b)
  | .lt => decide (a < b)
  | .ge => decide (b ≤ a)
  | .ltu => decide (anU A a < anU A b)
  | .geu => decide (anU A b ≤ anU A a)
  | _ => false

/-- A compare in class AN, or in class DUAL for TST and NTST (R110). -/
def compareTwin (pd : BitVec 3) (c : Cond) (ra : BitVec 6) (code : Int → (BitVec 6 → Int) → Int) (val : Ctx → Dword) : Twin :=
  match c with
  | .tst => .other (fun _ k => .prd pd (tstDual .tst (k.rg ra) (val k)) {} false)
  | .ntst => .other (fun _ k => .prd pd (tstDual .ntst (k.rg ra) (val k)) {} false)
  | c => .an (fun A x _ => .prd pd (codeCond c A (x ra) (code A x)))

/-- A code clamped against A × lo and A × hi, with SAT (R111). -/
def anClamp (rd : BitVec 6) (A lo hi c : Int) : AnOut := .val rd (clampI (A * lo) (A * hi) c) (decide (clampI (A * lo) (A * hi) c ≠ c))

/-! ### Instructions -/

/-- ADDI (R41): rd := ra + sext(imm10). -/
def workAddi (rd ra : BitVec 6) (imm : BitVec 10) : Work :=
  anR 0x20 rd ra (· + simm imm) (fun A a => red A (a + A * (simm imm).toInt))

/-- ADDI (R41): its work issued. -/
def execAddi (q : Issue) (rd ra : BitVec 6) (imm : BitVec 10) (s : State) : Host.Outcome State Fault Refusal :=
  chord q (workAddi rd ra imm) s

/-- ANDI (R41): rd := ra AND zext(imm10). -/
def workAndi (rd ra : BitVec 6) (imm : BitVec 10) : Work :=
  otherR 0x30 rd ra (· &&& zimm imm) (fun a => dualAnd a (zimm imm))

/-- ANDI (R41): its work issued. -/
def execAndi (q : Issue) (rd ra : BitVec 6) (imm : BitVec 10) (s : State) : Host.Outcome State Fault Refusal :=
  chord q (workAndi rd ra imm) s

/-- ORI (R41): rd := ra OR zext(imm10). -/
def workOri (rd ra : BitVec 6) (imm : BitVec 10) : Work :=
  otherR 0x40 rd ra (· ||| zimm imm) (fun a => dualOr a (zimm imm))

/-- ORI (R41): its work issued. -/
def execOri (q : Issue) (rd ra : BitVec 6) (imm : BitVec 10) (s : State) : Host.Outcome State Fault Refusal :=
  chord q (workOri rd ra imm) s

/-- XORI (R41): rd := ra XOR zext(imm10). -/
def workXori (rd ra : BitVec 6) (imm : BitVec 10) : Work :=
  otherR 0x50 rd ra (· ^^^ zimm imm) (fun a => dualXor a (zimm imm))

/-- XORI (R41): its work issued. -/
def execXori (q : Issue) (rd ra : BitVec 6) (imm : BitVec 10) (s : State) : Host.Outcome State Fault Refusal :=
  chord q (workXori rd ra imm) s

/-- SLLI (R41): rd := ra << imm10[5:0]. -/
def workSlli (rd ra : BitVec 6) (sh : BitVec 6) : Work :=
  otherR 0x60 rd ra (· <<< sh.toNat) (fun a => mirrorLeft a sh.toNat)

/-- SLLI (R41): its work issued. -/
def execSlli (q : Issue) (rd ra : BitVec 6) (sh : BitVec 6) (s : State) : Host.Outcome State Fault Refusal :=
  chord q (workSlli rd ra sh) s

/-- SRLI (R41): rd := ra >> imm10[5:0], zero fill. -/
def workSrli (rd ra : BitVec 6) (sh : BitVec 6) : Work :=
  otherR 0x70 rd ra (· >>> sh.toNat) (fun a => mirrorRight a sh.toNat false)

/-- SRLI (R41): its work issued. -/
def execSrli (q : Issue) (rd ra : BitVec 6) (sh : BitVec 6) (s : State) : Host.Outcome State Fault Refusal :=
  chord q (workSrli rd ra sh) s

/-- SRAI (R41): rd := ra >> imm10[5:0], sign fill. -/
def workSrai (rd ra : BitVec 6) (sh : BitVec 6) : Work :=
  otherR 0x80 rd ra (·.sshiftRight sh.toNat) (fun a => mirrorRight a sh.toNat a.msb)

/-- SRAI (R41): its work issued. -/
def execSrai (q : Issue) (rd ra : BitVec 6) (sh : BitVec 6) (s : State) : Host.Outcome State Fault Refusal :=
  chord q (workSrai rd ra sh) s

/-- MULI (R41): the low 64 bits of ra × sext(imm10). -/
def workMuli (rd ra : BitVec 6) (imm : BitVec 10) : Work :=
  anR 0x90 rd ra (· * simm imm) (fun A a => red A (a * (simm imm).toInt))

/-- MULI (R41): its work issued. -/
def execMuli (q : Issue) (rd ra : BitVec 6) (imm : BitVec 10) (s : State) : Host.Outcome State Fault Refusal :=
  chord q (workMuli rd ra imm) s

/-- The constant of MOVZ (R41). -/
def movzValue (hw : BitVec 2) (imm : BitVec 16) : Dword := (imm.zeroExtend 64 : Dword) <<< (16 * hw.toNat)

/-- MOVZ (R41): rd := imm16 << (16 × hw), unconditional. -/
def workMovz (rd : BitVec 6) (hw : BitVec 2) (imm : BitVec 16) : Work :=
  { unit := 0xA0, guarded := false, body := fun _ _ => .int rd (movzValue hw imm) {}
    twin := .an (fun A _ _ => .val rd (red A (A * (movzValue hw imm).toInt)) false) }

/-- MOVZ (R41): its work issued. -/
def execMovz (q : Issue) (rd : BitVec 6) (hw : BitVec 2) (imm : BitVec 16) (s : State) : Host.Outcome State Fault Refusal :=
  chord q (workMovz rd hw imm) s

/-- MOVK (R41): imm16 into field hw of rd, the other bits kept, unconditional. -/
def workMovk (rd : BitVec 6) (hw : BitVec 2) (imm : BitVec 16) : Work :=
  { Work.plain 0xB0 [rd] (fun _ c => .int rd (putField (c.rg rd) hw imm) {}) with guarded := false }

/-- MOVK (R41): its work issued. -/
def execMovk (q : Issue) (rd : BitVec 6) (hw : BitVec 2) (imm : BitVec 16) (s : State) : Host.Outcome State Fault Refusal :=
  chord q (workMovk rd hw imm) s

/-- ADD (R42): ra + rb. -/
def workAdd (rd ra rb : BitVec 6) : Work :=
  anRR 0x00 rd ra rb (· + ·) (fun A a b => red A (a + b))

/-- ADD (R42): its work issued. -/
def execAdd (q : Issue) (rd ra rb : BitVec 6) (s : State) : Host.Outcome State Fault Refusal :=
  chord q (workAdd rd ra rb) s

/-- SUB (R42): ra − rb. -/
def workSub (rd ra rb : BitVec 6) : Work :=
  anRR 0x01 rd ra rb (· - ·) (fun A a b => red A (a - b))

/-- SUB (R42): its work issued. -/
def execSub (q : Issue) (rd ra rb : BitVec 6) (s : State) : Host.Outcome State Fault Refusal :=
  chord q (workSub rd ra rb) s

/-- AND (R42): ra AND rb. -/
def workAnd (rd ra rb : BitVec 6) : Work :=
  otherRR 0x02 rd ra rb (· &&& ·) dualAnd

/-- AND (R42): its work issued. -/
def execAnd (q : Issue) (rd ra rb : BitVec 6) (s : State) : Host.Outcome State Fault Refusal :=
  chord q (workAnd rd ra rb) s

/-- OR (R42): ra OR rb. -/
def workOr (rd ra rb : BitVec 6) : Work :=
  otherRR 0x03 rd ra rb (· ||| ·) dualOr

/-- OR (R42): its work issued. -/
def execOr (q : Issue) (rd ra rb : BitVec 6) (s : State) : Host.Outcome State Fault Refusal :=
  chord q (workOr rd ra rb) s

/-- XOR (R42): ra XOR rb. -/
def workXor (rd ra rb : BitVec 6) : Work :=
  otherRR 0x04 rd ra rb (· ^^^ ·) dualXor

/-- XOR (R42): its work issued. -/
def execXor (q : Issue) (rd ra rb : BitVec 6) (s : State) : Host.Outcome State Fault Refusal :=
  chord q (workXor rd ra rb) s

/-- ANDN (R42): ra AND NOT rb. -/
def workAndn (rd ra rb : BitVec 6) : Work :=
  otherRR 0x05 rd ra rb (fun a b => a &&& ~~~b) dualAndn

/-- ANDN (R42): its work issued. -/
def execAndn (q : Issue) (rd ra rb : BitVec 6) (s : State) : Host.Outcome State Fault Refusal :=
  chord q (workAndn rd ra rb) s

/-- SLL (R42): ra << rb[5:0]. -/
def workSll (rd ra rb : BitVec 6) : Work :=
  otherRR 0x06 rd ra rb (fun a b => a <<< shAmt b) (fun a b => mirrorLeft a (shAmt b))

/-- SLL (R42): its work issued. -/
def execSll (q : Issue) (rd ra rb : BitVec 6) (s : State) : Host.Outcome State Fault Refusal :=
  chord q (workSll rd ra rb) s

/-- SRL (R42): ra >> rb[5:0], zero fill. -/
def workSrl (rd ra rb : BitVec 6) : Work :=
  otherRR 0x07 rd ra rb (fun a b => a >>> shAmt b) (fun a b => mirrorRight a (shAmt b) false)

/-- SRL (R42): its work issued. -/
def execSrl (q : Issue) (rd ra rb : BitVec 6) (s : State) : Host.Outcome State Fault Refusal :=
  chord q (workSrl rd ra rb) s

/-- SRA (R42): ra >> rb[5:0], sign fill. -/
def workSra (rd ra rb : BitVec 6) : Work :=
  otherRR 0x08 rd ra rb (fun a b => a.sshiftRight (shAmt b)) (fun a b => mirrorRight a (shAmt b) a.msb)

/-- SRA (R42): its work issued. -/
def execSra (q : Issue) (rd ra rb : BitVec 6) (s : State) : Host.Outcome State Fault Refusal :=
  chord q (workSra rd ra rb) s

/-- MUL (R42): the low 64 bits of ra × rb. -/
def workMul (rd ra rb : BitVec 6) : Work :=
  anRR 0x09 rd ra rb (· * ·) (fun A a b => red A (a * b / A))

/-- MUL (R42): its work issued. -/
def execMul (q : Issue) (rd ra rb : BitVec 6) (s : State) : Host.Outcome State Fault Refusal :=
  chord q (workMul rd ra rb) s

/-- MULHS (R42): the high 64 bits of the signed product. -/
def workMulhs (rd ra rb : BitVec 6) : Work :=
  plainRR 0x0A rd ra rb (fun a b => .int rd (BitVec.ofInt 64 (a.toInt * b.toInt / 2 ^ 64)) {})

/-- MULHS (R42): its work issued. -/
def execMulhs (q : Issue) (rd ra rb : BitVec 6) (s : State) : Host.Outcome State Fault Refusal :=
  chord q (workMulhs rd ra rb) s

/-- MULHU (R42): the high 64 bits of the unsigned product. -/
def workMulhu (rd ra rb : BitVec 6) : Work :=
  plainRR 0x0B rd ra rb (fun a b => .int rd (BitVec.ofNat 64 (a.toNat * b.toNat / 2 ^ 64)) {})

/-- MULHU (R42): its work issued. -/
def execMulhu (q : Issue) (rd ra rb : BitVec 6) (s : State) : Host.Outcome State Fault Refusal :=
  chord q (workMulhu rd ra rb) s

/-- MIN (R42): signed minimum. -/
def workMin (rd ra rb : BitVec 6) : Work :=
  anRR 0x0C rd ra rb (fun a b => if a.toInt ≤ b.toInt then a else b) (fun _ a b => if a ≤ b then a else b)

/-- MIN (R42): its work issued. -/
def execMin (q : Issue) (rd ra rb : BitVec 6) (s : State) : Host.Outcome State Fault Refusal :=
  chord q (workMin rd ra rb) s

/-- MAX (R42): signed maximum. -/
def workMax (rd ra rb : BitVec 6) : Work :=
  anRR 0x0D rd ra rb (fun a b => if a.toInt ≤ b.toInt then b else a) (fun _ a b => if a ≤ b then b else a)

/-- MAX (R42): its work issued. -/
def execMax (q : Issue) (rd ra rb : BitVec 6) (s : State) : Host.Outcome State Fault Refusal :=
  chord q (workMax rd ra rb) s

/-- MINU (R42): unsigned minimum. -/
def workMinu (rd ra rb : BitVec 6) : Work :=
  anRR 0x0E rd ra rb (fun a b => if a.toNat ≤ b.toNat then a else b) (fun A a b => if anU A a ≤ anU A b then a else b)

/-- MINU (R42): its work issued. -/
def execMinu (q : Issue) (rd ra rb : BitVec 6) (s : State) : Host.Outcome State Fault Refusal :=
  chord q (workMinu rd ra rb) s

/-- MAXU (R42): unsigned maximum. -/
def workMaxu (rd ra rb : BitVec 6) : Work :=
  anRR 0x0F rd ra rb (fun a b => if a.toNat ≤ b.toNat then b else a) (fun A a b => if anU A a ≤ anU A b then b else a)

/-- MAXU (R42): its work issued. -/
def execMaxu (q : Issue) (rd ra rb : BitVec 6) (s : State) : Host.Outcome State Fault Refusal :=
  chord q (workMaxu rd ra rb) s

/-- DIV (R43, R44): signed quotient truncated toward zero; DIVZERO for rb = 0. -/
def workDiv (rd ra rb : BitVec 6) : Work :=
  plainRR 0x10 rd ra rb (fun a b => if b = 0 then .exc excDivZero 0 else .int rd (a.sdiv b) {})

/-- DIV (R43, R44): its work issued. -/
def execDiv (q : Issue) (rd ra rb : BitVec 6) (s : State) : Host.Outcome State Fault Refusal :=
  chord q (workDiv rd ra rb) s

/-- DIVU (R43, R44): unsigned quotient; DIVZERO for rb = 0. -/
def workDivu (rd ra rb : BitVec 6) : Work :=
  plainRR 0x11 rd ra rb (fun a b => if b = 0 then .exc excDivZero 0 else .int rd (a / b) {})

/-- DIVU (R43, R44): its work issued. -/
def execDivu (q : Issue) (rd ra rb : BitVec 6) (s : State) : Host.Outcome State Fault Refusal :=
  chord q (workDivu rd ra rb) s

/-- REM (R43, R44): signed remainder with the sign of ra; DIVZERO for rb = 0. -/
def workRem (rd ra rb : BitVec 6) : Work :=
  plainRR 0x12 rd ra rb (fun a b => if b = 0 then .exc excDivZero 0 else .int rd (a.srem b) {})

/-- REM (R43, R44): its work issued. -/
def execRem (q : Issue) (rd ra rb : BitVec 6) (s : State) : Host.Outcome State Fault Refusal :=
  chord q (workRem rd ra rb) s

/-- REMU (R43, R44): unsigned remainder; DIVZERO for rb = 0. -/
def workRemu (rd ra rb : BitVec 6) : Work :=
  plainRR 0x13 rd ra rb (fun a b => if b = 0 then .exc excDivZero 0 else .int rd (a % b) {})

/-- REMU (R43, R44): its work issued. -/
def execRemu (q : Issue) (rd ra rb : BitVec 6) (s : State) : Host.Outcome State Fault Refusal :=
  chord q (workRemu rd ra rb) s

/-- ABS (R43): absolute value; ABS of −2^63 gives −2^63. -/
def workAbs (rd ra : BitVec 6) : Work :=
  anR 0x14 rd ra (fun a => if a.toInt < 0 then -a else a) (fun A a => red A (if a < 0 then -a else a))

/-- ABS (R43): its work issued. -/
def execAbs (q : Issue) (rd ra : BitVec 6) (s : State) : Host.Outcome State Fault Refusal :=
  chord q (workAbs rd ra) s

/-- NEG (R43): 0 − ra. -/
def workNeg (rd ra : BitVec 6) : Work :=
  anR 0x15 rd ra (fun a => 0 - a) (fun A a => red A (0 - a))

/-- NEG (R43): its work issued. -/
def execNeg (q : Issue) (rd ra : BitVec 6) (s : State) : Host.Outcome State Fault Refusal :=
  chord q (workNeg rd ra) s

/-- CLZ (R43): count of leading zero bits; 64 for ra = 0. -/
def workClz (rd ra : BitVec 6) : Work :=
  otherR 0x16 rd ra (fun a => BitVec.ofNat 64 (64 - bitLen a.toNat)) (fun a => BitVec.ofNat 64 (trailingZeros a.reverse))

/-- CLZ (R43): its work issued. -/
def execClz (q : Issue) (rd ra : BitVec 6) (s : State) : Host.Outcome State Fault Refusal :=
  chord q (workClz rd ra) s

/-- POPC (R43): count of one bits. -/
def workPopc (rd ra : BitVec 6) : Work :=
  otherR 0x17 rd ra (fun a => BitVec.ofNat 64 (onesOf a)) (fun a => BitVec.ofNat 64 (64 - onesOf (~~~a)))

/-- POPC (R43): its work issued. -/
def execPopc (q : Issue) (rd ra : BitVec 6) (s : State) : Host.Outcome State Fault Refusal :=
  chord q (workPopc rd ra) s

/-- SEXTW (R43): ra[31:0] sign-extended. -/
def workSextw (rd ra : BitVec 6) : Work :=
  .plain 0x18 [ra] (fun _ c => .int rd (((c.rg ra).truncate 32).signExtend 64) {})

/-- SEXTW (R43): its work issued. -/
def execSextw (q : Issue) (rd ra : BitVec 6) (s : State) : Host.Outcome State Fault Refusal :=
  chord q (workSextw rd ra) s

/-- ZEXTW (R43): ra[31:0] zero-extended. -/
def workZextw (rd ra : BitVec 6) : Work :=
  .plain 0x19 [ra] (fun _ c => .int rd (((c.rg ra).truncate 32 : BitVec 32).zeroExtend 64) {})

/-- ZEXTW (R43): its work issued. -/
def execZextw (q : Issue) (rd ra : BitVec 6) (s : State) : Host.Outcome State Fault Refusal :=
  chord q (workZextw rd ra) s

/-- SATW (R43): ra clamped to the int32 range; SAT when clamped. -/
def workSatw (rd ra : BitVec 6) : Work :=
  { unit := 0x1A, regs := [ra], body := fun _ c => clampTo rd sat32 (c.rg ra).toInt
    twin := .an (fun A x _ => anClamp rd A (-2147483648) 2147483647 (x ra)) }

/-- SATW (R43): its work issued. -/
def execSatw (q : Issue) (rd ra : BitVec 6) (s : State) : Host.Outcome State Fault Refusal :=
  chord q (workSatw rd ra) s

/-- SATH (R43): ra clamped to the int16 range; SAT when clamped. -/
def workSath (rd ra : BitVec 6) : Work :=
  { unit := 0x1B, regs := [ra], body := fun _ c => clampTo rd sat16 (c.rg ra).toInt
    twin := .an (fun A x _ => anClamp rd A (-32768) 32767 (x ra)) }

/-- SATH (R43): its work issued. -/
def execSath (q : Issue) (rd ra : BitVec 6) (s : State) : Host.Outcome State Fault Refusal :=
  chord q (workSath rd ra) s

/-- CMP (R45): pd := cond(ra, rb). -/
def workCmp (pd : BitVec 3) (cond : Cond) (ra rb : BitVec 6) : Work :=
  { unit := 0x110, regs := [ra, rb], body := fun _ c => .prd pd (condHolds cond (c.rg ra) (c.rg rb)) {} false
    twin := compareTwin pd cond ra (fun _ x => x rb) (fun c => c.rg rb) }

/-- CMP (R45): its work issued. -/
def execCmp (q : Issue) (pd : BitVec 3) (cond : Cond) (ra rb : BitVec 6) (s : State) : Host.Outcome State Fault Refusal :=
  chord q (workCmp pd cond ra rb) s

/-- CMPI (R45): pd := cond(ra, sext(imm10)). -/
def workCmpi (pd : BitVec 3) (cond : Cond) (ra : BitVec 6) (imm : BitVec 10) : Work :=
  { unit := 0x120, regs := [ra], body := fun _ c => .prd pd (condHolds cond (c.rg ra) (simm imm)) {} false
    twin := compareTwin pd cond ra (fun A _ => A * (simm imm).toInt) (fun _ => simm imm) }

/-- CMPI (R45): its work issued. -/
def execCmpi (q : Issue) (pd : BitVec 3) (cond : Cond) (ra : BitVec 6) (imm : BitVec 10) (s : State) : Host.Outcome State Fault Refusal :=
  chord q (workCmpi pd cond ra imm) s

/-- PLOG (R46): pd := func(pa, pb). -/
def workPlog (pd : BitVec 3) (f : PFunc) (pa pb : BitVec 3) : Work :=
  { unit := 0x130, preds := [pa, pb], body := fun _ c => .prd pd (plogFunc f (c.rp pa) (c.rp pb)) {} false
    twin := .other (fun _ c => .prd pd (plogDual f (c.rp pa) (c.rp pb)) {} false) }

/-- PLOG (R46): its work issued. -/
def execPlog (q : Issue) (pd : BitVec 3) (f : PFunc) (pa pb : BitVec 3) (s : State) : Host.Outcome State Fault Refusal :=
  chord q (workPlog pd f pa pb) s

end Sys2Proof.Machine
end

