-- ==== Sys2Proof/Machine/Fixed.lean ====
section
/-!
DEFINITION. Fixed-point instructions (R47): one work and one meaning per
instruction over `chord`. The T slice of the AN class re-encodes each operand from its bits [31:0] (R111).
-/
namespace Sys2Proof.Machine

/-- QRSR's rounding right shift (R47). -/
def roundShift (a : Int) (s : Nat) : Int := if s = 0 then a else (a + 2 ^ (s - 1)) / 2 ^ s

/-- |b|, where −2^31 acts as 2^31 − 1 (R47). -/
def absLimit (b : Int) : Int := min (b.natAbs : Int) 2147483647

/-- An AN-class QFX instruction: its exact result clamped by sat32, and the same sum of codes clamped (R47, R111). -/
def anQ (unit : Nat) (rd ra rb : BitVec 6) (f : Int → Int → Int) : Work :=
  { unit := unit, regs := [ra, rb], body := fun _ c => clampTo rd sat32 (f (q31 (c.rg ra)) (q31 (c.rg rb)))
    twin := .an (fun A _ v => anClamp rd A (-2147483648) 2147483647 (f (A * q31 (v ra)) (A * q31 (v rb)))) }

/-- QADD (R47): sat32(a + b). -/
def workQadd (rd ra rb : BitVec 6) : Work :=
  anQ 0x100 rd ra rb (· + ·)

/-- QADD (R47): its work issued. -/
def execQadd (q : Issue) (rd ra rb : BitVec 6) (s : State) : Host.Outcome State Fault Refusal :=
  chord q (workQadd rd ra rb) s

/-- QSUB (R47): sat32(a − b). -/
def workQsub (rd ra rb : BitVec 6) : Work :=
  anQ 0x101 rd ra rb (· - ·)

/-- QSUB (R47): its work issued. -/
def execQsub (q : Issue) (rd ra rb : BitVec 6) (s : State) : Host.Outcome State Fault Refusal :=
  chord q (workQsub rd ra rb) s

/-- QMUL15 (R47): sat16((a × b + 2^14) >> 15) on Q15 operands. -/
def workQmul15 (rd ra rb : BitVec 6) : Work :=
  plainRR 0x102 rd ra rb (fun a b => clampTo rd sat16 (rnd15 (q15 a * q15 b)))

/-- QMUL15 (R47): its work issued. -/
def execQmul15 (q : Issue) (rd ra rb : BitVec 6) (s : State) : Host.Outcome State Fault Refusal :=
  chord q (workQmul15 rd ra rb) s

/-- QMUL31 (R47): sat32((a × b + 2^30) >> 31). -/
def workQmul31 (rd ra rb : BitVec 6) : Work :=
  plainRR 0x103 rd ra rb (fun a b => clampTo rd sat32 (rnd31 (q31 a * q31 b)))

/-- QMUL31 (R47): its work issued. -/
def execQmul31 (q : Issue) (rd ra rb : BitVec 6) (s : State) : Host.Outcome State Fault Refusal :=
  chord q (workQmul31 rd ra rb) s

/-- QMAC31 (R47): sat32(rd + the rounded product). -/
def workQmac31 (rd ra rb : BitVec 6) : Work :=
  .plain 0x104 [rd, ra, rb] (fun _ c => clampTo rd sat32 (q31 (c.rg rd) + rnd31 (q31 (c.rg ra) * q31 (c.rg rb))))

/-- QMAC31 (R47): its work issued. -/
def execQmac31 (q : Issue) (rd ra rb : BitVec 6) (s : State) : Host.Outcome State Fault Refusal :=
  chord q (workQmac31 rd ra rb) s

/-- QMSU31 (R47): sat32(rd − the rounded product). -/
def workQmsu31 (rd ra rb : BitVec 6) : Work :=
  .plain 0x105 [rd, ra, rb] (fun _ c => clampTo rd sat32 (q31 (c.rg rd) - rnd31 (q31 (c.rg ra) * q31 (c.rg rb))))

/-- QMSU31 (R47): its work issued. -/
def execQmsu31 (q : Issue) (rd ra rb : BitVec 6) (s : State) : Host.Outcome State Fault Refusal :=
  chord q (workQmsu31 rd ra rb) s

/-- QABS (R47): sat32(|a|); rb is not used. -/
def workQabs (rd ra _rb : BitVec 6) : Work :=
  anQ 0x106 rd ra ra (fun a _ => if a < 0 then -a else a)

/-- QABS (R47): its work issued. -/
def execQabs (q : Issue) (rd ra _rb : BitVec 6) (s : State) : Host.Outcome State Fault Refusal :=
  chord q (workQabs rd ra _rb) s

/-- QNEG (R47): sat32(−a); rb is not used. -/
def workQneg (rd ra _rb : BitVec 6) : Work :=
  anQ 0x107 rd ra ra (fun a _ => -a)

/-- QNEG (R47): its work issued. -/
def execQneg (q : Issue) (rd ra _rb : BitVec 6) (s : State) : Host.Outcome State Fault Refusal :=
  chord q (workQneg rd ra _rb) s

/-- QSHL (R47): sat32(a × 2^s), s = rb[4:0]. -/
def workQshl (rd ra rb : BitVec 6) : Work :=
  plainRR 0x108 rd ra rb (fun a b => clampTo rd sat32 (q31 a * 2 ^ (b.toNat % 32)))

/-- QSHL (R47): its work issued. -/
def execQshl (q : Issue) (rd ra rb : BitVec 6) (s : State) : Host.Outcome State Fault Refusal :=
  chord q (workQshl rd ra rb) s

/-- QRSR (R47): (a + 2^(s−1)) >> s for s = rb[4:0] ≥ 1, a for s = 0. -/
def workQrsr (rd ra rb : BitVec 6) : Work :=
  plainRR 0x109 rd ra rb (fun a b => .int rd (ofInt (roundShift (q31 a) (b.toNat % 32))) {})

/-- QRSR (R47): its work issued. -/
def execQrsr (q : Issue) (rd ra rb : BitVec 6) (s : State) : Host.Outcome State Fault Refusal :=
  chord q (workQrsr rd ra rb) s

/-- QLIM (R47): a clamped to −|b| … |b|; SAT when clamped. -/
def workQlim (rd ra rb : BitVec 6) : Work :=
  { unit := 0x10A, regs := [ra, rb]
    body := fun _ c => clampTo rd (clampI (-(absLimit (q31 (c.rg rb)))) (absLimit (q31 (c.rg rb)))) (q31 (c.rg ra))
    twin := .an (fun A _ v =>
      let lim := min ((A * q31 (v rb)).natAbs : Int) (A * 2147483647)
      let a := A * q31 (v ra)
      .val rd (clampI (-lim) lim a) (decide (clampI (-lim) lim a ≠ a))) }

/-- QLIM (R47): its work issued. -/
def execQlim (q : Issue) (rd ra rb : BitVec 6) (s : State) : Host.Outcome State Fault Refusal :=
  chord q (workQlim rd ra rb) s

end Sys2Proof.Machine
end

