-- ==== Sys2Proof/Machine/Floating.lean ====
section
/-!
DEFINITION. binary32 instructions (R48 to R52), with the scaled arithmetic of their T slice (R112, R113): one work and one
meaning per instruction over `chord`.
-/
namespace Sys2Proof.Machine

/-- A binary32 result with its flags. -/
def fltOut (rd : BitVec 6) (r : BitVec 32 × Flags) (fb : Bool) : Out := .flt rd r.1 r.2 fb

/-- An integer result of a conversion with its flags: FP_TRAP applies to it as to every binary32 instruction (R52). -/
def fixOut (rd : BitVec 6) (r : Int × Flags) : Out := .int rd (ofInt r.1) r.2

/-- A SCALE-class instruction from two registers, with operand scales and result scale in units of k (R112). -/
def scaleRR (unit : Nat) (rd ra rb : BitVec 6) (kind : ScaleKind) (sa sb sres : Int) (f : BitVec 32 → BitVec 32 → BitVec 32 × Flags) :
    Work :=
  { unit := unit, regs := [ra, rb]
    body := fun r c => fltOut rd (f (f32 (c.rg ra)) (f32 (c.rg rb))) (fallback kind r (f32 (c.rg ra)) (f32 (c.rg rb)) 0)
    twin := .other (fun r c =>
      let k := rotShift r
      let a := f32 (c.rg ra)
      let b := f32 (c.rg rb)
      let fb := fallback kind r a b 0
      scaleOut rd fb (sres * k) (f (fOp fb a (sa * k)) (fOp fb b (sb * k)))) }

/-- A SCALE-class instruction from one register. -/
def scaleR (unit : Nat) (rd ra : BitVec 6) (kind : ScaleKind) (sa sres : Int) (f : BitVec 32 → BitVec 32 × Flags) : Work :=
  { unit := unit, regs := [ra]
    body := fun r c => fltOut rd (f (f32 (c.rg ra))) (fallback kind r (f32 (c.rg ra)) (f32 (c.rg ra)) 0)
    twin := .other (fun r c =>
      let k := rotShift r
      let a := f32 (c.rg ra)
      let fb := fallback kind r a a 0
      scaleOut rd fb (sres * k) (f (fOp fb a (sa * k)))) }

/-- FMAC and FMSC: rd at scale 2k, the factors at k (R112). -/
def scaleFma (unit : Nat) (rd ra rb : BitVec 6) (neg : Bool) : Work :=
  { unit := unit, regs := [rd, ra, rb]
    body := fun r c => fltOut rd (fFma neg (f32 (c.rg rd)) (f32 (c.rg ra)) (f32 (c.rg rb)))
      (fallback .fma r (f32 (c.rg ra)) (f32 (c.rg rb)) (f32 (c.rg rd)))
    twin := .other (fun r c =>
      let k := rotShift r
      let a := f32 (c.rg ra)
      let b := f32 (c.rg rb)
      let d := f32 (c.rg rd)
      let fb := fallback .fma r a b d
      scaleOut rd fb (2 * k) (fFma neg (fOp fb d (2 * k)) (fOp fb a k) (fOp fb b k))) }

/-- FADD (R50): a + b. -/
def workFadd (rd ra rb : BitVec 6) : Work :=
  scaleRR 0x180 rd ra rb .add 1 1 1 fAdd

/-- FADD (R50): its work issued. -/
def execFadd (q : Issue) (rd ra rb : BitVec 6) (s : State) : Host.Outcome State Fault Refusal :=
  chord q (workFadd rd ra rb) s

/-- FSUB (R50): a − b. -/
def workFsub (rd ra rb : BitVec 6) : Work :=
  scaleRR 0x181 rd ra rb .add 1 1 1 fSub

/-- FSUB (R50): its work issued. -/
def execFsub (q : Issue) (rd ra rb : BitVec 6) (s : State) : Host.Outcome State Fault Refusal :=
  chord q (workFsub rd ra rb) s

/-- FMUL (R50): a × b. -/
def workFmul (rd ra rb : BitVec 6) : Work :=
  scaleRR 0x182 rd ra rb .mul 1 1 2 fMul

/-- FMUL (R50): its work issued. -/
def execFmul (q : Issue) (rd ra rb : BitVec 6) (s : State) : Host.Outcome State Fault Refusal :=
  chord q (workFmul rd ra rb) s

/-- FDIV (R50): a / b; DZ for a finite non-zero a over a zero. -/
def workFdiv (rd ra rb : BitVec 6) : Work :=
  scaleRR 0x183 rd ra rb .div 2 1 1 fDiv

/-- FDIV (R50): its work issued. -/
def execFdiv (q : Issue) (rd ra rb : BitVec 6) (s : State) : Host.Outcome State Fault Refusal :=
  chord q (workFdiv rd ra rb) s

/-- FSQRT (R50): √a. -/
def workFsqrt (rd ra : BitVec 6) : Work :=
  scaleR 0x184 rd ra .sqrt 2 1 fSqrt

/-- FSQRT (R50): its work issued. -/
def execFsqrt (q : Issue) (rd ra : BitVec 6) (s : State) : Host.Outcome State Fault Refusal :=
  chord q (workFsqrt rd ra) s

/-- FMIN (R50): the smaller operand under the NaN and zero rules. -/
def workFmin (rd ra rb : BitVec 6) : Work :=
  scaleRR 0x185 rd ra rb .minmax 1 1 1 (fMinMax true)

/-- FMIN (R50): its work issued. -/
def execFmin (q : Issue) (rd ra rb : BitVec 6) (s : State) : Host.Outcome State Fault Refusal :=
  chord q (workFmin rd ra rb) s

/-- FMAX (R50): the larger operand under the NaN and zero rules. -/
def workFmax (rd ra rb : BitVec 6) : Work :=
  scaleRR 0x186 rd ra rb .minmax 1 1 1 (fMinMax false)

/-- FMAX (R50): its work issued. -/
def execFmax (q : Issue) (rd ra rb : BitVec 6) (s : State) : Host.Outcome State Fault Refusal :=
  chord q (workFmax rd ra rb) s

/-- FABS (R50): a with its sign bit cleared; no flag; rb is not used. -/
def workFabs (rd ra _rb : BitVec 6) : Work :=
  scaleR 0x187 rd ra .minmax 1 1 (fun a => (a &&& 0x7FFFFFFF#32, {}))

/-- FABS (R50): its work issued. -/
def execFabs (q : Issue) (rd ra _rb : BitVec 6) (s : State) : Host.Outcome State Fault Refusal :=
  chord q (workFabs rd ra _rb) s

/-- FNEG (R50): a with its sign bit inverted; no flag; rb is not used. -/
def workFneg (rd ra _rb : BitVec 6) : Work :=
  scaleR 0x188 rd ra .minmax 1 1 (fun a => (fNegate a, {}))

/-- FNEG (R50): its work issued. -/
def execFneg (q : Issue) (rd ra _rb : BitVec 6) (s : State) : Host.Outcome State Fault Refusal :=
  chord q (workFneg rd ra _rb) s

/-- FMAC (R50): rd + a × b, fused. -/
def workFmac (rd ra rb : BitVec 6) : Work :=
  scaleFma 0x189 rd ra rb false

/-- FMAC (R50): its work issued. -/
def execFmac (q : Issue) (rd ra rb : BitVec 6) (s : State) : Host.Outcome State Fault Refusal :=
  chord q (workFmac rd ra rb) s

/-- FMSC (R50): rd − a × b, fused. -/
def workFmsc (rd ra rb : BitVec 6) : Work :=
  scaleFma 0x18A rd ra rb true

/-- FMSC (R50): its work issued. -/
def execFmsc (q : Issue) (rd ra rb : BitVec 6) (s : State) : Host.Outcome State Fault Refusal :=
  chord q (workFmsc rd ra rb) s

/-- FCVTWS (R50): a rounded to int32, sign-extended; rb is not used. -/
def workFcvtws (rd ra _rb : BitVec 6) : Work :=
  .plain 0x18B [ra] (fun _ c => fixOut rd (fToI32 (f32 (c.rg ra)) 0))

/-- FCVTWS (R50): its work issued. -/
def execFcvtws (q : Issue) (rd ra _rb : BitVec 6) (s : State) : Host.Outcome State Fault Refusal :=
  chord q (workFcvtws rd ra _rb) s

/-- FCVTSW (R50): ra[31:0] as int32 to binary32; rb is not used. -/
def workFcvtsw (rd ra _rb : BitVec 6) : Work :=
  .plain 0x18C [ra] (fun _ c => fltOut rd (fOfInt (q31 (c.rg ra)) 0) false)

/-- FCVTSW (R50): its work issued. -/
def execFcvtsw (q : Issue) (rd ra _rb : BitVec 6) (s : State) : Host.Outcome State Fault Refusal :=
  chord q (workFcvtsw rd ra _rb) s

/-- FCVTQS (R50): a × 2^31 rounded to Q31; rb is not used. -/
def workFcvtqs (rd ra _rb : BitVec 6) : Work :=
  .plain 0x18D [ra] (fun _ c => fixOut rd (fToI32 (f32 (c.rg ra)) 31))

/-- FCVTQS (R50): its work issued. -/
def execFcvtqs (q : Issue) (rd ra _rb : BitVec 6) (s : State) : Host.Outcome State Fault Refusal :=
  chord q (workFcvtqs rd ra _rb) s

/-- FCVTSQ (R50): ra[31:0] as Q31 to binary32; rb is not used. -/
def workFcvtsq (rd ra _rb : BitVec 6) : Work :=
  .plain 0x18E [ra] (fun _ c => fltOut rd (fOfInt (q31 (c.rg ra)) 31) false)

/-- FCVTSQ (R50): its work issued. -/
def execFcvtsq (q : Issue) (rd ra _rb : BitVec 6) (s : State) : Host.Outcome State Fault Refusal :=
  chord q (workFcvtsq rd ra _rb) s

/-- FCLASS (R50): one-hot class; no flag; rb is not used. -/
def workFclass (rd ra _rb : BitVec 6) : Work :=
  .plain 0x18F [ra] (fun _ c => .int rd (BitVec.ofNat 64 (fClass (f32 (c.rg ra)))) {})

/-- FCLASS (R50): its work issued. -/
def execFclass (q : Issue) (rd ra _rb : BitVec 6) (s : State) : Host.Outcome State Fault Refusal :=
  chord q (workFclass rd ra _rb) s

/-- FCMP (R51): pd := fcond(a, b). -/
def workFcmp (pd : BitVec 3) (cond : FCond) (ra rb : BitVec 6) : Work :=
  { unit := 0x190, regs := [ra, rb]
    body := fun r c =>
      let a := f32 (c.rg ra)
      let b := f32 (c.rg rb)
      .prd pd (fCmp cond a b).1 (fCmp cond a b).2 (fallback .cmp r a b 0)
    twin := .other (fun r c =>
      let a := f32 (c.rg ra)
      let b := f32 (c.rg rb)
      let fb := fallback .cmp r a b 0
      let x := fCmp cond (fOp fb a (rotShift r)) (fOp fb b (rotShift r))
      .prd pd x.1 x.2 fb) }

/-- FCMP (R51): its work issued. -/
def execFcmp (q : Issue) (pd : BitVec 3) (cond : FCond) (ra rb : BitVec 6) (s : State) : Host.Outcome State Fault Refusal :=
  chord q (workFcmp pd cond ra rb) s

end Sys2Proof.Machine
end

