-- ==== Sys2Proof/Machine/LoadStore.lean ====
section
/-!
DEFINITION. Loads and stores (R56, R57, R93, R331, R332): one work and one meaning per instruction over
`chord`. Addresses are generated in class AN (R110, R111).
-/
namespace Sys2Proof.Machine

/-- The code of an address: red(c_base + A × sext(off10) × size) (R111). -/
def anAddr (A base : Int) (off : BitVec 10) (size : Nat) : Int := red A (base + A * off.toInt * size)

/-- A load of `size` bytes (R56). -/
def loadWork (unit : Nat) (rd ra : BitVec 6) (off : BitVec 10) (size : Nat) (signed : Bool) : Work :=
  { unit := unit, regs := [ra], body := fun _ c => .load (effAddr c ra off size) size signed rd
    twin := .an (fun A x _ => .load (anAddr A (x ra) off size) size signed rd) }

/-- A store of the low `size` bytes of rs (R56); the T slice brings the decoded shadow as data (R115). -/
def storeWork (unit : Nat) (rs ra : BitVec 6) (off : BitVec 10) (size : Nat) : Work :=
  { unit := unit, regs := [ra, rs], body := fun _ c => .store (effAddr c ra off size) size (c.rg rs)
    twin := .an (fun A x v => .store (anAddr A (x ra) off size) size (v rs)) }

/-- LD (R41, R56): 64-bit load. -/
def workLd (rd ra : BitVec 6) (off : BitVec 10) : Work :=
  loadWork 0x280 rd ra off 8 false

/-- LD (R41, R56): its work issued. -/
def execLd (q : Issue) (rd ra : BitVec 6) (off : BitVec 10) (s : State) : Host.Outcome State Fault Refusal :=
  chord q (workLd rd ra off) s

/-- LW (R41, R56): 32-bit load, sign-extended. -/
def workLw (rd ra : BitVec 6) (off : BitVec 10) : Work :=
  loadWork 0x290 rd ra off 4 true

/-- LW (R41, R56): its work issued. -/
def execLw (q : Issue) (rd ra : BitVec 6) (off : BitVec 10) (s : State) : Host.Outcome State Fault Refusal :=
  chord q (workLw rd ra off) s

/-- LWU (R41, R56): 32-bit load, zero-extended. -/
def workLwu (rd ra : BitVec 6) (off : BitVec 10) : Work :=
  loadWork 0x2A0 rd ra off 4 false

/-- LWU (R41, R56): its work issued. -/
def execLwu (q : Issue) (rd ra : BitVec 6) (off : BitVec 10) (s : State) : Host.Outcome State Fault Refusal :=
  chord q (workLwu rd ra off) s

/-- LH (R41, R56): 16-bit load, sign-extended. -/
def workLh (rd ra : BitVec 6) (off : BitVec 10) : Work :=
  loadWork 0x2B0 rd ra off 2 true

/-- LH (R41, R56): its work issued. -/
def execLh (q : Issue) (rd ra : BitVec 6) (off : BitVec 10) (s : State) : Host.Outcome State Fault Refusal :=
  chord q (workLh rd ra off) s

/-- LHU (R41, R56): 16-bit load, zero-extended. -/
def workLhu (rd ra : BitVec 6) (off : BitVec 10) : Work :=
  loadWork 0x2C0 rd ra off 2 false

/-- LHU (R41, R56): its work issued. -/
def execLhu (q : Issue) (rd ra : BitVec 6) (off : BitVec 10) (s : State) : Host.Outcome State Fault Refusal :=
  chord q (workLhu rd ra off) s

/-- LB (R41, R56): 8-bit load, sign-extended. -/
def workLb (rd ra : BitVec 6) (off : BitVec 10) : Work :=
  loadWork 0x2D0 rd ra off 1 true

/-- LB (R41, R56): its work issued. -/
def execLb (q : Issue) (rd ra : BitVec 6) (off : BitVec 10) (s : State) : Host.Outcome State Fault Refusal :=
  chord q (workLb rd ra off) s

/-- LBU (R41, R56): 8-bit load, zero-extended. -/
def workLbu (rd ra : BitVec 6) (off : BitVec 10) : Work :=
  loadWork 0x2E0 rd ra off 1 false

/-- LBU (R41, R56): its work issued. -/
def execLbu (q : Issue) (rd ra : BitVec 6) (off : BitVec 10) (s : State) : Host.Outcome State Fault Refusal :=
  chord q (workLbu rd ra off) s

/-- SD (R41, R56): 64-bit store of rs. -/
def workSd (rs ra : BitVec 6) (off : BitVec 10) : Work :=
  storeWork 0x300 rs ra off 8

/-- SD (R41, R56): its work issued. -/
def execSd (q : Issue) (rs ra : BitVec 6) (off : BitVec 10) (s : State) : Host.Outcome State Fault Refusal :=
  chord q (workSd rs ra off) s

/-- SW (R41, R56): 32-bit store of rs[31:0]. -/
def workSw (rs ra : BitVec 6) (off : BitVec 10) : Work :=
  storeWork 0x310 rs ra off 4

/-- SW (R41, R56): its work issued. -/
def execSw (q : Issue) (rs ra : BitVec 6) (off : BitVec 10) (s : State) : Host.Outcome State Fault Refusal :=
  chord q (workSw rs ra off) s

/-- SH (R41, R56): 16-bit store of rs[15:0]. -/
def workSh (rs ra : BitVec 6) (off : BitVec 10) : Work :=
  storeWork 0x320 rs ra off 2

/-- SH (R41, R56): its work issued. -/
def execSh (q : Issue) (rs ra : BitVec 6) (off : BitVec 10) (s : State) : Host.Outcome State Fault Refusal :=
  chord q (workSh rs ra off) s

/-- SB (R41, R56): 8-bit store of rs[7:0]. -/
def workSb (rs ra : BitVec 6) (off : BitVec 10) : Work :=
  storeWork 0x330 rs ra off 1

/-- SB (R41, R56): its work issued. -/
def execSb (q : Issue) (rs ra : BitVec 6) (off : BitVec 10) (s : State) : Host.Outcome State Fault Refusal :=
  chord q (workSb rs ra off) s

end Sys2Proof.Machine
end

