-- ==== Sys2Proof/Machine/Motor.lean ====
section
/-!
DEFINITION. Motor primitives (R53 to R55, R483): one work and one meaning per instruction over
`chord`.
-/
namespace Sys2Proof.Machine

/-- A packed result with its flags. -/
def pairOut (rd : BitVec 6) (r : Dword × Flags) : Out := .int rd r.1 r.2

/-- ATAN2's packed result. -/
def atanOut (rd : BitVec 6) (r : Int × Int × Bool) : Out := .int rd (pack r.1 r.2.1) (satFlag r.2.2)

/-- SINCOS with the angle advanced by one quarter turn, (−sin θ, cos θ) mapped back on the folded quadrant (R110): on an axis the
exact results of R54 map to one another. -/
def quarterTurn (th : BitVec 32) : Int × Int :=
  let r := sincos (th + 0x40000000#32)
  (r.2, if th.toNat % 2 ^ 30 = 0 then (if r.1 = 2147483647 then -2147483648 else if r.1 = 0 then 0 else 2147483647) else -r.1)

/-- SINCOS (R53, R483): cos θ in [31:0], sin θ in [63:32]; no flag. -/
def workSincos (rd ra : BitVec 6) : Work :=
  otherR 0x200 rd ra (fun a => pack (sincos (a.truncate 32)).1 (sincos (a.truncate 32)).2)
    (fun a => pack (quarterTurn (a.truncate 32)).1 (quarterTurn (a.truncate 32)).2)

/-- SINCOS (R53, R483): its work issued. -/
def execSincos (q : Issue) (rd ra : BitVec 6) (s : State) : Host.Outcome State Fault Refusal :=
  chord q (workSincos rd ra) s

/-- ATAN2 (R53, R483): angle in [31:0], magnitude in [63:32]; SAT when the magnitude is clamped. -/
def workAtan2 (rd ra rb : BitVec 6) : Work :=
  plainRR 0x201 rd ra rb (fun a b => atanOut rd (atan2 (q31 a) (q31 b)))

/-- ATAN2 (R53, R483): its work issued. -/
def execAtan2 (q : Issue) (rd ra rb : BitVec 6) (s : State) : Host.Outcome State Fault Refusal :=
  chord q (workAtan2 rd ra rb) s

/-- CLARKE (R53): α and β from two phase currents. -/
def workClarke (rd ra rb : BitVec 6) : Work :=
  plainRR 0x202 rd ra rb (fun a b => pairOut rd (clarke (q31 a) (q31 b)))

/-- CLARKE (R53): its work issued. -/
def execClarke (q : Issue) (rd ra rb : BitVec 6) (s : State) : Host.Outcome State Fault Refusal :=
  chord q (workClarke rd ra rb) s

/-- PARK (R53): ra holds (α, β), rb holds (cos θ, sin θ). -/
def workPark (rd ra rb : BitVec 6) : Work :=
  plainRR 0x203 rd ra rb (fun a b => pairOut rd (park (q31 a) (q31hi a) (q31 b) (q31hi b)))

/-- PARK (R53): its work issued. -/
def execPark (q : Issue) (rd ra rb : BitVec 6) (s : State) : Host.Outcome State Fault Refusal :=
  chord q (workPark rd ra rb) s

/-- IPARK (R53): ra holds (d, q), rb holds (cos θ, sin θ). -/
def workIpark (rd ra rb : BitVec 6) : Work :=
  plainRR 0x204 rd ra rb (fun a b => pairOut rd (ipark (q31 a) (q31hi a) (q31 b) (q31hi b)))

/-- IPARK (R53): its work issued. -/
def execIpark (q : Issue) (rd ra rb : BitVec 6) (s : State) : Host.Outcome State Fault Refusal :=
  chord q (workIpark rd ra rb) s

/-- SVM (R53, R55): three duties and the sector. -/
def workSvm (rd ra : BitVec 6) : Work :=
  .plain 0x205 [ra] (fun _ c => pairOut rd (svm (q31 (c.rg ra)) (q31hi (c.rg ra))))

/-- SVM (R53, R55): its work issued. -/
def execSvm (q : Issue) (rd ra : BitVec 6) (s : State) : Host.Outcome State Fault Refusal :=
  chord q (workSvm rd ra) s

end Sys2Proof.Machine
end

