-- ==== Sys2Proof/Machine/Scrub.lean ====
section
/-!
DEFINITION. The scrubber, the end of a repair copy, and held grants (R334 to R337, R345, R346, R348).
-/
namespace Sys2Proof.Machine

/-! ### Scrubbing (R334, R335) -/

/-- Words of a bank group (R330). -/
def groupWords : Nat := 65536

/-- Completed passes: every group has had all its words (R334). -/
def MemSt.passes (x : MemSt) : Nat :=
  (List.range 8).foldl (fun a g => min a (Sparse.get 0 x.paced g / groupWords)) (Sparse.get 0 x.paced 0 / groupWords)

/-- The word that the next pacing slot of a group reads: a scheduled one first, else the next in address order (R334,
R335). -/
def MemSt.slotWord (x : MemSt) (g : Nat) : Nat :=
  (x.due.find? (fun w => groupOf w == g)).getD (g * groupWords + Sparse.get 0 x.paced g % groupWords)

/-- The slot is taken: a scheduled word leaves the list, else the pass goes on; a completed pass counts (R334, R335). -/
def Lane.slotTaken (l : Lane) (g : Nat) : Lane :=
  match l.mem.due.find? (fun w => groupOf w == g) with
  | some w => { l with mem := { l.mem with due := l.mem.due.erase w } }
  | none =>
    let mem := { l.mem with paced := Sparse.upd 0 l.mem.paced g (· + 1) }
    let l' := { l with mem := mem }
    if l.mem.passes < mem.passes then l'.inc Reg.MEM_SCRUB_CNT.PASSES else l'

/-- A locked sequence holds the group (R343, R344). -/
def Lane.groupHeld (l : Lane) (g : Nat) : Bool := l.eng.h0.locks.contains g || l.eng.h1.locks.contains g

/-- SCRUB_READ (R332 to R336): the pacing slot of a group reads its word, whose code the array gives as `e`; a corrected
word is written back, one that does not decode starts a repair, a poisoned one stays. While a locked sequence holds the
group the scrubber waits. -/
def execScrubRead (tm : Nat) (l : LaneId) (g : Nat) (e : Ecc) (s : State) : Host.Outcome State Fault Refusal :=
  s.actM tm (fun _ m d =>
    let x := d.lane l
    if x.powered && decide (g < 8) && !x.groupHeld g then
      let w := x.mem.slotWord g
      let r := Dev.readWord m (d.modLane l (fun x => (x.slotTaken g).beats 8 1)) l 8 w e
      match Sparse.look (r.1.lane l).cond w with
      | some (.corr _) =>
        (r.1.setLane l { (r.1.lane l) with cond := Sparse.del (r.1.lane l).cond w },
          r.2.1.modLane l (fun x => { x with mem := { x.mem with due := x.mem.due.erase w } }.beats 8 1))
      | _ => (r.1, r.2.1)
    else (m, d))

/-! ### Repair copies (R337) -/

/-- A word lies in the element that a repair replaces. -/
def RepairJob.holds (j : RepairJob) (w : Nat) : Bool :=
  bankOf w == j.bank && (j.kind != 2 || rowOf w == j.elem % 128)

/-- A corrected error of the window lies in the element that a repair replaces (R333). -/
def RepairJob.covers (j : RepairJob) (w b : Nat) : Bool := j.holds w && (j.kind != 1 || b == j.elem % 128)

/-- Words that a copy moves (R330, R336). -/
def RepairJob.words (j : RepairJob) : Nat := if j.kind = 2 then 64 else 8192

/-- What is wrong with a word after its copy: a word that decoded uncorrectable holds the poison code, a corrected one a
fresh code (R337). -/
def copiedCond : WordCond → Option WordCond
  | .corr _ => none
  | .uncorr => some .poison
  | .addr => some .poison
  | .poison => some .poison

/-- Chord SRAM after the element of a repair has switched to its spare (R337). -/
def LaneMem.copied (m : LaneMem) (j : RepairJob) : LaneMem :=
  { m with cond := m.cond.filterMap (fun (e : Nat × WordCond) =>
      if j.holds e.1 then (copiedCond e.2).map (fun c => (e.1, c)) else some e) }

/-- The lane's repair state after the element has switched: the mapping, the window without the retired element, the copy's
beats, and the copy of its group that starts now (R330, R333, R337). -/
def Lane.copied (l : Lane) (j : RepairJob) : Lane :=
  let mem := { l.mem with jobs := l.mem.jobs.erase j
                          recent := l.mem.recent.filter (fun e => !j.covers e.2.1 e.2.2)
                          cols := if j.kind = 1 then l.mem.cols ++ [j.elem] else l.mem.cols
                          rows := if j.kind = 2 then l.mem.rows ++ [j.elem] else l.mem.rows }
  let l := { l with mem := mem }
  let l := if j.kind = 3 then l.wr (Reg.MEM_BANK_STAT.PHYS j.bank) j.phys else l
  let l := match mem.jobs.find? (fun o => o.bank / 8 == j.bank / 8) with
    | some o => l.wr Reg.MEM_STAT.COPY_BANK o.bank
    | none => l
  (l.wr Reg.MEM_STAT.COPY (bit (!mem.jobs.isEmpty))).beats 8 (2 * j.words)

/-- REPAIR_COPY_DONE (R337): the copy that runs in a bank group ends, its element switches to the spare, and
MEM_COPY_DONE is raised. -/
def execRepairCopyDone (tm : Nat) (l : LaneId) (g : Nat) (s : State) : Host.Outcome State Fault Refusal :=
  s.actM tm (fun _ m d =>
    match (d.lane l).mem.jobs.find? (fun j => j.bank / 8 == g) with
    | some j =>
      if (d.lane l).powered then
        (m.setLane l ((m.lane l).copied j), (d.modLane l (·.copied j)).raise l 102 sevDiag j.bank)
      else (m, d)
    | none => (m, d))

/-! ### Held grants (R348) -/

/-- The half-engine's grant of a group has been held for more than 2 µs. -/
def Half.overheld (h : Half) (g now : Nat) : Bool := h.locks.contains g && decide (Sparse.get now h.lockAt g + 200 < now)

/-- The arbiter ends the half-engine's grant of a group: its next access there ends with LOCK_ORDER. -/
def Half.endGrant (h : Half) (g : Nat) : Half := { h with locks := h.locks.erase g, ended := h.ended ++ [g] }

/-- ARB_HOLD_TIMEOUT (R348): a grant held for more than 2 µs is ended by the arbiter. -/
def execArbHoldTimeout (tm : Nat) (l : LaneId) (g : Nat) (s : State) : Host.Outcome State Fault Refusal :=
  s.act tm (fun _ d =>
    let x := d.lane l
    let now := (d.laneTime l).1
    let o0 := x.eng.h0.overheld g now
    let o1 := x.eng.h1.overheld g now
    if x.powered && (o0 || o1) then
      let d := d.modLane l (fun x =>
        { x with eng := { x.eng with h0 := if o0 then x.eng.h0.endGrant g else x.eng.h0
                                     h1 := if o1 then x.eng.h1.endGrant g else x.eng.h1 } })
      (d.modLane l (fun x => (x.inc Reg.ARB_LOCKERR.HOLD_TMO).wr Reg.ARB_LOCKERR.LAST_SRC 1)).raise l 104 sevFault (1 + 16 * g)
    else d)

end Sys2Proof.Machine
end

