-- ==== Sys2Proof/Machine/Dispatch.lean ====
section
/-!
DEFINITION. The dispatcher: one arm per command of the operation table, each one direct call of its meaning.
-/
namespace Sys2Proof.Machine

def exec (i : Instr) (s : State) : Host.Outcome State Fault Refusal :=
  match i with
  | .addi q rd ra imm => Sys2Proof.Machine.execAddi q rd ra imm s
  | .andi q rd ra imm => Sys2Proof.Machine.execAndi q rd ra imm s
  | .ori q rd ra imm => Sys2Proof.Machine.execOri q rd ra imm s
  | .xori q rd ra imm => Sys2Proof.Machine.execXori q rd ra imm s
  | .slli q rd ra sh => Sys2Proof.Machine.execSlli q rd ra sh s
  | .srli q rd ra sh => Sys2Proof.Machine.execSrli q rd ra sh s
  | .srai q rd ra sh => Sys2Proof.Machine.execSrai q rd ra sh s
  | .muli q rd ra imm => Sys2Proof.Machine.execMuli q rd ra imm s
  | .movz q rd hw imm => Sys2Proof.Machine.execMovz q rd hw imm s
  | .movk q rd hw imm => Sys2Proof.Machine.execMovk q rd hw imm s
  | .add q rd ra rb => Sys2Proof.Machine.execAdd q rd ra rb s
  | .sub q rd ra rb => Sys2Proof.Machine.execSub q rd ra rb s
  | .and q rd ra rb => Sys2Proof.Machine.execAnd q rd ra rb s
  | .or q rd ra rb => Sys2Proof.Machine.execOr q rd ra rb s
  | .xor q rd ra rb => Sys2Proof.Machine.execXor q rd ra rb s
  | .andn q rd ra rb => Sys2Proof.Machine.execAndn q rd ra rb s
  | .sll q rd ra rb => Sys2Proof.Machine.execSll q rd ra rb s
  | .srl q rd ra rb => Sys2Proof.Machine.execSrl q rd ra rb s
  | .sra q rd ra rb => Sys2Proof.Machine.execSra q rd ra rb s
  | .mul q rd ra rb => Sys2Proof.Machine.execMul q rd ra rb s
  | .mulhs q rd ra rb => Sys2Proof.Machine.execMulhs q rd ra rb s
  | .mulhu q rd ra rb => Sys2Proof.Machine.execMulhu q rd ra rb s
  | .min q rd ra rb => Sys2Proof.Machine.execMin q rd ra rb s
  | .max q rd ra rb => Sys2Proof.Machine.execMax q rd ra rb s
  | .minu q rd ra rb => Sys2Proof.Machine.execMinu q rd ra rb s
  | .maxu q rd ra rb => Sys2Proof.Machine.execMaxu q rd ra rb s
  | .div q rd ra rb => Sys2Proof.Machine.execDiv q rd ra rb s
  | .divu q rd ra rb => Sys2Proof.Machine.execDivu q rd ra rb s
  | .rem q rd ra rb => Sys2Proof.Machine.execRem q rd ra rb s
  | .remu q rd ra rb => Sys2Proof.Machine.execRemu q rd ra rb s
  | .abs q rd ra => Sys2Proof.Machine.execAbs q rd ra s
  | .neg q rd ra => Sys2Proof.Machine.execNeg q rd ra s
  | .clz q rd ra => Sys2Proof.Machine.execClz q rd ra s
  | .popc q rd ra => Sys2Proof.Machine.execPopc q rd ra s
  | .sextw q rd ra => Sys2Proof.Machine.execSextw q rd ra s
  | .zextw q rd ra => Sys2Proof.Machine.execZextw q rd ra s
  | .satw q rd ra => Sys2Proof.Machine.execSatw q rd ra s
  | .sath q rd ra => Sys2Proof.Machine.execSath q rd ra s
  | .cmp q pd c ra rb => Sys2Proof.Machine.execCmp q pd c ra rb s
  | .cmpi q pd c ra imm => Sys2Proof.Machine.execCmpi q pd c ra imm s
  | .plog q pd f pa pb => Sys2Proof.Machine.execPlog q pd f pa pb s
  | .qadd q rd ra rb => Sys2Proof.Machine.execQadd q rd ra rb s
  | .qsub q rd ra rb => Sys2Proof.Machine.execQsub q rd ra rb s
  | .qmul15 q rd ra rb => Sys2Proof.Machine.execQmul15 q rd ra rb s
  | .qmul31 q rd ra rb => Sys2Proof.Machine.execQmul31 q rd ra rb s
  | .qmac31 q rd ra rb => Sys2Proof.Machine.execQmac31 q rd ra rb s
  | .qmsu31 q rd ra rb => Sys2Proof.Machine.execQmsu31 q rd ra rb s
  | .qabs q rd ra rb => Sys2Proof.Machine.execQabs q rd ra rb s
  | .qneg q rd ra rb => Sys2Proof.Machine.execQneg q rd ra rb s
  | .qshl q rd ra rb => Sys2Proof.Machine.execQshl q rd ra rb s
  | .qrsr q rd ra rb => Sys2Proof.Machine.execQrsr q rd ra rb s
  | .qlim q rd ra rb => Sys2Proof.Machine.execQlim q rd ra rb s
  | .fadd q rd ra rb => Sys2Proof.Machine.execFadd q rd ra rb s
  | .fsub q rd ra rb => Sys2Proof.Machine.execFsub q rd ra rb s
  | .fmul q rd ra rb => Sys2Proof.Machine.execFmul q rd ra rb s
  | .fdiv q rd ra rb => Sys2Proof.Machine.execFdiv q rd ra rb s
  | .fsqrt q rd ra => Sys2Proof.Machine.execFsqrt q rd ra s
  | .fmin q rd ra rb => Sys2Proof.Machine.execFmin q rd ra rb s
  | .fmax q rd ra rb => Sys2Proof.Machine.execFmax q rd ra rb s
  | .fabs q rd ra rb => Sys2Proof.Machine.execFabs q rd ra rb s
  | .fneg q rd ra rb => Sys2Proof.Machine.execFneg q rd ra rb s
  | .fmac q rd ra rb => Sys2Proof.Machine.execFmac q rd ra rb s
  | .fmsc q rd ra rb => Sys2Proof.Machine.execFmsc q rd ra rb s
  | .fcvtws q rd ra rb => Sys2Proof.Machine.execFcvtws q rd ra rb s
  | .fcvtsw q rd ra rb => Sys2Proof.Machine.execFcvtsw q rd ra rb s
  | .fcvtqs q rd ra rb => Sys2Proof.Machine.execFcvtqs q rd ra rb s
  | .fcvtsq q rd ra rb => Sys2Proof.Machine.execFcvtsq q rd ra rb s
  | .fclass q rd ra rb => Sys2Proof.Machine.execFclass q rd ra rb s
  | .fcmp q pd c ra rb => Sys2Proof.Machine.execFcmp q pd c ra rb s
  | .sincos q rd ra => Sys2Proof.Machine.execSincos q rd ra s
  | .atan2 q rd ra rb => Sys2Proof.Machine.execAtan2 q rd ra rb s
  | .clarke q rd ra rb => Sys2Proof.Machine.execClarke q rd ra rb s
  | .park q rd ra rb => Sys2Proof.Machine.execPark q rd ra rb s
  | .ipark q rd ra rb => Sys2Proof.Machine.execIpark q rd ra rb s
  | .svm q rd ra => Sys2Proof.Machine.execSvm q rd ra s
  | .ld q rd ra off => Sys2Proof.Machine.execLd q rd ra off s
  | .lw q rd ra off => Sys2Proof.Machine.execLw q rd ra off s
  | .lwu q rd ra off => Sys2Proof.Machine.execLwu q rd ra off s
  | .lh q rd ra off => Sys2Proof.Machine.execLh q rd ra off s
  | .lhu q rd ra off => Sys2Proof.Machine.execLhu q rd ra off s
  | .lb q rd ra off => Sys2Proof.Machine.execLb q rd ra off s
  | .lbu q rd ra off => Sys2Proof.Machine.execLbu q rd ra off s
  | .sd q rs ra off => Sys2Proof.Machine.execSd q rs ra off s
  | .sw q rs ra off => Sys2Proof.Machine.execSw q rs ra off s
  | .sh q rs ra off => Sys2Proof.Machine.execSh q rs ra off s
  | .sb q rs ra off => Sys2Proof.Machine.execSb q rs ra off s
  | .br q off => Sys2Proof.Machine.execBr q off s
  | .call q off => Sys2Proof.Machine.execCall q off s
  | .jr q ra => Sys2Proof.Machine.execJr q ra s
  | .seal q tm => Sys2Proof.Machine.execSeal q tm s
  | .lkb q g => Sys2Proof.Machine.execLkb q g s
  | .lke q => Sys2Proof.Machine.execLke q s
  | .trap q code => Sys2Proof.Machine.execTrap q code s
  | .illegalEncoding q word => Sys2Proof.Machine.execIllegalEncoding q word s
  | .periodicInjection tm l pass => Sys2Proof.Machine.execPeriodicInjection tm l pass s
  | .activation tm c b => Sys2Proof.Machine.execActivation tm c b s
  | .sampleBlockStored tm c b => Sys2Proof.Machine.execSampleBlockStored tm c b s
  | .release tm l => Sys2Proof.Machine.execRelease tm l s
  | .overrun tm l task => Sys2Proof.Machine.execOverrun tm l task s
  | .candidateStaged tm l k => Sys2Proof.Machine.execCandidateStaged tm l k s
  | .stagingDeadline tm l => Sys2Proof.Machine.execStagingDeadline tm l s
  | .depthReevaluation tm l => Sys2Proof.Machine.execDepthReevaluation tm l s
  | .setpointFrame tm c f => Sys2Proof.Machine.execSetpointFrame tm c f s
  | .setpointMiss tm c => Sys2Proof.Machine.execSetpointMiss tm c s
  | .pwmCentre tm c b o => Sys2Proof.Machine.execPwmCentre tm c b o s
  | .pwmReload tm c b => Sys2Proof.Machine.execPwmReload tm c b s
  | .desat tm c b x => Sys2Proof.Machine.execDesat tm c b x s
  | .hwOc tm c b fast => Sys2Proof.Machine.execHwOc tm c b fast s
  | .currentLimit tm c b fast => Sys2Proof.Machine.execCurrentLimit tm c b fast s
  | .latchedFaultClear tm c b => Sys2Proof.Machine.execLatchedFaultClear tm c b s
  | .drvFaultClear tm c b desat hwoc => Sys2Proof.Machine.execDrvFaultClear tm c b desat hwoc s
  | .vdrvUndervoltage tm c => Sys2Proof.Machine.execVdrvUndervoltage tm c s
  | .vbrOutOfLimits tm c b above => Sys2Proof.Machine.execVbrOutOfLimits tm c b above s
  | .gateTimeout tm c b drv => Sys2Proof.Machine.execGateTimeout tm c b drv s
  | .holdExpiry tm c => Sys2Proof.Machine.execHoldExpiry tm c s
  | .switchOpen tm c => Sys2Proof.Machine.execSwitchOpen tm c s
  | .switchSpare tm c => Sys2Proof.Machine.execSwitchSpare tm c s
  | .joinEnd tm c b => Sys2Proof.Machine.execJoinEnd tm c b s
  | .switchHandshakeResume tm c => Sys2Proof.Machine.execSwitchHandshakeResume tm c s
  | .modulatorFail tm c m => Sys2Proof.Machine.execModulatorFail tm c m s
  | .spareSettled tm c sp => Sys2Proof.Machine.execSpareSettled tm c sp s
  | .sumCheckFail tm c b sp => Sys2Proof.Machine.execSumCheckFail tm c b sp s
  | .spareShadowRotate tm c sp ch => Sys2Proof.Machine.execSpareShadowRotate tm c sp ch s
  | .tempDisagree tm c t0 t1 => Sys2Proof.Machine.execTempDisagree tm c t0 t1 s
  | .bridgeSensorOpen tm c sensor => Sys2Proof.Machine.execBridgeSensorOpen tm c sensor s
  | .sentMessage tm c n m => Sys2Proof.Machine.execSentMessage tm c n m s
  | .sentStale tm c n => Sys2Proof.Machine.execSentStale tm c n s
  | .signalWarning tm c k => Sys2Proof.Machine.execSignalWarning tm c k s
  | .trackCheckStart tm c k => Sys2Proof.Machine.execTrackCheckStart tm c k s
  | .trackCheckEnd tm c k b => Sys2Proof.Machine.execTrackCheckEnd tm c k b s
  | .converterShadowStep tm c k => Sys2Proof.Machine.execConverterShadowStep tm c k s
  | .abzEdge tm c diff x => Sys2Proof.Machine.execAbzEdge tm c diff x s
  | .indexEdge tm x => Sys2Proof.Machine.execIndexEdge tm x s
  | .indexMissing tm c b => Sys2Proof.Machine.execIndexMissing tm c b s
  | .probeEdge tm c p rising x => Sys2Proof.Machine.execProbeEdge tm c p rising x s
  | .speedWindowEnd tm c b => Sys2Proof.Machine.execSpeedWindowEnd tm c b s
  | .plausibilityFail tm c b => Sys2Proof.Machine.execPlausibilityFail tm c b s
  | .sioTick tm c closedA closedB => Sys2Proof.Machine.execSioTick tm c closedA closedB s
  | .pullInEnd tm c j => Sys2Proof.Machine.execPullInEnd tm c j s
  | .darkTestStart tm c j => Sys2Proof.Machine.execDarkTestStart tm c j s
  | .darkTestEnd tm c j pass => Sys2Proof.Machine.execDarkTestEnd tm c j pass s
  | .sbcOvercurrent tm c j cur => Sys2Proof.Machine.execSbcOvercurrent tm c j cur s
  | .sbcFaultDetect tm c j kind cur => Sys2Proof.Machine.execSbcFaultDetect tm c j kind cur s
  | .sbcSupplyLoss tm c low => Sys2Proof.Machine.execSbcSupplyLoss tm c low s
  | .cycleStart tm c => Sys2Proof.Machine.execCycleStart tm c s
  | .txSlot tm c slot items => Sys2Proof.Machine.execTxSlot tm c slot items s
  | .ttDataReceive tm c f ptrBad => Sys2Proof.Machine.execTtDataReceive tm c f ptrBad s
  | .ttNullReceive tm c f => Sys2Proof.Machine.execTtNullReceive tm c f s
  | .syncReceive tm c f => Sys2Proof.Machine.execSyncReceive tm c f s
  | .coldstartReceive tm c f => Sys2Proof.Machine.execColdstartReceive tm c f s
  | .slewEnd tm c => Sys2Proof.Machine.execSlewEnd tm c s
  | .claimReceive tm c f => Sys2Proof.Machine.execClaimReceive tm c f s
  | .syncCorrection tm c => Sys2Proof.Machine.execSyncCorrection tm c s
  | .etSegmentStart tm c => Sys2Proof.Machine.execEtSegmentStart tm c s
  | .listenTimeout tm c => Sys2Proof.Machine.execListenTimeout tm c s
  | .corruptedReception tm c netY fcsErr => Sys2Proof.Machine.execCorruptedReception tm c netY fcsErr s
  | .backoffEnd tm c => Sys2Proof.Machine.execBackoffEnd tm c s
  | .coldstartHoldoffEnd tm c => Sys2Proof.Machine.execColdstartHoldoffEnd tm c s
  | .membershipDecision tm c => Sys2Proof.Machine.execMembershipDecision tm c s
  | .claimBackoffEnd tm c k => Sys2Proof.Machine.execClaimBackoffEnd tm c k s
  | .phyLinkChange tm c netY up => Sys2Proof.Machine.execPhyLinkChange tm c netY up s
  | .heartbeatSend tm l => Sys2Proof.Machine.execHeartbeatSend tm l s
  | .heartbeatReceive tm rx h crcOk => Sys2Proof.Machine.execHeartbeatReceive tm rx h crcOk s
  | .beaconSend tm => Sys2Proof.Machine.execBeaconSend tm s
  | .beaconReceive tm l pathY w crcOk => Sys2Proof.Machine.execBeaconReceive tm l pathY w crcOk s
  | .statusWordReceive tm l w crcOk => Sys2Proof.Machine.execStatusWordReceive tm l w crcOk s
  | .companionReport tm c kind => Sys2Proof.Machine.execCompanionReport tm c kind s
  | .pathFail tm l w => Sys2Proof.Machine.execPathFail tm l w s
  | .pathRecover tm l w => Sys2Proof.Machine.execPathRecover tm l w s
  | .laneSilent tm l => Sys2Proof.Machine.execLaneSilent tm l s
  | .voteEvaluate tm key => Sys2Proof.Machine.execVoteEvaluate tm key s
  | .witnesslessEntry tm l => Sys2Proof.Machine.execWitnesslessEntry tm l s
  | .unlinkedEntry tm l peer => Sys2Proof.Machine.execUnlinkedEntry tm l peer s
  | .suspectTimeout tm l => Sys2Proof.Machine.execSuspectTimeout tm l s
  | .journalRecordReceive tm l r => Sys2Proof.Machine.execJournalRecordReceive tm l r s
  | .laneDSupplyGood x => Sys2Proof.Machine.execLaneDSupplyGood x s
  | .imageLoaded tm ok img => Sys2Proof.Machine.execImageLoaded tm ok img s
  | .stateCopyReceive tm part crcOk => Sys2Proof.Machine.execStateCopyReceive tm part crcOk s
  | .bringInDeadline tm step => Sys2Proof.Machine.execBringInDeadline tm step s
  | .proofWakeEnd tm failStep aborted => Sys2Proof.Machine.execProofWakeEnd tm failStep aborted s
  | .rcaPoll tm l => Sys2Proof.Machine.execRcaPoll tm l s
  | .rwpReadRsp tm c f => Sys2Proof.Machine.execRwpReadRsp tm c f s
  | .ringGenRewrite tm l r => Sys2Proof.Machine.execRingGenRewrite tm l r s
  | .rwpWriteAck tm c f => Sys2Proof.Machine.execRwpWriteAck tm c f s
  | .rwpErrorRsp tm c f => Sys2Proof.Machine.execRwpErrorRsp tm c f s
  | .rwpResend tm l => Sys2Proof.Machine.execRwpResend tm l s
  | .hostLost tm l => Sys2Proof.Machine.execHostLost tm l s
  | .wakeDbReceive tm c f => Sys2Proof.Machine.execWakeDbReceive tm c f s
  | .nop tm l => Sys2Proof.Machine.execNop tm l s
  | .appDrive tm l => Sys2Proof.Machine.execAppDrive tm l s
  | .appSafe tm l => Sys2Proof.Machine.execAppSafe tm l s
  | .appConfig tm l => Sys2Proof.Machine.execAppConfig tm l s
  | .readRegs tm l => Sys2Proof.Machine.execReadRegs tm l s
  | .clearCapsule tm l => Sys2Proof.Machine.execClearCapsule tm l s
  | .flushRing tm l => Sys2Proof.Machine.execFlushRing tm l s
  | .powerReq tm l => Sys2Proof.Machine.execPowerReq tm l s
  | .appForwardReceive tm l => Sys2Proof.Machine.execAppForwardReceive tm l s
  | .appApply tm l => Sys2Proof.Machine.execAppApply tm l s
  | .appTimeout tm l => Sys2Proof.Machine.execAppTimeout tm l s
  | .scrubRead tm l g e => Sys2Proof.Machine.execScrubRead tm l g e s
  | .repairCopyDone tm l g => Sys2Proof.Machine.execRepairCopyDone tm l g s
  | .arbHoldTimeout tm l g => Sys2Proof.Machine.execArbHoldTimeout tm l g s
  | .fqIdleTimeout tm c n => Sys2Proof.Machine.execFqIdleTimeout tm c n s
  | .fqFlush tm l w => Sys2Proof.Machine.execFqFlush tm l w s
  | .fqFlushTakeEffect tm c n => Sys2Proof.Machine.execFqFlushTakeEffect tm c n s
  | .fqGapMarkerWrite tm c n => Sys2Proof.Machine.execFqGapMarkerWrite tm c n s
  | .fqRxDeliver tm c n ptrBad => Sys2Proof.Machine.execFqRxDeliver tm c n ptrBad s
  | .powerVoteRequest tm l => Sys2Proof.Machine.execPowerVoteRequest tm l s
  | .powerVoteAnswer tm v => Sys2Proof.Machine.execPowerVoteAnswer tm v s
  | .powerVoteTimeout tm => Sys2Proof.Machine.execPowerVoteTimeout tm s
  | .retentionEdgeEntry tm => Sys2Proof.Machine.execRetentionEdgeEntry tm s
  | .wakeTelegramEnd tm bits => Sys2Proof.Machine.execWakeTelegramEnd tm bits s
  | .timebaseLock tm c => Sys2Proof.Machine.execTimebaseLock tm c s
  | .retentionEdgeWake tm => Sys2Proof.Machine.execRetentionEdgeWake tm s
  | .padRelease tm l n => Sys2Proof.Machine.execPadRelease tm l n s
  | .crystalFail tm c => Sys2Proof.Machine.execCrystalFail tm c s
  | .retentionOscFail tm => Sys2Proof.Machine.execRetentionOscFail tm s
  | .witnessPowerOn tm => Sys2Proof.Machine.execWitnessPowerOn tm s
  | .supplyGood tm l fuseOk => Sys2Proof.Machine.execSupplyGood tm l fuseOk s
  | .bootComplete tm l o => Sys2Proof.Machine.execBootComplete tm l o s
  | .setupLock tm l => Sys2Proof.Machine.execSetupLock tm l s
  | .vaultImageWriteDone tm => Sys2Proof.Machine.execVaultImageWriteDone tm s
  | .calibComplete tm l r => Sys2Proof.Machine.execCalibComplete tm l r s
  | .companionCalibCommand tm c r => Sys2Proof.Machine.execCompanionCalibCommand tm c r s
  | .memoryBistComplete tm l faults => Sys2Proof.Machine.execMemoryBistComplete tm l faults s
  | .memoryInitComplete tm l => Sys2Proof.Machine.execMemoryInitComplete tm l s
  | .logicBistSlotGrant tm => Sys2Proof.Machine.execLogicBistSlotGrant tm s
  | .logicBistComplete tm l x meas => Sys2Proof.Machine.execLogicBistComplete tm l x meas s
  | .injectionTestComplete tm l pass bitNo hupOk => Sys2Proof.Machine.execInjectionTestComplete tm l pass bitNo hupOk s
  | .startDeadline tm l => Sys2Proof.Machine.execStartDeadline tm l s
  | .hupChargeCheck tm l hupOk => Sys2Proof.Machine.execHupChargeCheck tm l hupOk s
  | .hupLow tm l => Sys2Proof.Machine.execHupLow tm l s
  | .startDecision tm => Sys2Proof.Machine.execStartDecision tm s
  | .deviceReady tm => Sys2Proof.Machine.execDeviceReady tm s
  | .firstActiveEntry tm => Sys2Proof.Machine.execFirstActiveEntry tm s
  | .startCntClear tm l => Sys2Proof.Machine.execStartCntClear tm l s
  | .supplyLoss tm l back => Sys2Proof.Machine.execSupplyLoss tm l back s
  | .companionSupplyLoss tm c => Sys2Proof.Machine.execCompanionSupplyLoss tm c s
  | .witnessSupplyLoss tm => Sys2Proof.Machine.execWitnessSupplyLoss tm s
  | .laneOvertemp tm l => Sys2Proof.Machine.execLaneOvertemp tm l s
  | .companionOvertemp tm c => Sys2Proof.Machine.execCompanionOvertemp tm c s
  | .coalesceWindowEnd tm l => Sys2Proof.Machine.execCoalesceWindowEnd tm l s
  | .tokenRefill tm l => Sys2Proof.Machine.execTokenRefill tm l s
  | .postWindowEnd tm l => Sys2Proof.Machine.execPostWindowEnd tm l s
  | .capsuleCommitDone tm l => Sys2Proof.Machine.execCapsuleCommitDone tm l s
  | .journalPageWrite tm l bad => Sys2Proof.Machine.execJournalPageWrite tm l bad s
  | .summaryAck tm l k => Sys2Proof.Machine.execSummaryAck tm l k s
  | .clearCapsuleForward tm l => Sys2Proof.Machine.execClearCapsuleForward tm l s
  | .refreshStep tm l x bad => Sys2Proof.Machine.execRefreshStep tm l x bad s
  | .wearRecordWrite tm l bad => Sys2Proof.Machine.execWearRecordWrite tm l bad s
  | .serviceClockHour tm l => Sys2Proof.Machine.execServiceClockHour tm l s
  | .xlkWireFail tm l link => Sys2Proof.Machine.execXlkWireFail tm l link s
  | .certSubmit tm l => Sys2Proof.Machine.execCertSubmit tm l s
  | .certVerifyDone tm l sigOk => Sys2Proof.Machine.execCertVerifyDone tm l sigOk s
  | .rotProgram tm l w => Sys2Proof.Machine.execRotProgram tm l w s
  | .imgDataWrite tm l w => Sys2Proof.Machine.execImgDataWrite tm l w s
  | .dbgReq tm l => Sys2Proof.Machine.execDbgReq tm l s
  | .dbgSubmit tm l sigOk => Sys2Proof.Machine.execDbgSubmit tm l sigOk s
  | .dbgEnd tm l => Sys2Proof.Machine.execDbgEnd tm l s
  | .dbgSessionTimeout tm l => Sys2Proof.Machine.execDbgSessionTimeout tm l s
  | .keyWrite tm l w => Sys2Proof.Machine.execKeyWrite tm l w s
  | .keyErase tm l w => Sys2Proof.Machine.execKeyErase tm l w s
  | .tapReset tm l => Sys2Proof.Machine.execTapReset tm l s
  | .extest tm l => Sys2Proof.Machine.execExtest tm l s
  | .samplePreload tm l preload => Sys2Proof.Machine.execSamplePreload tm l preload s
  | .idcode tm l => Sys2Proof.Machine.execIdcode tm l s
  | .bypass tm l => Sys2Proof.Machine.execBypass tm l s
  | .privateTest tm l v => Sys2Proof.Machine.execPrivateTest tm l v s
  | .spiRead tm l addr => Sys2Proof.Machine.execSpiRead tm l addr s
  | .spiWrite tm l addr w => Sys2Proof.Machine.execSpiWrite tm l addr w s
  | .registerWrite tm l acc addr w => Sys2Proof.Machine.execRegisterWrite tm l acc addr w s
  | .loReadLatch tm l acc addr => Sys2Proof.Machine.execLoReadLatch tm l acc addr s
  | .companionRegisterAccess tm l acc addr wr moved acked => Sys2Proof.Machine.execCompanionRegisterAccess tm l acc addr wr moved acked s
  | .crosslinkTimeout tm l => Sys2Proof.Machine.execCrosslinkTimeout tm l s
  | .slackMinClr tm l acc n => Sys2Proof.Machine.execSlackMinClr tm l acc n s
  | .maxwaitClr tm l acc n => Sys2Proof.Machine.execMaxwaitClr tm l acc n s
  | .arbPrioWrite tm l acc w => Sys2Proof.Machine.execArbPrioWrite tm l acc w s
  | .positionSample tm c k x => Sys2Proof.Machine.execPositionSample tm c k x s
  | .driveSupplyReturn tm c vdrv vbr1 vbr2 => Sys2Proof.Machine.execDriveSupplyReturn tm c vdrv vbr1 vbr2 s
  | .companionTempReturn tm c => Sys2Proof.Machine.execCompanionTempReturn tm c s
  | .supervisorFault tm l => Sys2Proof.Machine.execSupervisorFault tm l s
  | .lanePortFail tm l => Sys2Proof.Machine.execLanePortFail tm l s
  | .companionLockTimeout tm l => Sys2Proof.Machine.execCompanionLockTimeout tm l s

end Sys2Proof.Machine
end

