-- ==== Sys2Proof/Safety.lean ====
section
/-!
DEFINITION. What a safe run is, and the terms in which claims speak of one command: the state it meets, the state it leaves,
and the runs of the queue.
-/
namespace Sys2Proof.Machine

/-- The Chord SRAM of every lane is in its canonical form. -/
def State.sound (s : State) : Prop := s.mems.wf = true

/-- The dies as a command at instant `tm` meets them. -/
def State.upTo (s : State) (tm : Nat) : Dev := s.dev.elapse s.now (s.instant tm)

/-- In every state that meets `pre`, the command completes in a state that meets `post`, and the queue is as it was. -/
def Does (pre : State → Prop) (c : Instr) (post : State → State → Prop) : Prop :=
  ∀ s, pre s → ∃ t, exec c s = .next t ∧ t.pending = s.pending ∧ post s t

/-- In every state whose dies meet `pre` at the instant of a command, the command completes at that instant; Chord SRAM and the
queue stand, and the dies meet `post`. -/
def Acts (tm : Nat) (c : Instr) (pre : Dev → Prop) (post : Dev → Dev → Prop) : Prop :=
  ∀ s, pre (s.upTo tm) → ∃ t, exec c s = .next t ∧ t.pending = s.pending ∧ t.now = s.instant tm ∧ t.mems = s.mems ∧
    post (s.upTo tm) t.dev

/-- The same for a command that reads or writes Chord SRAM. -/
def ActsM (tm : Nat) (c : Instr) (pre : Mems → Dev → Prop) (post : Mems → Dev → Mems → Dev → Prop) : Prop :=
  ∀ s, pre s.mems (s.upTo tm) → ∃ t, exec c s = .next t ∧ t.pending = s.pending ∧ t.now = s.instant tm ∧
    post s.mems (s.upTo tm) t.mems t.dev

/-- The latest event of a lane. -/
def Dev.latest (d : Dev) (l : LaneId) : Nat := (d.lane l).rd Reg.EVT_STAT.LAST_ID

/-- The latest event of the lane that drove companion `c` in `u` is, in `v`, event `id`. -/
def Dev.Told (u v : Dev) (c : CompId) (id : Nat) : Prop :=
  ∀ l, u.driver c = some l → (u.lane l).powered = true → v.latest l = id

/-! ### Frames -/

/-- The MAC of companion `c` passes frame `f` on to the node driven by lane `l`, with header `h`, of a kind (R212 to R215). -/
def Dev.Hears (u : Dev) (c : CompId) (f : RxFrame) (l : LaneId) (h : Hdr) (kind : Nat) : Prop :=
  (u.rxHdr c f).2 = some h ∧ u.nodeLane c = some l ∧ h.kind = kind

/-- From `u` to `v` the node of companion `c` has started a frame of a kind in a slot of the running cycle, on each enabled
port at `at10` tenths of a tick or, where the port is not free then, as soon as it is, with a payload of which `ok` holds
(R22, R212 to R214, R230). -/
def Dev.SentTt (u v : Dev) (c : CompId) (l : LaneId) (at10 kind slot : Nat) (ok : List Byte → Prop) : Prop :=
  ∃ pay, ok pay ∧ ∀ y, (u.comp c).flag (Reg.PHY_CFG.EN (bit y)) = true → ∃ fr ∈ (v.comp c).lower.tx,
    fr.kind = kind ∧ fr.slot = slot ∧ fr.cycle = (u.lane l).fab.cycle ∧ fr.netY = y ∧ fr.at_ = max at10 ((u.comp c).lower.free y) / 10 ∧
    fr.bytes = (u.comp c).frameBytes (groupAddr ((u.comp c).rd Reg.JMC_ADDR.DA_LOW)) kind (entAuth ((u.comp c).ent slot)) y
      ((u.lane l).nodeOf c) slot (u.lane l).fab.cycle pay

/-- The instant, in tenths of a tick, at which every enabled port of companion `c` may start a frame (R212). -/
def Dev.soonest (u : Dev) (c : CompId) : Nat := max (u.clk * 10) (u.comp c).portsFree

/-- A counting field of a lane has gone up by one, saturating. -/
def Dev.CountedL (u v : Dev) (l : LaneId) (f : Fld) : Prop := (v.lane l).rd f = min ((u.lane l).rd f + 1) f.max

/-- A counting field of a companion has gone up by one, saturating. -/
def Dev.CountedC (u v : Dev) (c : CompId) (f : Fld) : Prop := (v.comp c).rd f = min ((u.comp c).rd f + 1) f.max

/-- Lane `l` is lost for a cause, as decided by the witness (1), a majority (2) or itself (3): SUSPECT without candidates, and
RDN_LOSS of every powered primary lane names the cause (R262, R266, R277). -/
def Dev.Lost (v : Dev) (l : LaneId) (cause by_ : Nat) : Prop :=
  (v.lane l).st = .suspect ∧ (v.lane l).rd Reg.LCTL_STATUS.STATE = 6 ∧ (v.lane l).rdn.cause = cause ∧ (v.lane l).eng.live = [] ∧
    ∀ r, r ≠ .D → (v.lane r).powered = true →
      (v.lane r).rd (Reg.RDN_LOSS.CAUSE (laneIdx l)) = cause % 256 ∧ (v.lane r).rd (Reg.RDN_LOSS.BY (laneIdx l)) = by_

/-- The two copies of a lane's wear record are no newer than the record in use (R398). -/
def Lane.wearKept (x : Lane) : Prop :=
  (Sparse.get {} x.mram.copies 0).gen ≤ x.mram.wear.gen ∧ (Sparse.get {} x.mram.copies 1).gen ≤ x.mram.wear.gen

/-- The start of lane `l` has failed with a cause and a detail: the count is one higher, and the lane is in BOOT again or, from
the third failed start on, in MINIMAL (R385, R386). -/
def Dev.StartFailed (u v : Dev) (l : LaneId) (cause detail : Nat) : Prop :=
  (u.lane l).wearKept →
    (v.lane l).st = (if (u.lane l).rd Reg.LCTL_START_CNT.COUNT < 2 then .boot else .minimal) ∧
    u.CountedL v l Reg.LCTL_START_CNT.COUNT ∧ (v.lane l).rd Reg.LCTL_START_CAUSE.CAUSE = cause ∧
    (v.lane l).rd Reg.LCTL_START_CAUSE.STATE = laneStCode (u.lane l).st ∧
    (v.lane l).rd Reg.LCTL_START_CAUSE.DETAIL = detail % 65536

/-! ### Ring commands -/

/-- It is the turn of command `c`, fetched as the `i`th, with opcode `op`, in the serving lane `l`: it is of the present
generation of its ring, was not applied before, and every fetched opcode is assigned (R319, R321, R325, R327). -/
def Dev.Turn (u : Dev) (l : LaneId) (op i : Nat) (c : Cmd) : Prop :=
  let x := u.lane l
  x.powered = true ∧ x.flag Reg.RNG_STAT.SERVING = true ∧ x.nextCmd (fun c => c.opcode == op) = some (i, c) ∧
    x.appliedBefore c = false ∧ c.ring < 4 ∧ c.gen = x.rd (Reg.RNG_IDX.GEN c.ring) ∧ ∀ k ∈ x.ring.cmds, opcodes.contains k.opcode = true

/-- Command `c` has completed with a code and a RESULT: it is consumed, its CMD_SEQ counted, and a descriptor for CPLQ stands
at the next index (R315, R321, R322, R324). -/
def Dev.Completed (u v : Dev) (l : LaneId) (c : Cmd) (code : Nat) (result : List Byte) : Prop :=
  let x := u.lane l
  let y := v.lane l
  y.rd (Reg.RNG_IDX.IDX 4) = (x.rd (Reg.RNG_IDX.IDX 4) + 1) % 65536 ∧ y.rd (Reg.RNG_IDX.IDX c.ring) = (c.idx + 1) % 65536 ∧
    Sparse.look y.ring.expect c.ring = some ((c.seq + 1) % 2 ^ 32) ∧
    ∃ q ∈ y.ring.uncov, q.what = .desc 4 (x.rd (Reg.RNG_IDX.IDX 4)) ∧ q.data.getD 0 0 = BitVec.ofNat 8 c.opcode ∧
      q.data.getD 1 0 = BitVec.ofNat 8 code ∧ q.data.getD 2 0 = BitVec.ofNat 8 c.ring ∧
      (q.data.drop 4).take 4 = leBytes 4 c.seq ∧ (q.data.drop 8).take c.tag.length = c.tag ∧
      (q.data.drop (24 + c.tag.length)).take result.length = result

/-- The words that READ_REGS reads in turn, each with how its access ended (R319, R324); an access that fails is reported. -/
def Dev.readWords (l : LaneId) : List Nat → Dev → List (Nat × Nat)
  | [], _ => []
  | a :: t, d =>
    let r := d.regRd l .ring a
    (r.2.1, if r.2.1 = accOk then r.2.2 else 0) ::
      Dev.readWords l t (if r.2.1 = accOk then r.1 else r.1.accReport l .ring r.2.1 a)

/-! ### The part apart from its records

Raising an event leaves traces in the recorder, the event registers and the rings' held items, and may end DOZE; letting the
part settle moves the holding-brake outputs and the serving lane. A claim about any other effect compares the part apart
from these. -/

/-- A lane register field that neither an event nor settling writes: none of EVT, BBX, RNG_STAT, RNG_GAP, RWP_STAT, PWR_STATE
and PWR_WAKE_STAT. -/
def Fld.quiet (f : Fld) : Bool :=
  let a := f.key / 32
  !(decide (0x40001000 ≤ a ∧ a < 0x40002000) || decide (0x4000F000 ≤ a ∧ a < 0x40010000) || a == 0x40006100 ||
    decide (0x40006150 ≤ a ∧ a < 0x40006160) || a == 0x40007004 || a == 0x4000C010 || a == 0x4000C030)

/-- A companion register field that neither an event nor settling writes: none of CMPS_EVQ, SBC_STAT and CMPS_SW. -/
def Fld.quietC (f : Fld) : Bool :=
  let a := f.key / 32
  !(a == 0x4800B01C || a == 0x48007010 || a == 0x48007014 || a == 0x4800B004)

/-- A witness register field other than those of WIT_SW. -/
def Fld.quietW (f : Fld) : Bool := !(f.key / 32 == 0x4C000008)

/-- A lane without its registers, its recorder and its ring engine. -/
def Lane.body (x : Lane) : Lane := { x with regs := [], bbx := {}, ring := {} }

/-- A bridge without the instants since which its gates are off, are on again, and its PWM runs again. -/
def Bridge.body (x : Bridge) : Bridge := { x with gatesOffAt := none, restartAt := 0, onFrom := 0 }

/-- A companion without its registers, its held events and its holding-brake outputs. -/
def Comp.body (x : Comp) : Comp := { x with regs := [], evq := [], evLost := 0, sbc := [], b0 := x.b0.body, b1 := x.b1.body }

/-- The witness without its registers. -/
def Wit.body (x : Wit) : Wit := { x with regs := [] }

/-- The power manager without the state of RUN to DOZE and the vote. -/
def Power.body (x : Power) : Power := { x with state := 0, vote := none, passed := none }

/-- Two parts are alike apart from events and settling. -/
structure Dev.Like (d e : Dev) : Prop where
  clk   : d.clk = e.clk
  lane  : ∀ l, (d.lane l).body = (e.lane l).body
  lreg  : ∀ l f, f.quiet = true → (d.lane l).rd f = (e.lane l).rd f
  comp  : ∀ c, (d.comp c).body = (e.comp c).body
  creg  : ∀ c f, f.quietC = true → (d.comp c).rd f = (e.comp c).rd f
  wit   : d.wit.body = e.wit.body
  wreg  : ∀ f, f.quietW = true → d.wit.rd f = e.wit.rd f
  pwr   : d.pwr.body = e.pwr.body

/-! ### Instructions of the Chord engine -/

/-- The registers of the run `w` in the lane that `q` names. -/
def State.ctx (s : State) (q : Issue) (w : Issuer) : Ctx := (s.dev.lane q.lane).ctxAt w.slot

/-- The instruction `q` issues in the run `w` and reaches its guard: it is the turn of `w`, its fetch is granted, permitted
and reads clean, and nothing strikes its issues or its registers (R58, R72, R115, R332, R340). -/
def State.issues (s : State) (q : Issue) (w : Issuer) : Prop :=
  let x := s.dev.lane q.lane
  let pc := (s.ctx q w).pc.toNat
  x.issuer q.half1 = some w ∧ x.mayFetch w.task pc = true ∧ x.permitted 2 (groupOf (pc / 8)) = true ∧
    (s.mems.lane q.lane).outcome (pc / 8) q.fetch = none ∧ q.strikes = [] ∧ q.hits = [] ∧ q.phits = []

/-- The instruction issues and its guard holds (R39). -/
def State.runs (s : State) (q : Issue) (w : Issuer) : Prop :=
  s.issues q w ∧ (s.ctx q w).guard q.pg q.pn = true

/-- The two issues of an instruction agree on the run's registers, or the engine is in split mode and issues once (R106, R115,
R124). -/
def State.agrees (s : State) (q : Issue) (w : Issuer) (k : Work) : Prop :=
  (s.dev.lane q.lane).isSplit = true ∨ k.mismatch q w.rot (s.ctx q w) = none

/-- What a Chord instruction asks of the engine: its two issues (R106). -/
def workOf : Instr → Option Work
  | .addi _ rd ra imm => some (workAddi rd ra imm)
  | .andi _ rd ra imm => some (workAndi rd ra imm)
  | .ori _ rd ra imm => some (workOri rd ra imm)
  | .xori _ rd ra imm => some (workXori rd ra imm)
  | .slli _ rd ra sh => some (workSlli rd ra sh)
  | .srli _ rd ra sh => some (workSrli rd ra sh)
  | .srai _ rd ra sh => some (workSrai rd ra sh)
  | .muli _ rd ra imm => some (workMuli rd ra imm)
  | .movz _ rd hw imm => some (workMovz rd hw imm)
  | .movk _ rd hw imm => some (workMovk rd hw imm)
  | .add _ rd ra rb => some (workAdd rd ra rb)
  | .sub _ rd ra rb => some (workSub rd ra rb)
  | .and _ rd ra rb => some (workAnd rd ra rb)
  | .or _ rd ra rb => some (workOr rd ra rb)
  | .xor _ rd ra rb => some (workXor rd ra rb)
  | .andn _ rd ra rb => some (workAndn rd ra rb)
  | .sll _ rd ra rb => some (workSll rd ra rb)
  | .srl _ rd ra rb => some (workSrl rd ra rb)
  | .sra _ rd ra rb => some (workSra rd ra rb)
  | .mul _ rd ra rb => some (workMul rd ra rb)
  | .mulhs _ rd ra rb => some (workMulhs rd ra rb)
  | .mulhu _ rd ra rb => some (workMulhu rd ra rb)
  | .min _ rd ra rb => some (workMin rd ra rb)
  | .max _ rd ra rb => some (workMax rd ra rb)
  | .minu _ rd ra rb => some (workMinu rd ra rb)
  | .maxu _ rd ra rb => some (workMaxu rd ra rb)
  | .div _ rd ra rb => some (workDiv rd ra rb)
  | .divu _ rd ra rb => some (workDivu rd ra rb)
  | .rem _ rd ra rb => some (workRem rd ra rb)
  | .remu _ rd ra rb => some (workRemu rd ra rb)
  | .abs _ rd ra => some (workAbs rd ra)
  | .neg _ rd ra => some (workNeg rd ra)
  | .clz _ rd ra => some (workClz rd ra)
  | .popc _ rd ra => some (workPopc rd ra)
  | .sextw _ rd ra => some (workSextw rd ra)
  | .zextw _ rd ra => some (workZextw rd ra)
  | .satw _ rd ra => some (workSatw rd ra)
  | .sath _ rd ra => some (workSath rd ra)
  | .cmp _ pd c ra rb => some (workCmp pd c ra rb)
  | .cmpi _ pd c ra imm => some (workCmpi pd c ra imm)
  | .plog _ pd f pa pb => some (workPlog pd f pa pb)
  | .qadd _ rd ra rb => some (workQadd rd ra rb)
  | .qsub _ rd ra rb => some (workQsub rd ra rb)
  | .qmul15 _ rd ra rb => some (workQmul15 rd ra rb)
  | .qmul31 _ rd ra rb => some (workQmul31 rd ra rb)
  | .qmac31 _ rd ra rb => some (workQmac31 rd ra rb)
  | .qmsu31 _ rd ra rb => some (workQmsu31 rd ra rb)
  | .qabs _ rd ra rb => some (workQabs rd ra rb)
  | .qneg _ rd ra rb => some (workQneg rd ra rb)
  | .qshl _ rd ra rb => some (workQshl rd ra rb)
  | .qrsr _ rd ra rb => some (workQrsr rd ra rb)
  | .qlim _ rd ra rb => some (workQlim rd ra rb)
  | .fadd _ rd ra rb => some (workFadd rd ra rb)
  | .fsub _ rd ra rb => some (workFsub rd ra rb)
  | .fmul _ rd ra rb => some (workFmul rd ra rb)
  | .fdiv _ rd ra rb => some (workFdiv rd ra rb)
  | .fsqrt _ rd ra => some (workFsqrt rd ra)
  | .fmin _ rd ra rb => some (workFmin rd ra rb)
  | .fmax _ rd ra rb => some (workFmax rd ra rb)
  | .fabs _ rd ra rb => some (workFabs rd ra rb)
  | .fneg _ rd ra rb => some (workFneg rd ra rb)
  | .fmac _ rd ra rb => some (workFmac rd ra rb)
  | .fmsc _ rd ra rb => some (workFmsc rd ra rb)
  | .fcvtws _ rd ra rb => some (workFcvtws rd ra rb)
  | .fcvtsw _ rd ra rb => some (workFcvtsw rd ra rb)
  | .fcvtqs _ rd ra rb => some (workFcvtqs rd ra rb)
  | .fcvtsq _ rd ra rb => some (workFcvtsq rd ra rb)
  | .fclass _ rd ra rb => some (workFclass rd ra rb)
  | .fcmp _ pd c ra rb => some (workFcmp pd c ra rb)
  | .sincos _ rd ra => some (workSincos rd ra)
  | .atan2 _ rd ra rb => some (workAtan2 rd ra rb)
  | .clarke _ rd ra rb => some (workClarke rd ra rb)
  | .park _ rd ra rb => some (workPark rd ra rb)
  | .ipark _ rd ra rb => some (workIpark rd ra rb)
  | .svm _ rd ra => some (workSvm rd ra)
  | .ld _ rd ra off => some (workLd rd ra off)
  | .lw _ rd ra off => some (workLw rd ra off)
  | .lwu _ rd ra off => some (workLwu rd ra off)
  | .lh _ rd ra off => some (workLh rd ra off)
  | .lhu _ rd ra off => some (workLhu rd ra off)
  | .lb _ rd ra off => some (workLb rd ra off)
  | .lbu _ rd ra off => some (workLbu rd ra off)
  | .sd _ rs ra off => some (workSd rs ra off)
  | .sw _ rs ra off => some (workSw rs ra off)
  | .sh _ rs ra off => some (workSh rs ra off)
  | .sb _ rs ra off => some (workSb rs ra off)
  | .br _ off => some (workBr off)
  | .call _ off => some (workCall off)
  | .jr _ ra => some (workJr ra)
  | .lkb _ g => some (workLkb g)
  | .lke _ => some workLke
  | .trap _ code => some (workTrap code)
  | .seal _ _ => some workSeal
  | .illegalEncoding _ _ => some workIllegal
  | _ => none

/-- The instruction runs to its effect: it issues, its guard holds, and its issues agree (R39, R106). -/
def State.plays (s : State) (q : Issue) (w : Issuer) (i : Instr) : Prop :=
  s.runs q w ∧ ∃ k, workOf i = some k ∧ s.agrees q w k

/-- The part after the fetch of an instruction: one beat of CHORD_IF is counted. -/
def State.fetched (s : State) (q : Issue) : Dev := s.dev.modLane q.lane (·.beats 2 1)

/-- The state in which the run `w` has the registers `c`, and flags `f` are set. -/
def State.retired (s : State) (q : Issue) (w : Issuer) (c : Ctx) (f : Flags) : State :=
  { s with dev := (s.fetched q).writeBack q.lane w c f }

/-- The state in which the run has written `v` to general register `rd`, with flags, and goes on. -/
def State.gives (s : State) (q : Issue) (w : Issuer) (rd : BitVec 6) (v : Dword) (f : Flags) : State :=
  s.retired q w ((s.ctx q w).retire (s.dev.lane q.lane).isSplit rd v (anCode w.rot v)) f

/-- The state in which the run has ended with an exception. -/
def State.excepted (s : State) (q : Issue) (w : Issuer) (code trap : Nat) : State :=
  { s with dev := (s.fetched q).except q.lane w code trap }

/-- All that an instruction leaves where it touches only the registers and flags of its run: memory, the queue, time, and
every other die are as they were. -/
def State.AloneIn (s t : State) (q : Issue) : Prop :=
  t.mems = s.mems ∧ t.pending = s.pending ∧ t.now = s.now ∧ (∀ l, l ≠ q.lane → t.dev.lane l = s.dev.lane l) ∧
    (∀ c, t.dev.comp c = s.dev.comp c) ∧ t.dev.wit = s.dev.wit ∧ t.dev.pwr = s.dev.pwr

/-- The flags of the task of an activation after an instruction that set `f` (R49). -/
def State.Flagged (s t : State) (q : Issue) (w : Issuer) (f : Flags) : Prop :=
  ∀ h1, w.slot = .half h1 → (t.dev.lane q.lane).taskFlags w.task = ((s.dev.lane q.lane).taskFlags w.task).or f

/-- The run has written `v` to general register `rd` and goes on: every other register and every predicate stands, a write to
g0 is discarded, flags are joined, and nothing else of the part has changed (R37, R38, R49). -/
def State.Wrote (s t : State) (q : Issue) (w : Issuer) (rd : BitVec 6) (v : Dword) (f : Flags) : Prop :=
  (t.ctx q w).rg rd = (if rd = 0 then 0 else v) ∧ (∀ r, r ≠ rd → (t.ctx q w).rg r = (s.ctx q w).rg r) ∧
    (∀ p, (t.ctx q w).rp p = (s.ctx q w).rp p) ∧ (t.ctx q w).pc = (s.ctx q w).pc + 4 ∧ s.Flagged t q w f ∧ s.AloneIn t q

/-- The run has written predicate `pd` and goes on: p0 stays 1, every other predicate and every register stands (R37, R38,
R45). -/
def State.Judged (s t : State) (q : Issue) (w : Issuer) (pd : BitVec 3) (b : Bool) (f : Flags) : Prop :=
  (t.ctx q w).rp pd = (if pd = 0 then true else b) ∧ (∀ p, p ≠ pd → (t.ctx q w).rp p = (s.ctx q w).rp p) ∧
    (∀ r, (t.ctx q w).rg r = (s.ctx q w).rg r) ∧ (t.ctx q w).pc = (s.ctx q w).pc + 4 ∧ s.Flagged t q w f ∧ s.AloneIn t q

/-- The shadow of an instruction falls back in this state (R113): the engine is in checked mode, and its primary outcome says so. -/
def State.fallsBack (s : State) (q : Issue) (w : Issuer) (i : Instr) : Prop :=
  (s.dev.lane q.lane).isSplit = false ∧ ∃ k, workOf i = some k ∧ (k.body w.rot (s.ctx q w)).fellBack = true

/-- What a fallback leaves beside the instruction's own effect (R113): it is counted, event CHX_RANGE is raised, and memory,
the queue and time stand; without one, nothing but the run has changed. -/
def State.AloneF (s t : State) (q : Issue) (w : Issuer) (i : Instr) : Prop :=
  (¬ s.fallsBack q w i → s.AloneIn t q) ∧
  (s.fallsBack q w i → t.mems = s.mems ∧ t.pending = s.pending ∧ t.now = s.now ∧
    s.dev.CountedL t.dev q.lane Reg.CHX_RANGE_CNT.COUNT ∧ ((s.dev.lane q.lane).powered = true → t.dev.latest q.lane = 24))

/-- `State.Wrote` for a binary32 instruction, whose shadow may fall back. -/
def State.WroteF (s t : State) (q : Issue) (w : Issuer) (i : Instr) (rd : BitVec 6) (v : Dword) (f : Flags) : Prop :=
  (t.ctx q w).rg rd = (if rd = 0 then 0 else v) ∧ (∀ r, r ≠ rd → (t.ctx q w).rg r = (s.ctx q w).rg r) ∧
    (∀ p, (t.ctx q w).rp p = (s.ctx q w).rp p) ∧ (t.ctx q w).pc = (s.ctx q w).pc + 4 ∧ s.Flagged t q w f ∧ s.AloneF t q w i

/-- `State.Judged` for a binary32 compare, whose shadow may fall back. -/
def State.JudgedF (s t : State) (q : Issue) (w : Issuer) (i : Instr) (pd : BitVec 3) (b : Bool) (f : Flags) : Prop :=
  (t.ctx q w).rp pd = (if pd = 0 then true else b) ∧ (∀ p, p ≠ pd → (t.ctx q w).rp p = (s.ctx q w).rp p) ∧
    (∀ r, (t.ctx q w).rg r = (s.ctx q w).rg r) ∧ (t.ctx q w).pc = (s.ctx q w).pc + 4 ∧ s.Flagged t q w f ∧ s.AloneF t q w i

/-- The run stands at an address with its registers and predicates as they were. -/
def State.At (s t : State) (q : Issue) (w : Issuer) (pc : BitVec 22) : Prop :=
  (∀ r, (t.ctx q w).rg r = (s.ctx q w).rg r) ∧ (∀ p, (t.ctx q w).rp p = (s.ctx q w).rp p) ∧ (t.ctx q w).pc = pc

/-- The words of R format under an opcode decode to the instructions of a list by their function, 0 first; the functions past
the list are not assigned (R40). -/
def decodesR (op : BitVec 6) (q : Issue) (rd ra rb : BitVec 6) (is : List Instr) : Prop :=
  ∀ k < 16, decodeChord q 0 (wordR op q rd ra rb (BitVec.ofNat 4 k)) = is[k]?

/-- The words of C format under an opcode decode to the instructions of a list by their condition, 0 first. -/
def decodesC (op : BitVec 6) (q : Issue) (pd : BitVec 3) (ra : BitVec 6) (low : BitVec 10) (is : List Instr) : Prop :=
  ∀ k < 8, decodeChord q 0 (wordC op q pd (BitVec.ofNat 3 k) ra low) = is[k]?

/-- A data access of `n` bytes at `a` by an activation is granted: aligned, in a partition that grants it, within the
locked sequence, through the mask, and in no group whose grant was ended (R56, R59, R65, R340, R348). -/
def State.granted (s : State) (q : Issue) (w : Issuer) (h1 : Bool) (a n : Nat) (may : Bool) : Prop :=
  let x := s.dev.lane q.lane
  let h := x.eng.half h1
  a % n = 0 ∧ may = true ∧ (h.locks = [] ∨ h.beats < 16) ∧ x.permitted 1 (groupOf (a / 8)) = true ∧
    h.ended.contains (groupOf (a / 8)) = false

/-! ### Runs of the queue -/

/-- A run: the states that a number of steps leads through, each step answering a next state. -/
inductive Runs : State → State → Prop where
  | here (s : State) : Runs s s
  | more (s t u : State) : step s = .next t → Runs t u → Runs s u

/-- A state from which every run stays sound. -/
def State.safe (s : State) : Prop := ∀ t, Runs s t → t.sound

end Sys2Proof.Machine
end

