-- ==== Sys2Proof/WellFormed.lean ====
section
/-!
DEFINITION. Which commands are well formed: operands within the ranges that the rules give them. The guard of a MOVZ or MOVK
is that of an unconditional instruction (R39), and the word of an ILLEGAL_ENCODING decodes to nothing.
-/
namespace Sys2Proof

/-- A read outcome: a corrected bit is one of the 64 data and 8 check bits (R332). -/
def Ecc.wf : Ecc → Bool
  | .corrected b => decide (b < 72)
  | _ => true

/-- An issue: its reads, hits on the 128 physical registers and 16 predicate bits of R107, and competing heads of the ten
requesters (R339). -/
def Issue.wf (q : Issue) : Bool :=
  q.fetch.wf && q.data.wf && q.hits.all (fun h => decide (h.1 < 128)) && q.phits.all (fun i => decide (i < 16)) &&
    q.contend.all (fun h => decide (h.1 < 10))

/-- A fault that memory BIST finds lies in one of 64 banks, of 128 rows and 72 columns (R330, R332). -/
def BistFault.wf : BistFault → Bool
  | .column b c => decide (b < 64 ∧ c < 72)
  | .row b r => decide (b < 64 ∧ r < 128)
  | .bank b => decide (b < 64)
  | .supervisor => true

/-- A compare event of logic BIST names a slice, an outcome, a bit of the value and a physical register that exist (R106, R107,
R116). -/
def BistEvent.wf (e : BistEvent) : Bool :=
  e.loser.all (fun i => decide (i < 3)) && decide (e.outcome < 3) && decide (e.bit < 64) && e.phys.all (fun p => decide (p < 128))

/-- The observations of a centre: 12-bit codes, at least one sample of each phase voltage, four auxiliary inputs and a VREF
(R153, R157, R158). -/
def CentreObs.wf (o : CentreObs) : Bool :=
  decide (o.vBr < 4096) && [o.vU, o.vV, o.vW].all (fun v => !v.isEmpty && v.all (fun n => decide (n < 4096))) &&
    decide (o.aux.length = 4) && decide (0 < o.vref)

/-- A command is well formed. -/
def Instr.wf : Instr → Bool
  | .addi q _ _ _ => q.wf
  | .andi q _ _ _ => q.wf
  | .ori q _ _ _ => q.wf
  | .xori q _ _ _ => q.wf
  | .slli q _ _ _ => q.wf
  | .srli q _ _ _ => q.wf
  | .srai q _ _ _ => q.wf
  | .muli q _ _ _ => q.wf
  | .movz q _ _ _ => q.wf && decide (q.pg = 0 ∧ q.pn = false)
  | .movk q _ _ _ => q.wf && decide (q.pg = 0 ∧ q.pn = false)
  | .add q _ _ _ => q.wf
  | .sub q _ _ _ => q.wf
  | .and q _ _ _ => q.wf
  | .or q _ _ _ => q.wf
  | .xor q _ _ _ => q.wf
  | .andn q _ _ _ => q.wf
  | .sll q _ _ _ => q.wf
  | .srl q _ _ _ => q.wf
  | .sra q _ _ _ => q.wf
  | .mul q _ _ _ => q.wf
  | .mulhs q _ _ _ => q.wf
  | .mulhu q _ _ _ => q.wf
  | .min q _ _ _ => q.wf
  | .max q _ _ _ => q.wf
  | .minu q _ _ _ => q.wf
  | .maxu q _ _ _ => q.wf
  | .div q _ _ _ => q.wf
  | .divu q _ _ _ => q.wf
  | .rem q _ _ _ => q.wf
  | .remu q _ _ _ => q.wf
  | .abs q _ _ => q.wf
  | .neg q _ _ => q.wf
  | .clz q _ _ => q.wf
  | .popc q _ _ => q.wf
  | .sextw q _ _ => q.wf
  | .zextw q _ _ => q.wf
  | .satw q _ _ => q.wf
  | .sath q _ _ => q.wf
  | .cmp q _ _ _ _ => q.wf
  | .cmpi q _ _ _ _ => q.wf
  | .plog q _ _ _ _ => q.wf
  | .qadd q _ _ _ => q.wf
  | .qsub q _ _ _ => q.wf
  | .qmul15 q _ _ _ => q.wf
  | .qmul31 q _ _ _ => q.wf
  | .qmac31 q _ _ _ => q.wf
  | .qmsu31 q _ _ _ => q.wf
  | .qabs q _ _ _ => q.wf
  | .qneg q _ _ _ => q.wf
  | .qshl q _ _ _ => q.wf
  | .qrsr q _ _ _ => q.wf
  | .qlim q _ _ _ => q.wf
  | .fadd q _ _ _ => q.wf
  | .fsub q _ _ _ => q.wf
  | .fmul q _ _ _ => q.wf
  | .fdiv q _ _ _ => q.wf
  | .fsqrt q _ _ => q.wf
  | .fmin q _ _ _ => q.wf
  | .fmax q _ _ _ => q.wf
  | .fabs q _ _ _ => q.wf
  | .fneg q _ _ _ => q.wf
  | .fmac q _ _ _ => q.wf
  | .fmsc q _ _ _ => q.wf
  | .fcvtws q _ _ _ => q.wf
  | .fcvtsw q _ _ _ => q.wf
  | .fcvtqs q _ _ _ => q.wf
  | .fcvtsq q _ _ _ => q.wf
  | .fclass q _ _ _ => q.wf
  | .fcmp q _ _ _ _ => q.wf
  | .sincos q _ _ => q.wf
  | .atan2 q _ _ _ => q.wf
  | .clarke q _ _ _ => q.wf
  | .park q _ _ _ => q.wf
  | .ipark q _ _ _ => q.wf
  | .svm q _ _ => q.wf
  | .ld q _ _ _ => q.wf
  | .lw q _ _ _ => q.wf
  | .lwu q _ _ _ => q.wf
  | .lh q _ _ _ => q.wf
  | .lhu q _ _ _ => q.wf
  | .lb q _ _ _ => q.wf
  | .lbu q _ _ _ => q.wf
  | .sd q _ _ _ => q.wf
  | .sw q _ _ _ => q.wf
  | .sh q _ _ _ => q.wf
  | .sb q _ _ _ => q.wf
  | .br q _ => q.wf
  | .call q _ => q.wf
  | .jr q _ => q.wf
  | .seal q _ => q.wf
  | .lkb q _ => q.wf
  | .lke q => q.wf
  | .trap q _ => q.wf
  | .illegalEncoding q word => q.wf && (decodeChord q 0 word).isNone
  | .periodicInjection _ _ _ => true
  | .activation _ _ _ => true
  | .sampleBlockStored _ _ _ => true
  | .release _ _ => true
  | .overrun _ _ task => decide (task < 16)
  | .candidateStaged _ _ k => decide (k < 4)
  | .stagingDeadline _ _ => true
  | .depthReevaluation _ _ => true
  | .setpointFrame _ _ _ => true
  | .setpointMiss _ _ => true
  | .pwmCentre _ _ _ o => o.wf
  | .pwmReload _ _ _ => true
  | .desat _ _ _ x => decide (x.drv < 6)
  | .hwOc _ _ _ fast => decide (fast.length = 3)
  | .currentLimit _ _ _ fast => decide (fast.length = 3)
  | .latchedFaultClear _ _ _ => true
  | .drvFaultClear _ _ _ _ _ => true
  | .vdrvUndervoltage _ _ => true
  | .vbrOutOfLimits _ _ _ _ => true
  | .gateTimeout _ _ _ drv => decide (drv < 6)
  | .holdExpiry _ _ => true
  | .switchOpen _ _ => true
  | .switchSpare _ _ => true
  | .joinEnd _ _ _ => true
  | .switchHandshakeResume _ _ => true
  | .modulatorFail _ _ m => decide (m < 8)
  | .spareSettled _ _ sp => decide (sp < 2)
  | .sumCheckFail _ _ _ sp => decide (sp < 2)
  | .spareShadowRotate _ _ sp ch => decide (sp < 2) && decide (ch < 6)
  | .tempDisagree _ _ _ _ => true
  | .bridgeSensorOpen _ _ sensor => decide (sensor < 2)
  | .sentMessage _ _ n _ => decide (n < 4)
  | .sentStale _ _ n => decide (n < 4)
  | .signalWarning _ _ k => decide (k < 3)
  | .trackCheckStart _ _ k => decide (k < 3)
  | .trackCheckEnd _ _ k _ => decide (k < 3)
  | .converterShadowStep _ _ k => decide (k < 3)
  | .abzEdge _ _ _ _ => true
  | .indexEdge _ _ => true
  | .indexMissing _ _ _ => true
  | .probeEdge _ _ p _ _ => decide (p < 2)
  | .speedWindowEnd _ _ _ => true
  | .plausibilityFail _ _ _ => true
  | .sioTick _ _ closedA closedB => decide (closedA < 256 ∧ closedB < 256)
  | .pullInEnd _ _ j => decide (j < 2)
  | .darkTestStart _ _ j => decide (j < 2)
  | .darkTestEnd _ _ j _ => decide (j < 2)
  | .sbcOvercurrent _ _ j _ => decide (j < 2)
  | .sbcFaultDetect _ _ j _ _ => decide (j < 2)
  | .sbcSupplyLoss _ _ _ => true
  | .cycleStart _ _ => true
  | .txSlot _ _ slot _ => decide (slot < 2048)
  | .ttDataReceive _ _ _ _ => true
  | .ttNullReceive _ _ _ => true
  | .syncReceive _ _ _ => true
  | .coldstartReceive _ _ _ => true
  | .slewEnd _ _ => true
  | .claimReceive _ _ _ => true
  | .syncCorrection _ _ => true
  | .etSegmentStart _ _ => true
  | .listenTimeout _ _ => true
  | .corruptedReception _ _ _ _ => true
  | .backoffEnd _ _ => true
  | .coldstartHoldoffEnd _ _ => true
  | .membershipDecision _ _ => true
  | .claimBackoffEnd _ _ k => decide (k < 4)
  | .phyLinkChange _ _ _ _ => true
  | .heartbeatSend _ _ => true
  | .heartbeatReceive _ rx h _ => decide (rx ≠ some h.lane)
  | .beaconSend _ => true
  | .beaconReceive _ _ _ _ _ => true
  | .statusWordReceive _ _ _ _ => true
  | .companionReport _ _ _ => true
  | .pathFail _ _ _ => true
  | .pathRecover _ _ _ => true
  | .laneSilent _ _ => true
  | .voteEvaluate _ key => decide (key < 2 ^ 64)
  | .witnesslessEntry _ _ => true
  | .unlinkedEntry _ _ _ => true
  | .suspectTimeout _ _ => true
  | .journalRecordReceive _ _ _ => true
  | .laneDSupplyGood _ => true
  | .imageLoaded _ _ _ => true
  | .stateCopyReceive _ _ _ => true
  | .bringInDeadline _ step => decide (step < 4)
  | .proofWakeEnd _ failStep _ => decide (failStep < 256)
  | .rcaPoll _ _ => true
  | .rwpReadRsp _ _ _ => true
  | .ringGenRewrite _ _ r => decide (r < 8)
  | .rwpWriteAck _ _ _ => true
  | .rwpErrorRsp _ _ _ => true
  | .rwpResend _ _ => true
  | .hostLost _ _ => true
  | .wakeDbReceive _ _ _ => true
  | .nop _ _ => true
  | .appDrive _ _ => true
  | .appSafe _ _ => true
  | .appConfig _ _ => true
  | .readRegs _ _ => true
  | .clearCapsule _ _ => true
  | .flushRing _ _ => true
  | .powerReq _ _ => true
  | .appForwardReceive _ _ => true
  | .appApply _ _ => true
  | .appTimeout _ _ => true
  | .scrubRead _ _ g e => decide (g < 8) && e.wf
  | .repairCopyDone _ _ g => decide (g < 8)
  | .arbHoldTimeout _ _ g => decide (g < 8)
  | .fqIdleTimeout _ _ n => decide (n < 16)
  | .fqFlush _ _ w => decide (w < 2 ^ 32)
  | .fqFlushTakeEffect _ _ n => decide (n < 16)
  | .fqGapMarkerWrite _ _ n => decide (n < 16)
  | .fqRxDeliver _ _ n _ => decide (n < 8)
  | .powerVoteRequest _ _ => true
  | .powerVoteAnswer _ v => decide (v < 5)
  | .powerVoteTimeout _ => true
  | .retentionEdgeEntry _ => true
  | .wakeTelegramEnd _ _ => true
  | .timebaseLock _ _ => true
  | .retentionEdgeWake _ => true
  | .padRelease _ _ n => decide (n < 4)
  | .crystalFail _ _ => true
  | .retentionOscFail _ => true
  | .witnessPowerOn _ => true
  | .supplyGood _ _ _ => true
  | .bootComplete _ _ _ => true
  | .setupLock _ _ => true
  | .vaultImageWriteDone _ => true
  | .calibComplete _ _ _ => true
  | .companionCalibCommand _ _ _ => true
  | .memoryBistComplete _ _ faults => faults.all BistFault.wf
  | .memoryInitComplete _ _ => true
  | .logicBistSlotGrant _ => true
  | .logicBistComplete _ _ x _ => decide (x.fail < 8) && x.events.all BistEvent.wf
  | .injectionTestComplete _ _ _ bitNo _ => decide (bitNo < 64)
  | .startDeadline _ _ => true
  | .hupChargeCheck _ _ _ => true
  | .hupLow _ _ => true
  | .startDecision _ => true
  | .deviceReady _ => true
  | .firstActiveEntry _ => true
  | .startCntClear _ _ => true
  | .supplyLoss _ _ _ => true
  | .companionSupplyLoss _ _ => true
  | .witnessSupplyLoss _ => true
  | .laneOvertemp _ _ => true
  | .companionOvertemp _ _ => true
  | .coalesceWindowEnd _ _ => true
  | .tokenRefill _ _ => true
  | .postWindowEnd _ _ => true
  | .capsuleCommitDone _ _ => true
  | .journalPageWrite _ _ _ => true
  | .summaryAck _ _ k => decide (1 ≤ k ∧ k ≤ 4)
  | .clearCapsuleForward _ _ => true
  | .refreshStep _ _ _ _ => true
  | .wearRecordWrite _ _ _ => true
  | .serviceClockHour _ _ => true
  | .xlkWireFail _ _ link => decide (link < 10)
  | .certSubmit _ _ => true
  | .certVerifyDone _ _ _ => true
  | .rotProgram _ _ w => decide (w < 2 ^ 32)
  | .imgDataWrite _ _ w => decide (w < 2 ^ 32)
  | .dbgReq _ _ => true
  | .dbgSubmit _ _ _ => true
  | .dbgEnd _ _ => true
  | .dbgSessionTimeout _ _ => true
  | .keyWrite _ _ w => decide (w < 2 ^ 32)
  | .keyErase _ _ w => decide (w < 2 ^ 32)
  | .tapReset _ _ => true
  | .extest _ _ => true
  | .samplePreload _ _ _ => true
  | .idcode _ _ => true
  | .bypass _ _ => true
  | .privateTest _ _ _ => true
  | .spiRead _ _ addr => decide (addr < 2 ^ 32)
  | .spiWrite _ _ addr w => decide (addr < 2 ^ 32 ∧ w < 2 ^ 32)
  | .registerWrite _ _ _ addr w => decide (addr < 2 ^ 32 ∧ w < 2 ^ 32)
  | .loReadLatch _ _ _ addr => decide (addr < 2 ^ 32)
  | .companionRegisterAccess _ _ _ addr wr _ _ => decide (addr < 2 ^ 32 ∧ wr.all (· < 2 ^ 32) = true)
  | .crosslinkTimeout _ _ => true
  | .slackMinClr _ _ _ n => decide (n < 16)
  | .maxwaitClr _ _ _ n => decide (n < 10)
  | .arbPrioWrite _ _ _ w => decide (w < 2 ^ 32)
  | .positionSample _ _ k _ => decide (k < 3)
  | .driveSupplyReturn _ _ _ _ _ => true
  | .companionTempReturn _ _ => true
  | .supervisorFault _ _ => true
  | .lanePortFail _ _ => true
  | .companionLockTimeout _ _ => true

end Sys2Proof
end

