-- ==== Sys2Proof/Certificates/Slice0/Obligations.lean ====
section
/-!
DEFINITION. The statements for the provers, by family: the queue, the Chord engine's instructions, and the events, protocol
operations and register accesses of the part. Each docstring names the rules of spec/ that a statement formalises, and the log
entry where a clause rests on a choice of the model.
-/
open Sys2Proof Sys2Proof.Machine

/-! ### The queue and time -/

/-- A step takes the command at the front of the queue and is its execution on the state with the rest; on an empty queue the
part idles (log entry 1: DESIGN CHOICE). -/
def Obligations.StepRunsFront : Prop :=
  (∀ (c : Instr) (cs : List Instr) (s : State), s.pending = c :: cs → step s = exec c { s with pending := cs }) ∧
  ∀ s : State, s.pending = [] → step s = .next s

/-- No command stops the part: every command answers a next state in every state. -/
def Obligations.EveryCommandCompletes : Prop := ∀ (c : Instr) (s : State), ∃ t, exec c s = .next t

/-- A command leaves the queue as it is, and time does not go back. -/
def Obligations.CommandsKeepQueueAndTime : Prop :=
  ∀ (c : Instr) (s t : State), exec c s = .next t → t.pending = s.pending ∧ s.now ≤ t.now

/-- Chord SRAM stays in its canonical form: every step keeps it, whatever state it starts from. -/
def Obligations.StepKeepsMemoryCanonical : Prop := ∀ s t : State, s.sound → step s = .next t → t.sound

/-- What reset leaves (R6, R13 and the register tables): no command waits, Chord SRAM lists nothing and is in its canonical
form, every register field reads the reset value of its table, and no die has power. That unwritten Chord SRAM reads 0 is
the model's choice (log entry 2: DESIGN CHOICE). -/
def Obligations.ResetState : Prop :=
  State.reset.sound ∧ State.reset.pending = [] ∧ (∀ l a, (State.reset.mems.lane l).byte a = 0) ∧
  (∀ l f, (State.reset.dev.lane l).rd f = f.reset ∧ (State.reset.dev.lane l).powered = false) ∧
  (∀ c f, (State.reset.dev.comp c).rd f = f.reset ∧ (State.reset.dev.comp c).powered = false) ∧
  (∀ f, State.reset.dev.wit.rd f = f.reset) ∧ State.reset.dev.wit.powered = false

/-! ### Instruction words of the Chord engine -/

/-- Decoding the word of a well-formed instruction gives the instruction back, with every operand at every value. -/
def Obligations.DecodeEncode : Prop :=
  ∀ (i : Instr) (q : Issue) (w : BitVec 32), i.wf = true → chordIssue i = some q → encodeChord i = some w →
    ∃ tm, decodeChord q tm w = some i

/-- Words written out from the encodings of R39 to R53 decode to the instructions they stand for, and unassigned ones to
nothing. -/
def Obligations.WordsDecode : Prop :=
  let q : Issue := { lane := .A, half1 := false, pg := 0, pn := false, fetch := .clean, data := .clean, strikes := []
                     hits := [], phits := [], late := false, contend := [] }
  decodeChord q 0 0b000000_000_0_000011_000001_000010_0000#32 = some (.add q 3 1 2) ∧
  decodeChord q 0 0b000010_000_0_000101_000110_1111111111#32 = some (.addi q 5 6 (-1)) ∧
  decodeChord q 0 0b010011_010_1_001_010_011_000_0000000000#32 =
    some (.plog { q with pg := 2, pn := true } 1 .pxor 3 0) ∧
  decodeChord q 0 0b101000_000_0_000111_000001_0000000101#32 = some (.ld q 7 1 5) ∧
  decodeChord q 0 0b111001_000_0_1111111111111111111100#32 = some (.call q (-4)) ∧
  decodeChord q 0 0b001010_000001_10_00_0001001000110100#32 = some (.movz q 1 2 0x1234) ∧
  decodeChord q 9 0b111011_000_0_0000000000000000000000#32 = some (.seal q 9) ∧
  decodeChord q 0 0b000001_000_0_000001_000010_000011_1100#32 = none ∧
  decodeChord q 0 0b111111_000_0_0000000000000000000000#32 = none

/-! ### Register results of the Chord engine -/

/-- What a register result leaves (R37, R38, R49): `State.Wrote`, and every other register context of the lane stands. Every
instruction with a register result completes with one wherever it issues, its guard holds, its issues agree (R39, R106) and
its task enables no trap (R52), a division with a divisor other than 0 (R44); a predicate result likewise. -/
def Obligations.RegisterWriteBack : Prop :=
  (∀ (s : State) (q : Issue) (w : Issuer) (rd : BitVec 6) (v : Dword) (f : Flags), s.issues q w →
    s.Wrote (s.gives q w rd v f) q w rd v f ∧
      ∀ sl, sl ≠ w.slot → ((s.gives q w rd v f).dev.lane q.lane).ctxAt sl = (s.dev.lane q.lane).ctxAt sl) ∧
  ∀ (s : State) (q : Issue) (w : Issuer) (rd ra rb : BitVec 6) (imm : BitVec 10) (sh : BitVec 6) (hw : BitVec 2)
    (imm16 : BitVec 16) (pd pa pb : BitVec 3) (c : Cond) (fc : FCond) (pf : PFunc),
    let calm := (s.dev.lane q.lane).flag (Reg.CHE_TASK_CFG.TRAP_NV w.task) = false ∧
      (s.dev.lane q.lane).flag (Reg.CHE_TASK_CFG.TRAP_DZ w.task) = false
    let completes := fun (i : Instr) => ∃ t v f, exec i s = .next t ∧ s.WroteF t q w i rd v f
    let judges := fun (i : Instr) => ∃ t b f, exec i s = .next t ∧ s.JudgedF t q w i pd b f
    (∀ i ∈ [Instr.addi q rd ra imm, .andi q rd ra imm, .ori q rd ra imm, .xori q rd ra imm, .muli q rd ra imm,
        .slli q rd ra sh, .srli q rd ra sh, .srai q rd ra sh], s.plays q w i → completes i) ∧
    (∀ i ∈ [Instr.movz q rd hw imm16, .movk q rd hw imm16],
      s.issues q w → (∀ k, workOf i = some k → s.agrees q w k) → completes i) ∧
    (∀ i ∈ [Instr.add q rd ra rb, .sub q rd ra rb, .and q rd ra rb, .or q rd ra rb, .xor q rd ra rb, .andn q rd ra rb,
        .sll q rd ra rb, .srl q rd ra rb, .sra q rd ra rb, .mul q rd ra rb, .mulhs q rd ra rb, .mulhu q rd ra rb,
        .min q rd ra rb, .max q rd ra rb, .minu q rd ra rb, .maxu q rd ra rb], s.plays q w i → completes i) ∧
    (∀ i ∈ [Instr.div q rd ra rb, .divu q rd ra rb, .rem q rd ra rb, .remu q rd ra rb],
      s.plays q w i → (s.ctx q w).rg rb ≠ 0 → completes i) ∧
    (∀ i ∈ [Instr.abs q rd ra, .neg q rd ra, .clz q rd ra, .popc q rd ra, .sextw q rd ra, .zextw q rd ra, .satw q rd ra,
        .sath q rd ra], s.plays q w i → completes i) ∧
    (∀ i ∈ [Instr.qadd q rd ra rb, .qsub q rd ra rb, .qmul15 q rd ra rb, .qmul31 q rd ra rb, .qmac31 q rd ra rb,
        .qmsu31 q rd ra rb, .qabs q rd ra rb, .qneg q rd ra rb, .qshl q rd ra rb, .qrsr q rd ra rb, .qlim q rd ra rb],
      s.plays q w i → completes i) ∧
    (∀ i ∈ [Instr.fadd q rd ra rb, .fsub q rd ra rb, .fmul q rd ra rb, .fdiv q rd ra rb, .fsqrt q rd ra, .fmin q rd ra rb,
        .fmax q rd ra rb, .fabs q rd ra rb, .fneg q rd ra rb, .fmac q rd ra rb, .fmsc q rd ra rb, .fcvtws q rd ra rb,
        .fcvtsw q rd ra rb, .fcvtqs q rd ra rb, .fcvtsq q rd ra rb, .fclass q rd ra rb],
      s.plays q w i → calm → completes i) ∧
    (∀ i ∈ [Instr.sincos q rd ra, .atan2 q rd ra rb, .clarke q rd ra rb, .park q rd ra rb, .ipark q rd ra rb, .svm q rd ra],
      s.plays q w i → completes i) ∧
    (∀ i ∈ [Instr.cmp q pd c ra rb, .cmpi q pd c ra imm, .plog q pd pf pa pb], s.plays q w i → judges i) ∧
    (s.plays q w (.fcmp q pd fc ra rb) → calm → judges (.fcmp q pd fc ra rb))

/-- An instruction whose guard is false has no effect but to move the run to the next instruction (R39); an illegal word
raises ILLEGAL whatever its guard. It speaks of an instruction that issues and whose issues agree (R106). -/
def Obligations.GuardOff : Prop :=
  ∀ (s : State) (q : Issue) (w : Issuer), s.issues q w → (s.ctx q w).guard q.pg q.pn = false →
    (∀ i : Instr, chordIssue i = some q → (∀ u, i ≠ .illegalEncoding q u) →
      (∀ rd hw imm, i ≠ .movz q rd hw imm ∧ i ≠ .movk q rd hw imm) → (∀ k, workOf i = some k → s.agrees q w k) →
      ∃ t, exec i s = .next t ∧ t.mems = s.mems ∧ s.At t q w ((s.ctx q w).pc + 4) ∧ s.Flagged t q w {} ∧
        (∀ n < 16, (t.dev.lane q.lane).rd (Reg.CHE_TASK_STAT.LAST_EXC n) = (s.dev.lane q.lane).rd (Reg.CHE_TASK_STAT.LAST_EXC n) ∧
          (t.dev.lane q.lane).rd (Reg.CHE_TASK_STAT.EXC_CNT n) = (s.dev.lane q.lane).rd (Reg.CHE_TASK_STAT.EXC_CNT n)) ∧
        (∀ l, l ≠ q.lane → t.dev.lane l = s.dev.lane l) ∧ (∀ c, (t.dev.comp c).regs = (s.dev.comp c).regs)) ∧
    ∀ word, decodeChord q 0 word = none → s.agrees q w workIllegal → exec (.illegalEncoding q word) s = .next (s.excepted q w excIllegal 0)

/-- The immediate instructions of R41: sign-extended for ADDI and MULI, zero-extended for the logic, a 6-bit amount for the
shifts. It speaks of an instruction that issues, whose guard holds and whose issues agree (R39, R106). -/
def Obligations.ImmediateResults : Prop :=
  ∀ (s : State) (q : Issue) (w : Issuer) (rd ra : BitVec 6) (imm : BitVec 10) (sh : BitVec 6),
    let a := (s.ctx q w).rg ra
    let gives := fun (i : Instr) (v : Dword) => s.plays q w i → exec i s = .next (s.gives q w rd v {})
    (∀ e ∈ [(0x02#6, Instr.addi q rd ra imm), (0x03, .andi q rd ra imm), (0x04, .ori q rd ra imm), (0x05, .xori q rd ra imm),
      (0x09, .muli q rd ra imm)], decodeChord q 0 (wordI e.1 q rd ra imm) = some e.2) ∧
    (∀ e ∈ [(0x06#6, Instr.slli q rd ra sh), (0x07, .srli q rd ra sh), (0x08, .srai q rd ra sh)], ∀ hi : BitVec 4,
      decodeChord q 0 (wordI e.1 q rd ra (hi ++ sh)) = if hi = 0 then some e.2 else none) ∧
    gives (.addi q rd ra imm) (a + imm.signExtend 64) ∧
    gives (.andi q rd ra imm) (a &&& imm.zeroExtend 64) ∧
    gives (.ori q rd ra imm) (a ||| imm.zeroExtend 64) ∧
    gives (.xori q rd ra imm) (a ^^^ imm.zeroExtend 64) ∧
    gives (.slli q rd ra sh) (a <<< sh.toNat) ∧
    gives (.srli q rd ra sh) (a >>> sh.toNat) ∧
    gives (.srai q rd ra sh) (a.sshiftRight sh.toNat) ∧
    gives (.muli q rd ra imm) (BitVec.ofInt 64 (a.toInt * imm.toInt))

/-- MOVZ and MOVK (R41), which have no guard (R39), where they issue and their issues agree (R106): bit `i` of the result
comes from imm16 where it lies in field hw, else it is 0 or the bit of rd. -/
def Obligations.MoveWideResults : Prop :=
  ∀ (s : State) (q : Issue) (w : Issuer) (rd : BitVec 6) (hw : BitVec 2) (imm : BitVec 16), s.issues q w →
    decodeChord q 0 (wordU 0x0A rd hw imm) = some (.movz { q with pg := 0, pn := false } rd hw imm) ∧
    decodeChord q 0 (wordU 0x0B rd hw imm) = some (.movk { q with pg := 0, pn := false } rd hw imm) ∧
    (s.agrees q w (workMovz rd hw imm) → ∃ v, exec (.movz q rd hw imm) s = .next (s.gives q w rd v {}) ∧ ∀ i < 64, v.getLsbD i =
      (if 16 * hw.toNat ≤ i ∧ i < 16 * hw.toNat + 16 then imm.getLsbD (i - 16 * hw.toNat) else false)) ∧
    (s.agrees q w (workMovk rd hw imm) → ∃ v, exec (.movk q rd hw imm) s = .next (s.gives q w rd v {}) ∧ ∀ i < 64, v.getLsbD i =
      (if 16 * hw.toNat ≤ i ∧ i < 16 * hw.toNat + 16 then imm.getLsbD (i - 16 * hw.toNat)
        else ((s.ctx q w).rg rd).getLsbD i))

/-- The register instructions of INT, opcode 0x00 by function (R42): wrapping sums and products, the halves of the 128-bit
products, shifts by rb[5:0], and the minima and maxima. It speaks of an instruction that issues, whose guard holds and whose
issues agree (R39, R106). -/
def Obligations.IntegerResults : Prop :=
  ∀ (s : State) (q : Issue) (w : Issuer) (rd ra rb : BitVec 6),
    let a := (s.ctx q w).rg ra
    let b := (s.ctx q w).rg rb
    let gives := fun (i : Instr) (v : Dword) => s.plays q w i → exec i s = .next (s.gives q w rd v {})
    decodesR 0x00 q rd ra rb [.add q rd ra rb, .sub q rd ra rb, .and q rd ra rb, .or q rd ra rb, .xor q rd ra rb,
      .andn q rd ra rb, .sll q rd ra rb, .srl q rd ra rb, .sra q rd ra rb, .mul q rd ra rb, .mulhs q rd ra rb,
      .mulhu q rd ra rb, .min q rd ra rb, .max q rd ra rb, .minu q rd ra rb, .maxu q rd ra rb] ∧
    gives (.add q rd ra rb) (a + b) ∧ gives (.sub q rd ra rb) (a - b) ∧
    gives (.and q rd ra rb) (a &&& b) ∧ gives (.or q rd ra rb) (a ||| b) ∧
    gives (.xor q rd ra rb) (a ^^^ b) ∧ gives (.andn q rd ra rb) (a &&& ~~~b) ∧
    gives (.sll q rd ra rb) (a <<< (b.toNat % 64)) ∧ gives (.srl q rd ra rb) (a >>> (b.toNat % 64)) ∧
    gives (.sra q rd ra rb) (a.sshiftRight (b.toNat % 64)) ∧
    gives (.mul q rd ra rb) (BitVec.ofInt 64 (a.toInt * b.toInt)) ∧
    gives (.mulhs q rd ra rb) (BitVec.ofInt 64 (a.toInt * b.toInt / 2 ^ 64)) ∧
    gives (.mulhu q rd ra rb) (BitVec.ofNat 64 (a.toNat * b.toNat / 2 ^ 64)) ∧
    gives (.min q rd ra rb) (BitVec.ofInt 64 (min a.toInt b.toInt)) ∧
    gives (.max q rd ra rb) (BitVec.ofInt 64 (max a.toInt b.toInt)) ∧
    gives (.minu q rd ra rb) (BitVec.ofNat 64 (min a.toNat b.toNat)) ∧
    gives (.maxu q rd ra rb) (BitVec.ofNat 64 (max a.toNat b.toNat))

/-- Division (R43, R44): quotients truncated toward zero, remainders with the sign of ra, −2^63 ÷ −1 wrapping to −2^63 with
remainder 0; rb = 0 takes exception DIVZERO. It speaks of an instruction that issues, whose guard holds and whose issues agree
(R39, R106). -/
def Obligations.DivisionResults : Prop :=
  ∀ (s : State) (q : Issue) (w : Issuer) (rd ra rb : BitVec 6),
    let a := (s.ctx q w).rg ra
    let b := (s.ctx q w).rg rb
    let gives := fun (i : Instr) (v : Dword) => s.plays q w i → exec i s = .next (s.gives q w rd v {})
    (b ≠ 0 → gives (.div q rd ra rb) (BitVec.ofInt 64 (a.toInt.tdiv b.toInt)) ∧
      gives (.divu q rd ra rb) (BitVec.ofNat 64 (a.toNat / b.toNat)) ∧
      gives (.rem q rd ra rb) (BitVec.ofInt 64 (a.toInt.tmod b.toInt)) ∧
      gives (.remu q rd ra rb) (BitVec.ofNat 64 (a.toNat % b.toNat))) ∧
    (b = 0 → ∀ i ∈ [Instr.div q rd ra rb, .divu q rd ra rb, .rem q rd ra rb, .remu q rd ra rb],
      s.plays q w i → exec i s = .next (s.excepted q w excDivZero 0))

/-- The instructions of INTX, opcode 0x01 by function (R43): quotients truncated toward zero and remainders, −2^63 ÷ −1
wrapping; ABS and NEG wrap at −2^63, CLZ of 0 is 64, POPC counts, the extensions take ra[31:0], and the clamps set SAT when
they change the number. 0xC to 0xF are not assigned; a one-operand function with a non-zero rb is no instruction either, and
such a word raises ILLEGAL (R40). It speaks of an instruction that issues, whose guard holds and whose issues agree (R39,
R106). -/
def Obligations.UnaryResults : Prop :=
  ∀ (s : State) (q : Issue) (w : Issuer) (rd ra rb : BitVec 6),
    let a := (s.ctx q w).rg ra
    let b := (s.ctx q w).rg rb
    let gives := fun (i : Instr) (v : Dword) => s.plays q w i → exec i s = .next (s.gives q w rd v {})
    let clamp := fun (i : Instr) (lo hi : Int) => s.plays q w i →
      exec i s = .next (s.gives q w rd (BitVec.ofInt 64 (max lo (min hi a.toInt))) { sat := decide (a.toInt < lo ∨ hi < a.toInt) })
    decodesR 0x01 q rd ra 0 [.div q rd ra 0, .divu q rd ra 0, .rem q rd ra 0, .remu q rd ra 0, .abs q rd ra, .neg q rd ra,
      .clz q rd ra, .popc q rd ra, .sextw q rd ra, .zextw q rd ra, .satw q rd ra, .sath q rd ra] ∧
    (rb ≠ 0 → decodesR 0x01 q rd ra rb [.div q rd ra rb, .divu q rd ra rb, .rem q rd ra rb, .remu q rd ra rb]) ∧
    (∀ k < 16, (12 ≤ k ∨ (4 ≤ k ∧ rb ≠ 0)) → s.issues q w → s.agrees q w workIllegal →
      exec (.illegalEncoding q (wordR 0x01 q rd ra rb (BitVec.ofNat 4 k))) s = .next (s.excepted q w excIllegal 0)) ∧
    (b ≠ 0 → gives (.div q rd ra rb) (BitVec.ofInt 64 (a.toInt.tdiv b.toInt)) ∧
      gives (.divu q rd ra rb) (BitVec.ofNat 64 (a.toNat / b.toNat)) ∧
      gives (.rem q rd ra rb) (BitVec.ofInt 64 (a.toInt.tmod b.toInt)) ∧
      gives (.remu q rd ra rb) (BitVec.ofNat 64 (a.toNat % b.toNat))) ∧
    gives (.abs q rd ra) (BitVec.ofInt 64 a.toInt.natAbs) ∧ gives (.neg q rd ra) (-a) ∧
    gives (.clz q rd ra) (BitVec.ofNat 64 (if a = 0 then 64 else 63 - a.toNat.log2)) ∧
    gives (.popc q rd ra) (BitVec.ofNat 64 ((List.range 64).countP (fun i => a.getLsbD i))) ∧
    gives (.sextw q rd ra) ((a.truncate 32).signExtend 64) ∧
    gives (.zextw q rd ra) ((a.truncate 32).zeroExtend 64) ∧
    clamp (.satw q rd ra) (-2147483648) 2147483647 ∧ clamp (.sath q rd ra) (-32768) 32767

/-- CMP, CMPI and PLOG (R45, R46): the word and the predicate of each condition and function; PLOG function 0b111 is not
assigned. It speaks of an instruction that issues, whose guard holds and whose issues agree (R39, R106). -/
def Obligations.PredicateResults : Prop :=
  ∀ (s : State) (q : Issue) (w : Issuer) (pd pa pb : BitVec 3) (ra rb : BitVec 6) (imm : BitVec 10),
    let a := (s.ctx q w).rg ra
    let judges := fun (i : Instr) (b : Bool) => s.plays q w i → ∃ t, exec i s = .next t ∧ s.Judged t q w pd b {}
    let pair := fun (c : Cond) (f : Dword → Bool) =>
      judges (.cmp q pd c ra rb) (f ((s.ctx q w).rg rb)) ∧ judges (.cmpi q pd c ra imm) (f (imm.signExtend 64))
    let x := (s.ctx q w).rp pa
    let y := (s.ctx q w).rp pb
    let conds := [Cond.eq, .ne, .lt, .ge, .ltu, .geu, .tst, .ntst]
    decodesC 0x11 q pd ra (rb ++ 0#4) (conds.map (fun c => .cmp q pd c ra rb)) ∧
    decodesC 0x12 q pd ra imm (conds.map (fun c => .cmpi q pd c ra imm)) ∧
    (∀ k < 8, decodeChord q 0 (wordP 0x13 q pd (BitVec.ofNat 3 k) pa pb) =
      ([PFunc.pand, .por, .pxor, .pandn, .porn, .pset, .pclr].map (fun f => Instr.plog q pd f pa pb))[k]?) ∧
    pair .eq (fun b => decide (a = b)) ∧ pair .ne (fun b => decide (a ≠ b)) ∧
    pair .lt (fun b => decide (a.toInt < b.toInt)) ∧ pair .ge (fun b => decide (b.toInt ≤ a.toInt)) ∧
    pair .ltu (fun b => decide (a.toNat < b.toNat)) ∧ pair .geu (fun b => decide (b.toNat ≤ a.toNat)) ∧
    pair .tst (fun b => decide (a &&& b ≠ 0)) ∧ pair .ntst (fun b => decide (a &&& b = 0)) ∧
    judges (.plog q pd .pand pa pb) (x && y) ∧ judges (.plog q pd .por pa pb) (x || y) ∧
    judges (.plog q pd .pxor pa pb) (x != y) ∧ judges (.plog q pd .pandn pa pb) (x && !y) ∧
    judges (.plog q pd .porn pa pb) (x || !y) ∧ judges (.plog q pd .pset pa pb) true ∧
    judges (.plog q pd .pclr pa pb) false

/-- The fixed-point instructions of opcode 0x10 by function (R47; 0xB to 0xF are not assigned): exact results rounded half up,
clamped to the format, with SAT where the clamp changed the number. It speaks of an instruction that issues, whose guard holds
and whose issues agree (R39, R106). -/
def Obligations.FixedPointResults : Prop :=
  ∀ (s : State) (q : Issue) (w : Issuer) (rd ra rb : BitVec 6),
    let a := q31 ((s.ctx q w).rg ra)
    let b := q31 ((s.ctx q w).rg rb)
    let d := q31 ((s.ctx q w).rg rd)
    let h := q15 ((s.ctx q w).rg ra) * q15 ((s.ctx q w).rg rb)
    let n := ((s.ctx q w).rg rb).toNat % 32
    let clamp := fun (i : Instr) (lo hi x : Int) => s.plays q w i →
      exec i s = .next (s.gives q w rd (BitVec.ofInt 64 (max lo (min hi x))) { sat := decide (x < lo ∨ hi < x) })
    let sat := fun (i : Instr) (x : Int) => clamp i (-2147483648) 2147483647 x
    let lim : Int := min b.natAbs 2147483647
    decodesR 0x10 q rd ra rb [.qadd q rd ra rb, .qsub q rd ra rb, .qmul15 q rd ra rb, .qmul31 q rd ra rb, .qmac31 q rd ra rb,
      .qmsu31 q rd ra rb, .qabs q rd ra rb, .qneg q rd ra rb, .qshl q rd ra rb, .qrsr q rd ra rb, .qlim q rd ra rb] ∧
    sat (.qadd q rd ra rb) (a + b) ∧ sat (.qsub q rd ra rb) (a - b) ∧
    clamp (.qmul15 q rd ra rb) (-32768) 32767 ((h + 2 ^ 14) / 2 ^ 15) ∧
    sat (.qmul31 q rd ra rb) ((a * b + 2 ^ 30) / 2 ^ 31) ∧
    sat (.qmac31 q rd ra rb) (d + (a * b + 2 ^ 30) / 2 ^ 31) ∧
    sat (.qmsu31 q rd ra rb) (d - (a * b + 2 ^ 30) / 2 ^ 31) ∧
    sat (.qabs q rd ra rb) a.natAbs ∧ sat (.qneg q rd ra rb) (-a) ∧
    sat (.qshl q rd ra rb) (a * 2 ^ n) ∧
    (s.plays q w (.qrsr q rd ra rb) → exec (.qrsr q rd ra rb) s =
      .next (s.gives q w rd (BitVec.ofInt 64 (if n = 0 then a else (a + 2 ^ (n - 1)) / 2 ^ n)) {})) ∧
    clamp (.qlim q rd ra rb) (-lim) lim a

/-- The words of FP by function, and its binary32 arithmetic (R50) where the operation sets no flag whose trap (R52) the task
enables: the result with bits [63:32] zero, and the IEEE flags joined to the sticky ones. FSQRT declares rb 0. It speaks of an
instruction that issues, whose guard holds and whose issues agree (R39, R106). -/
def Obligations.FloatResults : Prop :=
  ∀ (s : State) (q : Issue) (w : Issuer) (rd ra rb : BitVec 6),
    let a := f32 ((s.ctx q w).rg ra)
    let b := f32 ((s.ctx q w).rg rb)
    let d := f32 ((s.ctx q w).rg rd)
    let gives := fun (i : Instr) (r : BitVec 32 × Flags) => s.plays q w i →
      (r.2.nv && (s.dev.lane q.lane).flag (Reg.CHE_TASK_CFG.TRAP_NV w.task) ||
        r.2.dz && (s.dev.lane q.lane).flag (Reg.CHE_TASK_CFG.TRAP_DZ w.task)) = false →
      ∃ t, exec i s = .next t ∧ s.WroteF t q w i rd (r.1.zeroExtend 64) r.2
    (∀ k < 16, decodeChord q 0 (wordR 0x18 q rd ra rb (BitVec.ofNat 4 k)) = if k = 4 ∧ rb ≠ 0 then none else
      [Instr.fadd q rd ra rb, .fsub q rd ra rb, .fmul q rd ra rb, .fdiv q rd ra rb, .fsqrt q rd ra, .fmin q rd ra rb,
        .fmax q rd ra rb, .fabs q rd ra rb, .fneg q rd ra rb, .fmac q rd ra rb, .fmsc q rd ra rb, .fcvtws q rd ra rb,
        .fcvtsw q rd ra rb, .fcvtqs q rd ra rb, .fcvtsq q rd ra rb, .fclass q rd ra rb][k]?) ∧
    gives (.fadd q rd ra rb) (fAdd a b) ∧ gives (.fsub q rd ra rb) (fSub a b) ∧ gives (.fmul q rd ra rb) (fMul a b) ∧
    gives (.fdiv q rd ra rb) (fDiv a b) ∧ gives (.fsqrt q rd ra) (fSqrt a) ∧ gives (.fmin q rd ra rb) (fMinMax true a b) ∧
    gives (.fmax q rd ra rb) (fMinMax false a b) ∧ gives (.fabs q rd ra rb) (a &&& 0x7FFFFFFF#32, {}) ∧
    gives (.fneg q rd ra rb) (a ^^^ 0x80000000#32, {}) ∧ gives (.fmac q rd ra rb) (fFma false d a b) ∧
    gives (.fmsc q rd ra rb) (fFma true d a b)

/-- The conversions, FCLASS and FCMP (R50, R51) where the operation sets no flag whose trap (R52) the task enables. It speaks
of an instruction that issues, whose guard holds and whose issues agree (R39, R106). -/
def Obligations.FloatConversions : Prop :=
  ∀ (s : State) (q : Issue) (w : Issuer) (rd ra rb : BitVec 6) (pd : BitVec 3) (c : FCond),
    let a := f32 ((s.ctx q w).rg ra)
    let b := f32 ((s.ctx q w).rg rb)
    let i := ((((s.ctx q w).rg ra).truncate 32 : BitVec 32)).toInt
    let free := fun f : Flags => (f.nv && (s.dev.lane q.lane).flag (Reg.CHE_TASK_CFG.TRAP_NV w.task) ||
      f.dz && (s.dev.lane q.lane).flag (Reg.CHE_TASK_CFG.TRAP_DZ w.task)) = false
    let gives := fun (i : Instr) (v : Dword) (f : Flags) => s.plays q w i → free f → ∃ t, exec i s = .next t ∧ s.Wrote t q w rd v f
    decodesC 0x19 q pd ra (rb ++ 0#4) ([FCond.feq, .fne, .flt, .fge, .funord].map (fun c => .fcmp q pd c ra rb)) ∧
    gives (.fcvtws q rd ra rb) (BitVec.ofInt 64 (fToI32 a 0).1) (fToI32 a 0).2 ∧
    gives (.fcvtqs q rd ra rb) (BitVec.ofInt 64 (fToI32 a 31).1) (fToI32 a 31).2 ∧
    gives (.fcvtsw q rd ra rb) ((fOfInt i 0).1.zeroExtend 64) (fOfInt i 0).2 ∧
    gives (.fcvtsq q rd ra rb) ((fOfInt i 31).1.zeroExtend 64) (fOfInt i 31).2 ∧
    gives (.fclass q rd ra rb) (BitVec.ofNat 64 (fClass a)) {} ∧
    (s.plays q w (.fcmp q pd c ra rb) → free (fCmp c a b).2 →
      ∃ t, exec (.fcmp q pd c ra rb) s = .next t ∧ s.JudgedF t q w (.fcmp q pd c ra rb) pd (fCmp c a b).1 (fCmp c a b).2)

/-- FP_TRAP (R52): with the task's trap enabled, an operation that would set NV, or DZ, takes the exception instead and writes
nothing (a shadow that fell back, R113, has been counted before); without NV or DZ under an enabled trap, whatever OF, UF and
NX, it goes on. It speaks of an instruction that issues, whose guard holds and whose issues agree (R39, R106). -/
def Obligations.FloatTraps : Prop :=
  ∀ (s : State) (q : Issue) (w : Issuer) (rd ra rb : BitVec 6) (pd : BitVec 3) (c : FCond),
    let a := f32 ((s.ctx q w).rg ra)
    let b := f32 ((s.ctx q w).rg rb)
    let d := f32 ((s.ctx q w).rg rd)
    let traps := fun (i : Instr) (f : Flags) => s.plays q w i →
      let on := f.nv && (s.dev.lane q.lane).flag (Reg.CHE_TASK_CFG.TRAP_NV w.task) ||
        f.dz && (s.dev.lane q.lane).flag (Reg.CHE_TASK_CFG.TRAP_DZ w.task)
      (on = true → ∃ e : Dev, exec i s = .next { s with dev := e.except q.lane w excFpTrap 0 } ∧
        (e = s.fetched q ∨ e = (s.fetched q).rangeEvent q.lane w)) ∧
      (on = false → ∃ t, exec i s = .next t ∧ (t.ctx q w).pc = (s.ctx q w).pc + 4)
    traps (.fadd q rd ra rb) (fAdd a b).2 ∧ traps (.fsub q rd ra rb) (fSub a b).2 ∧
    traps (.fmul q rd ra rb) (fMul a b).2 ∧ traps (.fdiv q rd ra rb) (fDiv a b).2 ∧ traps (.fsqrt q rd ra) (fSqrt a).2 ∧
    traps (.fmin q rd ra rb) (fMinMax true a b).2 ∧ traps (.fmax q rd ra rb) (fMinMax false a b).2 ∧
    traps (.fmac q rd ra rb) (fFma false d a b).2 ∧ traps (.fmsc q rd ra rb) (fFma true d a b).2 ∧
    traps (.fcvtws q rd ra rb) (fToI32 a 0).2 ∧ traps (.fcvtqs q rd ra rb) (fToI32 a 31).2 ∧
    traps (.fcmp q pd c ra rb) (fCmp c a b).2

/-- The words of MOTOR by function (0x6 to 0xF are not assigned; SINCOS and SVM declare rb 0), and the motor primitives (R53
to R55, R483): packed pairs of Q31 results rounded once and clamped once, and the duties of SVM. It speaks of an instruction
that issues, whose guard holds and whose issues agree (R39, R106). -/
def Obligations.MotorResults : Prop :=
  ∀ (s : State) (q : Issue) (w : Issuer) (rd ra rb : BitVec 6),
    let a := (s.ctx q w).rg ra
    let b := (s.ctx q w).rg rb
    let al := q31 a
    let be := q31hi a
    let co := q31 b
    let si := q31hi b
    let r31 := fun p : Int => (p + 2 ^ 30) / 2 ^ 31
    let sat := fun x : Int => max (-2147483648) (min 2147483647 x)
    let out := fun (x : Int) => decide (x < -2147483648 ∨ 2147483647 < x)
    let gives := fun (i : Instr) (v : Dword) (f : Flags) => s.plays q w i → exec i s = .next (s.gives q w rd v f)
    let two := fun (i : Instr) (x y : Int) =>
      gives i (BitVec.ofInt 32 (sat y) ++ BitVec.ofInt 32 (sat x)) { sat := out x || out y }
    (∀ k < 16, decodeChord q 0 (wordR 0x20 q rd ra rb (BitVec.ofNat 4 k)) = if (k = 0 ∨ k = 5) ∧ rb ≠ 0 then none else
      [Instr.sincos q rd ra, .atan2 q rd ra rb, .clarke q rd ra rb, .park q rd ra rb, .ipark q rd ra rb, .svm q rd ra][k]?) ∧
    two (.park q rd ra rb) (r31 (al * co + be * si)) (r31 (be * co - al * si)) ∧
    two (.ipark q rd ra rb) (r31 (al * co - be * si)) (r31 (al * si + be * co)) ∧
    two (.clarke q rd ra rb) al (r31 ((al + 2 * co) * 0x49E69D16)) ∧
    gives (.sincos q rd ra) (BitVec.ofInt 32 (sincos (a.truncate 32)).2 ++ BitVec.ofInt 32 (sincos (a.truncate 32)).1) {} ∧
    gives (.atan2 q rd ra rb) (BitVec.ofInt 32 (atan2 al co).2.1 ++ BitVec.ofInt 32 (atan2 al co).1)
      { sat := (atan2 al co).2.2 } ∧
    gives (.svm q rd ra) (svm al be).1 (svm al be).2

/-! ### Memory accesses, control flow and exceptions of the Chord engine -/

/-- The address of a load or store: ra plus the sign-extended offset scaled by the access size, modulo 2^64 (R56). -/
def Obligations.EffectiveAddress : Prop :=
  ∀ (c : Ctx) (ra : BitVec 6) (off : BitVec 10), ∀ n ∈ [1, 2, 4, 8],
    (effAddr c ra off n : Int) = (((c.rg ra).toNat : Int) + off.toInt * n) % 2 ^ 64

/-- Loads of an activation (R56, R332, R340): the bytes at the effective address in little-endian order, sign-extended by LW,
LH and LB; memory and every other register stand. It speaks of an instruction that issues, whose guard holds and whose issues
agree (R39, R106). -/
def Obligations.LoadResults : Prop :=
  ∀ (s : State) (q : Issue) (w : Issuer) (h1 : Bool) (rd ra : BitVec 6) (off : BitVec 10), w.slot = .half h1 →
    let loads := fun (i : Instr) (n : Nat) (signed : Bool) => s.plays q w i →
      let a := effAddr (s.ctx q w) ra off n
      let v := leNat ((s.mems.lane q.lane).bytes a n)
      s.granted q w h1 a n ((s.dev.lane q.lane).mayLoad w.task a) →
      (s.mems.lane q.lane).outcome (a / 8) q.data = none →
      ∃ t, exec i s = .next t ∧ s.Wrote t q w rd
        (if signed then (BitVec.ofNat (8 * n) v).signExtend 64 else BitVec.ofNat 64 v) {}
    (∀ e ∈ [(0x28#6, Instr.ld q rd ra off), (0x29, .lw q rd ra off), (0x2A, .lwu q rd ra off), (0x2B, .lh q rd ra off),
      (0x2C, .lhu q rd ra off), (0x2D, .lb q rd ra off), (0x2E, .lbu q rd ra off)],
      decodeChord q 0 (wordI e.1 q rd ra off) = some e.2) ∧
    loads (.ld q rd ra off) 8 false ∧ loads (.lw q rd ra off) 4 true ∧ loads (.lwu q rd ra off) 4 false ∧
    loads (.lh q rd ra off) 2 true ∧ loads (.lhu q rd ra off) 2 false ∧ loads (.lb q rd ra off) 1 true ∧
    loads (.lbu q rd ra off) 1 false

/-- Stores of an activation (R56, R331): the low bytes of rs at the effective address in little-endian order; every other byte
of the lane's memory, every other lane's memory and every register of the run stand. It speaks of an instruction that issues,
whose guard holds and whose issues agree (R39, R106). -/
def Obligations.StoreResults : Prop :=
  ∀ (s : State) (q : Issue) (w : Issuer) (h1 : Bool) (rs ra : BitVec 6) (off : BitVec 10), w.slot = .half h1 →
    let stores := fun (i : Instr) (n : Nat) => s.plays q w i →
      let a := effAddr (s.ctx q w) ra off n
      s.granted q w h1 a n ((s.dev.lane q.lane).mayStore w.task a) →
      (n = 8 ∨ (s.mems.lane q.lane).outcome (a / 8) q.data = none) →
      ∃ t, exec i s = .next t ∧ t.pending = s.pending ∧ s.At t q w ((s.ctx q w).pc + 4) ∧
        (∀ k < n, (t.mems.lane q.lane).byte (a + k) = ((s.ctx q w).rg rs).extractLsb' (8 * k) 8) ∧
        (∀ b, b < a ∨ a + n ≤ b → (t.mems.lane q.lane).byte b = (s.mems.lane q.lane).byte b) ∧
        (∀ l, l ≠ q.lane → t.mems.lane l = s.mems.lane l)
    (∀ e ∈ [(0x30#6, Instr.sd q rs ra off), (0x31, .sw q rs ra off), (0x32, .sh q rs ra off), (0x33, .sb q rs ra off)],
      decodeChord q 0 (wordI e.1 q rs ra off) = some e.2) ∧
    stores (.sd q rs ra off) 8 ∧ stores (.sw q rs ra off) 4 ∧ stores (.sh q rs ra off) 2 ∧ stores (.sb q rs ra off) 1

/-- A candidate run's store stays in its bank's store buffer while it has room, and the buffer answers those bytes from then
on; memory stands (R93). It speaks of an instruction that issues, whose guard holds and whose issues agree (R39, R106). -/
def Obligations.CandidateStores : Prop :=
  ∀ (s : State) (q : Issue) (w : Issuer) (k : Nat) (rs ra : BitVec 6) (off : BitVec 10), w.slot = .bank k →
    let bank := fun (u : State) => Sparse.get ({} : Bank) (u.dev.lane q.lane).eng.banks k
    let stores := fun (i : Instr) (n : Nat) => s.plays q w i →
      let a := effAddr (s.ctx q w) ra off n
      a % n = 0 → (s.dev.lane q.lane).mayStore w.task a = true →
      (s.dev.lane q.lane).permitted 1 (groupOf (a / 8)) = true →
      ((bank s).sbuf.length < 64 ∨ (bank s).sbuf.any (fun e => e.word == a / 8) = true) →
      ∃ t, exec i s = .next t ∧ t.mems = s.mems ∧ s.At t q w ((s.ctx q w).pc + 4) ∧
        (∀ j < n, (bank t).sbByte (a + j) = some (((s.ctx q w).rg rs).extractLsb' (8 * j) 8)) ∧
        ∀ b, (b < a ∨ a + n ≤ b) → (bank t).sbByte b = (bank s).sbByte b
    stores (.sd q rs ra off) 8 ∧ stores (.sw q rs ra off) 4 ∧ stores (.sh q rs ra off) 2 ∧ stores (.sb q rs ra off) 1

/-- What an access meets before it reaches memory (R56, R57, R59, R65): a misaligned address takes ALIGN, one that no
partition grants PARTITION, one past the 16th access of a locked sequence LOCK_LEN, and one in a group whose mask bit is clear
BUS; memory stands. It speaks of an instruction that issues, whose guard holds and whose issues agree (R39, R106). Where the
words leave room, the model's reading of log entry 10. -/
def Obligations.AccessExceptions : Prop :=
  ∀ (s : State) (q : Issue) (w : Issuer) (h1 : Bool) (r ra : BitVec 6) (off : BitVec 10), w.slot = .half h1 →
    let x := s.dev.lane q.lane
    let meets := fun (i : Instr) (n : Nat) (may : Nat → Bool) => s.plays q w i →
      let a := effAddr (s.ctx q w) ra off n
      (a % n ≠ 0 → exec i s = .next (s.excepted q w excAlign 0)) ∧
      (a % n = 0 → may a = false → exec i s = .next (s.excepted q w excPartition 0)) ∧
      (a % n = 0 → may a = true → (x.eng.half h1).locks ≠ [] → 16 ≤ (x.eng.half h1).beats →
        exec i s = .next (s.excepted q w excLockLen 0)) ∧
      (a % n = 0 → may a = true → (x.eng.half h1).locks = [] → x.permitted 1 (groupOf (a / 8)) = false →
        exec i s = .next (s.excepted q w excBus 0))
    meets (.ld q r ra off) 8 (x.mayLoad w.task) ∧ meets (.lw q r ra off) 4 (x.mayLoad w.task) ∧
    meets (.lwu q r ra off) 4 (x.mayLoad w.task) ∧ meets (.lh q r ra off) 2 (x.mayLoad w.task) ∧
    meets (.lhu q r ra off) 2 (x.mayLoad w.task) ∧ meets (.lb q r ra off) 1 (x.mayLoad w.task) ∧
    meets (.lbu q r ra off) 1 (x.mayLoad w.task) ∧ meets (.sd q r ra off) 8 (x.mayStore w.task) ∧
    meets (.sw q r ra off) 4 (x.mayStore w.task) ∧ meets (.sh q r ra off) 2 (x.mayStore w.task) ∧
    meets (.sb q r ra off) 1 (x.mayStore w.task)

/-- BR, CALL and JR (R41, R58): the target is PC plus the sign-extended offset times 4, or the register's value; CALL writes
PC + 4 to g63. A target outside the task's code takes PARTITION, and a JR to an address that is no multiple of 4 ALIGN. It
speaks of an instruction that issues, whose guard holds and whose issues agree (R39, R106). -/
def Obligations.BranchResults : Prop :=
  ∀ (s : State) (q : Issue) (w : Issuer) (ra : BitVec 6) (off : BitVec 22),
    let c := s.ctx q w
    let x := s.dev.lane q.lane
    let t := (c.pc.toNat : Int) + off.toInt * 4
    let j := (c.rg ra).toNat
    let br := s.plays q w (.br q off)
    let call := s.plays q w (.call q off)
    let jr := s.plays q w (.jr q ra)
    let inCode := fun (t : Int) => 0 ≤ t ∧ t < 2 ^ 22 ∧ x.mayFetch w.task t.toNat = true
    decodeChord q 0 (wordB 0x38 q off) = some (.br q off) ∧ decodeChord q 0 (wordB 0x39 q off) = some (.call q off) ∧
    decodeChord q 0 (wordR 0x3A q 0 ra 0 0) = some (.jr q ra) ∧
    (br → inCode t → ∃ u, exec (.br q off) s = .next u ∧ s.At u q w (BitVec.ofInt 22 t) ∧ s.AloneIn u q) ∧
    (call → inCode t → ∃ u, exec (.call q off) s = .next u ∧ (u.ctx q w).rg 63 = (c.pc + 4).zeroExtend 64 ∧
      (∀ r, r ≠ 63 → (u.ctx q w).rg r = c.rg r) ∧ (∀ p, (u.ctx q w).rp p = c.rp p) ∧
      (u.ctx q w).pc = BitVec.ofInt 22 t ∧ s.AloneIn u q) ∧
    (br → ¬ inCode t → exec (.br q off) s = .next (s.excepted q w excPartition 0)) ∧
    (call → ¬ inCode t → exec (.call q off) s = .next (s.excepted q w excPartition 0)) ∧
    (jr → j % 4 = 0 → inCode j → ∃ u, exec (.jr q ra) s = .next u ∧ s.At u q w (BitVec.ofNat 22 j) ∧ s.AloneIn u q) ∧
    (jr → j % 4 ≠ 0 → exec (.jr q ra) s = .next (s.excepted q w excAlign 0)) ∧
    (jr → j % 4 = 0 → ¬ inCode j → exec (.jr q ra) s = .next (s.excepted q w excPartition 0))

/-- LKB and LKE (R59, R347): a group above those held is locked for the sequence, one already held stays; a group below a held
one ends with LOCK_ORDER in exception BUS; LKE releases every held group and, with no other run ready, goes on. In a candidate
run both have no effect. It speaks of an instruction that issues, whose guard holds and whose issues agree (R39, R106). Where
the words leave room, the model's reading of log entry 15. -/
def Obligations.LockResults : Prop :=
  (∀ (s : State) (q : Issue) (w : Issuer) (h1 : Bool) (g : BitVec 3), w.slot = .half h1 →
    let h := fun (u : State) => (u.dev.lane q.lane).eng.half h1
    let lkb := s.plays q w (.lkb q g)
    decodeChord q 0 (wordI 0x3C q 0 0 (0#7 ++ g)) = some (.lkb q g) ∧ decodeChord q 0 (wordR 0x3D q 0 0 0 0) = some (.lke q) ∧
    (lkb → (∀ k ∈ (h s).locks, k < g.toNat) → ∃ t, exec (.lkb q g) s = .next t ∧ (h t).locks = (h s).locks ++ [g.toNat] ∧
      s.At t q w ((s.ctx q w).pc + 4) ∧ s.AloneIn t q) ∧
    (lkb → g.toNat ∈ (h s).locks → ∃ t, exec (.lkb q g) s = .next t ∧ (h t).locks = (h s).locks ∧
      s.At t q w ((s.ctx q w).pc + 4) ∧ s.AloneIn t q) ∧
    (lkb → g.toNat ∉ (h s).locks → (∃ k ∈ (h s).locks, g.toNat < k) → ∃ e : Dev, e.Like ((s.fetched q).modLane q.lane (fun x =>
        (x.inc Reg.ARB_LOCKERR.ORDER).wr Reg.ARB_LOCKERR.LAST_SRC 1)) ∧
      exec (.lkb q g) s = .next { s with dev := e.except q.lane w excBus 0 }) ∧
    (s.plays q w (.lke q) → (h s).ready = [] → ((s.dev.lane q.lane).eng.half (!h1)).ready = [] →
      ∃ t, exec (.lke q) s = .next t ∧ (h t).locks = [] ∧ (h t).beats = 0 ∧ s.At t q w ((s.ctx q w).pc + 4) ∧
        s.AloneIn t q)) ∧
  ∀ (s : State) (q : Issue) (w : Issuer) (k : Nat) (g : BitVec 3), w.slot = .bank k →
    ∀ i ∈ [Instr.lkb q g, .lke q], s.plays q w i → ∃ t, exec i s = .next t ∧ s.At t q w ((s.ctx q w).pc + 4) ∧ s.AloneIn t q ∧
      (t.dev.lane q.lane).eng.h0 = (s.dev.lane q.lane).eng.h0 ∧ (t.dev.lane q.lane).eng.h1 = (s.dev.lane q.lane).eng.h1

/-- SEAL (R61, R69, R83, R95): an activation that seals at T_corr not later than t_A + BUDGET records its slack, hands its
output block to the release path and leaves its stream; a sealed candidate's bank keeps its result; a later seal is an
overrun. It speaks of an instruction that issues, whose guard holds and whose issues agree (R39, R106). Where the words leave
room, the model's reading of log entry 13. -/
def Obligations.SealResults : Prop :=
  ∀ (s : State) (q : Issue) (w : Issuer) (tm : Nat), s.plays q w (.seal q tm) →
    let l := q.lane
    let u : State := { s with now := s.instant tm, dev := s.upTo tm }
    decodeChord q tm (wordR 0x3B q 0 0 0 0) = some (.seal q tm) ∧
    (∀ h1 r c, w.slot = .half h1 → ((s.dev.lane l).eng.half h1).run = some r → s.dev.adopted l = some c →
      let tS := ((u.fetched q).laneTime l).1
      let budget := (s.dev.lane l).rd (Reg.CHE_TASK_BUDGET.BUDGET r.task)
      (tS ≤ r.tA + budget → exec (.seal q tm) s = .next { u with
        mems := (Dev.sealRun s.mems (u.fetched q) l c h1 r tS).1, dev := (Dev.sealRun s.mems (u.fetched q) l c h1 r tS).2 }) ∧
      (r.tA + budget < tS → exec (.seal q tm) s = .next { u with dev := (u.fetched q).overrun l r.task })) ∧
    (∀ k, w.slot = .bank k → ∃ t, exec (.seal q tm) s = .next t ∧ t.mems = s.mems ∧
      (Sparse.get ({} : Bank) (t.dev.lane l).eng.banks k).sealed = true ∧
      (t.dev.lane l).rd (Reg.CHE_SPEC_STAT.BUSY k) = 0)

/-- The release that a seal makes (R61, R69): the fields of the OUTPUT partition, for a task that has one; the slack registers
take BUDGET less the time used (R83). -/
def Obligations.SealRecords : Prop :=
  ∀ (x : Lane) (m : LaneMem) (r : Run) (tS slack : Nat), r.task < 16 →
    (x.hasOutput r.task = true → ∃ e, (x.releaseSeal m r tS).eng.outbox = x.eng.outbox ++ [e] ∧ e.task = r.task ∧
      e.tA = r.tA ∧ e.tSeal = tS ∧ e.key = r.key ∧ e.out.dutyU = m.num (x.baseOf r.task 6) 2 ∧
      e.out.dutyV = m.num (x.baseOf r.task 6 + 2) 2 ∧ e.out.dutyW = m.num (x.baseOf r.task 6 + 4) 2 ∧
      e.out.enable = (m.byte (x.baseOf r.task 6 + 6)).getLsbD 0 ∧ e.out.iLimit = m.num (x.baseOf r.task 6 + 8) 2 ∧
      e.out.sbcReq = m.num (x.baseOf r.task 6 + 0xA) 2 % 16 ∧
      e.out.fabOut = m.bytes (x.baseOf r.task 6 + 0x10) 48) ∧
    (x.hasOutput r.task = false → x.releaseSeal m r tS = x) ∧
    (slack < 2 ^ 20 → let y := x.slackSeal r.task slack
      y.rd (Reg.CHE_SLACK_LAST.SLACK r.task) = slack ∧ y.rd (Reg.CHE_SLACK_LAST.OVR r.task) = 0 ∧
      y.rd (Reg.CHE_SLACK_MIN.MIN r.task) = min slack (x.rd (Reg.CHE_SLACK_MIN.MIN r.task)) ∧
      y.rd (Reg.CHE_OVR_CNT.CONSEC r.task) = 0)

/-- TRAP and an illegal word take their exceptions (R39, R40, R60, R62): TRAP with its 8-bit code under its guard, ILLEGAL
whatever the guard. -/
def Obligations.TrapAndIllegal : Prop :=
  ∀ (s : State) (q : Issue) (w : Issuer) (code : BitVec 8) (word : BitVec 32),
    decodeChord q 0 (wordI 0x3E q 0 0 (0#2 ++ code)) = some (.trap q code) ∧
    (s.plays q w (.trap q code) → exec (.trap q code) s = .next (s.excepted q w excTrap code.toNat)) ∧
    (s.issues q w → s.agrees q w workIllegal → decodeChord q 0 word = none →
      exec (.illegalEncoding q word) s = .next (s.excepted q w excIllegal 0))

/-- What an exception leaves (R62, R63): LAST_EXC and EXC_CNT of the task, the event CHE_EXC as the latest record, the run
gone with its locks; one that follows no other unreleased activation of the task costs no lane. In a candidate run it
empties that bank alone (R64). -/
def Obligations.ExceptionEffect : Prop :=
  ∀ (d : Dev) (l : LaneId) (w : Issuer) (code trap : Nat), w.task < 16 → code < 16 →
    let n := w.task
    let e := d.except l w code trap
    let x := d.lane l
    let y := e.lane l
    (∀ h1, w.slot = .half h1 → x.powered = true → x.flag (Reg.CHE_OVR_CNT.CONSEC n) = false →
      y.rd (Reg.CHE_TASK_STAT.LAST_EXC n) = code ∧
      y.rd (Reg.CHE_TASK_STAT.EXC_CNT n) = min (x.rd (Reg.CHE_TASK_STAT.EXC_CNT n) + 1) (Reg.CHE_TASK_STAT.EXC_CNT n).max ∧
      y.flag (Reg.CHE_OVR_CNT.CONSEC n) = true ∧ y.rd Reg.EVT_STAT.LAST_ID = 16 ∧ y.st = x.st ∧
      ((x.eng.half h1).ready = [] → (y.eng.half h1).run = none) ∧ (∀ j, j ≠ l → (e.lane j).body = (d.lane j).body)) ∧
    (∀ k, w.slot = .bank k → k < 4 → (Sparse.get ({} : Bank) y.eng.banks k).empty = true ∧
      (∀ j, j ≠ k → Sparse.look y.eng.banks j = Sparse.look x.eng.banks j) ∧ y.eng.h0 = x.eng.h0)

/-! ### Events of the Chord engine -/

/-- Activations, sample blocks and releases (R17, R23, R68, R69, R71, R86, R87, R148, R149, R485): at t_A every task bound to
the PWM unit whose index qualifies is activated, or skipped while its previous activation lives; its sample block then
stands at its INPUT partition, and it may run; a release is held for the next reload by the companion that its lane
drives, which forgets the missing releases, and is ignored over a quarantined port or under EXTEST or a private test. The
sample block is that of a lane whose REQ_PERMIT allows the lane port in every group. Where the words leave room, the model's
reading of log entries 17, 20, 22 and 121. -/
def Obligations.ActivationEvents : Prop :=
  (∀ tm c b l, ActsM tm (.activation tm c b)
    (fun _ u => let x := u.comp c
      x.powered = true ∧ (x.bridge b).actDone = false ∧ (x.bridge b).lastC + x.actOfs b ≤ x.tcorr ∧ u.driver c = some l)
    (fun m u n v =>
      let x := u.comp c
      let y := x.bridge b
      let e := x.centreIdx b y.lastC
      ((v.comp c).bridge b).actDone = true ∧ (l ≠ .D → n = m) ∧
      ∀ k < 16, (u.lane l).rd (Reg.CHE_TASK_CFG.SRC k) = bit b → u.activates l = true → (u.lane l).taskAllowed k = true →
        e % ((u.lane l).rd (Reg.CHE_TASK_CFG.DIV k) + 1) = 0 →
        ((u.lane l).eng.liveRuns k = [] → ∃ r ∈ (v.lane l).eng.liveRuns k, r.tA = y.lastC + x.actOfs b ∧ r.key = y.lastC ∧
          r.idx = e / ((u.lane l).rd (Reg.CHE_TASK_CFG.DIV k) + 1) ∧ r.waits = true) ∧
        ((u.lane l).eng.liveRuns k ≠ [] → (v.lane l).rd (Reg.CHE_OVR_CNT.SKIP k) =
          min ((u.lane l).rd (Reg.CHE_OVR_CNT.SKIP k) + 1) (Reg.CHE_OVR_CNT.SKIP k).max))) ∧
  (∀ tm c b l r, ActsM tm (.sampleBlockStored tm c b)
    (fun _ u => let e := (u.lane l).eng
      u.driver c = some l ∧ ((u.lane l).partsOf r.task 5).isEmpty = false ∧
      (e.h0.ready ++ e.h1.ready).filter (fun r => r.waits && (u.lane l).rd (Reg.CHE_TASK_CFG.SRC r.task) == bit b) = [r] ∧
      (∀ q ∈ e.h0.run.toList ++ e.h1.run.toList, q.waits = false) ∧ ∀ g < 8, (u.lane l).permitted 6 g = true)
    (fun _ u n v =>
      (n.lane l).bytes ((u.lane l).baseOf r.task 5) 0xD0 = ((u.comp c).bridge b).samples.blocks r ∧
      ∀ q ∈ (v.lane l).eng.h0.ready ++ (v.lane l).eng.h1.ready, (u.lane l).rd (Reg.CHE_TASK_CFG.SRC q.task) = bit b →
        q.waits = false)) ∧
  (∀ tm l c r rest,
    Acts tm (.release tm l)
      (fun u => (u.lane l).eng.outbox = r :: rest ∧ u.adopted l = some c ∧ (u.comp c).powered = true ∧ u.driver c = some l ∧
        (u.lane l).tapBlocks = false)
      (fun u v =>
        let b := r.bridge == 1
        let y := (v.comp c).bridge b
        (v.lane l).eng.outbox = rest ∧ y.held = r.out ∧ y.fresh = true ∧ y.heldAt = (u.comp c).tcorr ∧
        y.meantFor = (u.comp c).nextReload b r.tA ∧ y.live = ((u.comp c).bridge b).live ∧
        (v.comp c).rd (missFld b) = 0 ∧ (v.comp c).rd (offFld b) = 0 ∧
        Sparse.look (v.lane l).fab.fabOut r.task = some r.out.fabOut) ∧
    Acts tm (.release tm l)
      (fun u => (u.lane l).eng.outbox = r :: rest ∧ u.adopted l = some c ∧
        (u.driver c ≠ some l ∨ (u.lane l).tapBlocks = true))
      (fun u v => v = u.modLane l (·.modEng (fun e => { e with outbox := rest }))))

/-- An overrun (R62, R84): the activation ends with exception BUDGET, CHE_OVERRUN and a depth proposal of 0. The span of 64
activations that ends moves the proposal by at most one step (R97). Where the words leave room, the model's reading of log
entry 13. -/
def Obligations.BudgetAndDepth : Prop :=
  (∀ tm l n r rs, n < 16 → Acts tm (.overrun tm l n)
    (fun u => (u.lane l).eng.liveRuns n = r :: rs ∧ (u.lane l).powered = true ∧
      r.tA + (u.lane l).rd (Reg.CHE_TASK_BUDGET.BUDGET n) ≤ (u.laneTime l).1 ∧
      (u.lane l).flag (Reg.CHE_OVR_CNT.CONSEC n) = false)
    (fun u v => (v.lane l).eng.liveRuns n = [] ∧ (v.lane l).rd (Reg.CHE_TASK_STAT.LAST_EXC n) = 10 ∧
      (v.lane l).rd (Reg.CHE_OVR_CNT.OVR n) =
        min ((u.lane l).rd (Reg.CHE_OVR_CNT.OVR n) + 1) (Reg.CHE_OVR_CNT.OVR n).max ∧
      (v.lane l).flag (Reg.CHE_SLACK_LAST.OVR n) = true ∧ (v.lane l).rd Reg.CHE_SPEC_STAT.PROPOSED = 0 ∧
      (v.lane l).flag (Reg.CHE_OVR_CNT.CONSEC n) = true ∧ v.latest l = 17)) ∧
  (∀ tm l, Acts tm (.depthReevaluation tm l) (fun u => 64 ≤ (u.lane l).eng.wCount)
    (fun u v =>
      let x := u.lane l
      let p := x.rd Reg.CHE_SPEC_STAT.PROPOSED
      let q := (v.lane l).rd Reg.CHE_SPEC_STAT.PROPOSED
      (v.lane l).eng.wCount = 0 ∧ (v.lane l).eng.wSlack = none ∧ (x.isSplit = true → q = 0) ∧
      (x.isSplit = false → p < 8 →
        (∀ w, x.eng.wSlack = some w → w < x.rd Reg.CHE_SLACK_CFG.SLACK_LO → q = p - 1) ∧
        (∀ w, x.eng.wSlack = some w → x.rd Reg.CHE_SLACK_CFG.SLACK_LO ≤ w → x.rd Reg.CHE_SLACK_CFG.SLACK_HI ≤ w →
          x.eng.wStaged = true → x.rd Reg.CHE_SPEC_CFG.MAX_DEPTH < 8 → q = min (p + 1) (x.rd Reg.CHE_SPEC_CFG.MAX_DEPTH)))))

/-- Staging (R89, R95, R104): a sealed candidate's FABRIC_OUT takes its slot before the deadline; at the deadline the window
closes and only staged candidates remain. The periodic injection, while neither an activation nor a candidate runs, restarts
its count and moves to the next bit (R123).
Where the words leave room, the model's reading of log entry 12. -/
def Obligations.StagingAndInjection : Prop :=
  (∀ tm l c n k, Acts tm (.candidateStaged tm l k)
    (fun u => let b := Sparse.get ({} : Bank) (u.lane l).eng.banks k
      u.adopted l = some c ∧ (u.lane l).specTask = some n ∧ k < 4 ∧ b.empty = false ∧ b.sealed = true ∧ b.staged = false ∧
      (u.lane l).eng.winOpen = true ∧ (u.comp c).tcorr ≤ (u.lane l).eng.deadline)
    (fun _ v => (v.lane l).rd (Reg.CHE_SPEC_STAT.STAGED k) = 1 ∧
      (Sparse.get ({} : Bank) (v.lane l).eng.banks k).staged = true ∧
      (Sparse.look (v.comp c).lower.staged k).isSome = true)) ∧
  (∀ tm l, Acts tm (.stagingDeadline tm l)
    (fun u => (u.lane l).eng.winOpen = true ∧ (u.lane l).eng.deadline ≤ (u.laneTime l).1)
    (fun u v => (v.lane l).eng.winOpen = false ∧ (v.lane l).eng.live =
      (u.lane l).eng.live.filter (fun k => (Sparse.get ({} : Bank) (u.lane l).eng.banks k).staged))) ∧
  (∀ tm l, Acts tm (.periodicInjection tm l true)
    (fun u => let x := u.lane l
      x.powered = true ∧ x.flag Reg.CHX_CFG.INJ_EN = true ∧ x.isSplit = false ∧ x.eng.h0.run = none ∧ x.eng.inRun = false ∧
      0 < x.rd Reg.CHX_CFG.INJ_PERIOD ∧ x.rd Reg.CHX_CFG.INJ_PERIOD ≤ x.eng.injCnt)
    (fun u v =>
      v = u.modLane l (fun x => ({ x with eng := { x.eng with injCnt := 0, injNext := (x.eng.injNext + 1) % 64 } }).wr
        Reg.CHX_STAT.INJ_BIT x.eng.injNext))) ∧
  (∀ tm l, Acts tm (.periodicInjection tm l false)
    (fun u => let x := u.lane l
      x.powered = true ∧ x.flag Reg.CHX_CFG.INJ_EN = true ∧ x.isSplit = false ∧ x.eng.h0.run = none ∧ x.eng.inRun = false ∧
      0 < x.rd Reg.CHX_CFG.INJ_PERIOD ∧ x.rd Reg.CHX_CFG.INJ_PERIOD ≤ x.eng.injCnt)
    (fun _ v => (v.lane l).flag Reg.CHX_STAT.INJ_FAIL = true))

/-! ### The drive stage -/

/-- Centres and reload points (R129, R130, R134, R357): a centre latches the samples of its instant, closes the period's limit
flag, and in the slower unit takes at most 4 ticks of a correction; a reload puts the held block in force, with ENABLE
taken as 0 in HOLD, and marks a slipped release. The two gates of a phase are never on together, and the high side is on only
while its bridge drives, the level is high and DT has passed since its edge (R128, R132). Where the words leave room, the
model's reading of log entries 22, 42, 48 and 118. -/
def Obligations.CentresAndReloads : Prop :=
  (∀ tm c b o tC, Acts tm (.pwmCentre tm c b o)
    (fun u => (u.comp c).centreAt b (u.comp c).tcorr = some tC ∧ u.pwmRuns c b = true ∧ ((u.comp c).bridge b).lastC < tC)
    (fun u v =>
      let y := (v.comp c).bridge b
      y.lastC = tC ∧ y.actDone = ((u.comp c).bridge b).skipC ∧ y.samples.tC = tC ∧ y.samples.vBr = left12 o.vBr ∧
      y.limNow = false ∧ y.limPrev = ((u.comp c).bridge b).limNow ∧ y.live = ((u.comp c).bridge b).live ∧
      ((u.comp c).slower ≠ some b → (v.comp c).ofs32 = (u.comp c).ofs32) ∧
      ((u.comp c).slower = some b →
        (v.comp c).ofs32 = (u.comp c).ofs32 + max (-128) (min 128 (u.comp c).lower.slew)))) ∧
  (∀ tm c b pt, Acts tm (.pwmReload tm c b)
    (fun u => (u.comp c).reloadPoint b (u.comp c).tcorr = some pt ∧ u.pwmRuns c b = true ∧
      ((u.comp c).bridge b).reloadAt < pt)
    (fun u v =>
      let x := (u.comp c).bridge b
      let y := (v.comp c).bridge b
      y.reloadAt = pt ∧ y.fresh = false ∧ y.cut = false ∧ y.held = x.held ∧
      y.live = { x.held with enable := x.held.enable && u.pwr.state == 0 } ∧
      y.phases = (u.comp c).phasesAfter b y.live ((pt - (u.comp c).phase b) % (u.comp c).period b != 0) ∧
      (x.fresh = true → x.meantFor < pt → (v.comp c).flag (Reg.PWM_STAT.SLIP (bit b)) = true ∧ u.Told v c 19))) ∧
  (∀ (d : Dev) (c : CompId) (b : Bool) (p : Nat), d.gateOn c b (2 * p) = true → d.gateOn c b (2 * p + 1) = false ∧
    d.driving c b = true ∧ ((d.comp c).commanded b p).1 = true ∧
    ((d.comp c).commanded b p).2 + (d.comp c).rd (Reg.PWM_DT.DT (bit b)) ≤ (d.comp c).periodPos b)

/-- Bridge faults (R136, R137, R139, R156, R450): DESAT above VDS_TH at a conducting transistor past its blanking, and a fast
phase current above HW_OC, latch, keep the bridge off and are told, and the third fault within 1 s locks the bridge out; a
fast phase current above the effective limit turns the gates off until the next reload; each latched fault clears 10 ms after
it was set while no supply condition stands, and the bridge waits for a release. Where the words leave room, the model's
reading of log entry 39. -/
def Obligations.BridgeFaults : Prop :=
  let latched := fun (u : Dev) (c : CompId) (b : Bool) (f : Latched) =>
    u.modComp c (fun x =>
      let n := (x.bridge b).recentFaults x.tcorr
      ((x.wr (f.fld b) 1).modBridge b (fun y => { y with
          faults := x.tcorr :: n, waitRel := true, relSeen := false
          setDesat := if f = .desat then u.clk else y.setDesat, setHwoc := if f = .hwoc then u.clk else y.setHwoc })).wr
        (Reg.GDV_STAT.FAULTS_1S (bit b)) (min 2 (n.length + 1)))
  let waits := fun (u : Dev) (c : CompId) (b : Bool) =>
    u.modComp c (·.modBridge b (fun y => { y with waitRel := true, relSeen := false }))
  let cleared := fun (u : Dev) (c : CompId) (b desat hwoc : Bool) =>
    let v := if desat && u.mayClear c b .desat then u.wrC c (Reg.GDV_STAT.DESAT (bit b)) 0 else u
    waits (if hwoc && u.mayClear c b .hwoc then v.wrC c (Reg.GDV_STAT.HWOC (bit b)) 0 else v) c b
  (∀ tm c b drv vds, Acts tm (.desat tm c b ⟨drv, vds⟩)
    (fun u => u.vdsChecked c b drv = true ∧ drv < 6 ∧ (u.comp c).rd (Reg.GDV_CFG.VDS_TH (bit b)) * 100 < vds ∧
      (((u.comp c).bridge b).recentFaults (u.comp c).tcorr).length < 2)
    (fun u v => (v.comp c).flag (Reg.GDV_STAT.DESAT (bit b)) = true ∧ u.Told v c 32 ∧ v.driving c b = false ∧
      (∀ i < 6, (v.comp c).rd (Reg.GDV_STAT.DESAT_SRC (bit b) i) = bit (i == drv)) ∧
      v.Like (latched ((List.range 6).foldl (fun d i => d.wrC c (Reg.GDV_STAT.DESAT_SRC (bit b) i) (bit (i == drv))) u) c b
        .desat))) ∧
  (∀ tm c b drv vds, Acts tm (.desat tm c b ⟨drv, vds⟩)
    (fun u => u.vdsChecked c b drv = false ∨ vds ≤ (u.comp c).rd (Reg.GDV_CFG.VDS_TH (bit b)) * 100) (fun u v => v = u)) ∧
  (∀ tm c b fast, Acts tm (.hwOc tm c b fast)
    (fun u => (u.comp c).powered = true ∧ (u.comp c).flag (Reg.GDV_STAT.HWOC (bit b)) = false ∧
      (u.comp c).lockedOut b = false ∧
      (∃ p < 3, (u.comp c).rd (Reg.GDV_CFG.HW_OC (bit b)) * 16 < ((u.comp c).fastOf b fast p).natAbs) ∧
      (((u.comp c).bridge b).recentFaults (u.comp c).tcorr).length < 2)
    (fun u v => (v.comp c).flag (Reg.GDV_STAT.HWOC (bit b)) = true ∧ u.Told v c 33 ∧ v.driving c b = false ∧
      v.Like (latched u c b .hwoc))) ∧
  (∀ tm c b fast, Acts tm (.hwOc tm c b fast)
    (fun u => (u.comp c).powered = true ∧ (u.comp c).flag (Reg.GDV_STAT.HWOC (bit b)) = false ∧
      (u.comp c).lockedOut b = false ∧
      (∃ p < 3, (u.comp c).rd (Reg.GDV_CFG.HW_OC (bit b)) * 16 < ((u.comp c).fastOf b fast p).natAbs) ∧
      2 ≤ (((u.comp c).bridge b).recentFaults (u.comp c).tcorr).length ∧
      (u.comp c).flag (Reg.PWM_CFG.EN (bit !b)) = true ∧ (u.comp c).lockedOut (!b) = false)
    (fun _ v => (v.comp c).lockedOut b = true ∧ v.driving c b = false)) ∧
  (∀ tm c b fast, Acts tm (.hwOc tm c b fast)
    (fun u => ∀ p < 3, ((u.comp c).fastOf b fast p).natAbs ≤ (u.comp c).rd (Reg.GDV_CFG.HW_OC (bit b)) * 16)
    (fun u v => v = u)) ∧
  (∀ tm c b fast, Acts tm (.currentLimit tm c b fast)
    (fun u => u.driving c b = true ∧
      ∃ p < 3, min ((u.comp c).bridge b).live.iLimit ((u.comp c).bridge b).iCap * 16 < ((u.comp c).fastOf b fast p).natAbs)
    (fun u v => v.driving c b = false ∧ v.Like (u.modComp c (fun x =>
      (if (x.bridge b).limNow then x else x.inc (Reg.PWM_STAT.LIMIT_CNT (bit b))).modBridge b
        (fun y => { y with cut := true, limNow := true, peakI := max y.peakI (x.fastPeak b fast) }))))) ∧
  (∀ tm c b, Acts tm (.latchedFaultClear tm c b)
    (fun u => (u.comp c).powered = true ∧ (u.comp c).lockedOut b = false ∧ (u.driver c).isSome = true ∧
      (u.mayClear c b .desat = true ∨ u.mayClear c b .hwoc = true))
    (fun u v => v.Like (cleared u c b true true))) ∧
  (∀ tm c b desat hwoc, Acts tm (.drvFaultClear tm c b desat hwoc)
    (fun u => (u.comp c).powered = true ∧ ((desat && u.mayClear c b .desat) || (hwoc && u.mayClear c b .hwoc)) = true)
    (fun u v => v.Like (cleared u c b desat hwoc))) ∧
  (∀ tm c b desat hwoc, Acts tm (.drvFaultClear tm c b desat hwoc)
    (fun u => ((desat && u.mayClear c b .desat) || (hwoc && u.mayClear c b .hwoc)) = false) (fun u v => v = u)) ∧
  ∀ (d : Dev) (c : CompId) (b : Bool) (f : Latched), d.mayClear c b f = true ↔
    (d.comp c).flag (f.fld b) = true ∧ ((d.comp c).bridge b).setAt f + 1000000 ≤ d.clk ∧ (d.comp c).supplyBad b = false

/-- Supply conditions of the drive (R136, R152, R461): VDRV below its limit turns both bridges off, a bridge supply outside
its limits its own, and each waits for a release with ENABLE = 1 made after the return; a slow gate is told and changes
nothing. -/
def Obligations.DriveSupplies : Prop :=
  let waits := fun (b : Bool) (x : Comp) => x.modBridge b (fun y => { y with waitRel := true, relSeen := false })
  let forget := fun (b : Bool) (x : Comp) => x.modBridge b (fun y => { y with relSeen := false })
  (∀ tm c, Acts tm (.vdrvUndervoltage tm c) (fun u => (u.comp c).powered = true)
    (fun u v => v.driving c false = false ∧ v.driving c true = false ∧
      v.Like (u.modComp c (fun x => waits true (waits false ((x.wr (Reg.GDV_STAT.VDRV_UV 0) 1).wr (Reg.GDV_STAT.VDRV_UV 1) 1)))))) ∧
  (∀ tm c b above, Acts tm (.vbrOutOfLimits tm c b above) (fun u => (u.comp c).powered = true)
    (fun u v => v.driving c b = false ∧ v.Like (u.modComp c (fun x =>
      waits b (x.wr (if above then Reg.GDV_STAT.VBR_OV (bit b) else Reg.GDV_STAT.VBR_UV (bit b)) 1))))) ∧
  (∀ tm c, Acts tm (.driveSupplyReturn tm c true true true) (fun u => (u.comp c).powered = true)
    (fun u v => v.Like (u.modComp c (fun x => forget true (forget false
      ((((((x.wr (Reg.GDV_STAT.VDRV_UV 0) 0).wr (Reg.GDV_STAT.VDRV_UV 1) 0).wr (Reg.GDV_STAT.VBR_UV 0) 0).wr
        (Reg.GDV_STAT.VBR_OV 0) 0).wr (Reg.GDV_STAT.VBR_UV 1) 0).wr (Reg.GDV_STAT.VBR_OV 1) 0)))))) ∧
  (∀ tm c vdrv v1 v2, Acts tm (.driveSupplyReturn tm c vdrv v1 v2) (fun u => (u.comp c).powered = true)
    (fun u v => ∀ b, ((v.comp c).rd (Reg.GDV_STAT.VDRV_UV (bit b)) =
        if vdrv then 0 else (u.comp c).rd (Reg.GDV_STAT.VDRV_UV (bit b))) ∧
      ((v.comp c).rd (Reg.GDV_STAT.VBR_UV (bit b)) =
        if (if b then v2 else v1) then 0 else (u.comp c).rd (Reg.GDV_STAT.VBR_UV (bit b))))) ∧
  (∀ tm c b drv, Acts tm (.gateTimeout tm c b drv) (fun u => u.gateLate c b drv = true ∧ drv < 6)
    (fun u v => u.Told v c 38 ∧ v.Like u)) ∧
  (∀ tm c b drv, Acts tm (.gateTimeout tm c b drv) (fun u => u.gateLate c b drv = false) (fun u v => v = u))

/-- The handover of a companion (R13, R15, R149, R150, R286): the hold expires two periods after the switch opened;
SWITCH_OPEN is journalled as step 8 and turns the companion's bridges off, SWITCH_SPARE gives it to lane D with its
winding joining, and a release ends joining (step 10). A step before XFER_DONE is refused, and a companion that powers up
takes its position from the witness's record. Where the words leave room, the model's reading of log entry 27. -/
def Obligations.HandoverSteps : Prop :=
  (∀ tm c, Acts tm (.holdExpiry tm c)
    (fun u => let x := u.comp c
      x.powered = true ∧ x.sw = .opened ∧ x.hoRun = true ∧ x.holdExp = false ∧ x.openAt + 2 * x.period false ≤ u.clk)
    (fun u v => v.Like (u.modComp c (fun x => { x with holdExp := true })))) ∧
  (∀ tm c r tX, Acts tm (.switchOpen tm c)
    (fun u => let x := u.comp c
      u.wit.bring = some r ∧ r.tX = some tX ∧ r.target = some c ∧ r.opened = false ∧ u.wit.powered = true ∧ x.powered = true ∧
      x.sw = .primary ∧ tX + 30 ≤ x.clkOf u.clk x.b0.lastC)
    (fun u v =>
      let x := v.comp c
      x.sw = .opened ∧ x.rd Reg.CMPS_SW.POS = 2 ∧ x.hoRun = true ∧ x.holdExp = false ∧ x.openAt = u.clk ∧
      (∀ b, (x.bridge b).live.enable = false ∧ (x.bridge b).held.enable = false) ∧ v.adopted (homeLane c) = none ∧
      v.wit.bring = some { r with opened := true } ∧
      (v.wit.journal.head?.map (fun j => (j.step, j.status, j.target)) = some (8, 1, compIdx c)))) ∧
  (∀ tm c r, ∀ cmd ∈ [(Instr.switchOpen tm c, 8), (Instr.switchSpare tm c, 9)], Acts tm cmd.1
    (fun u => u.wit.bring = some r ∧ r.tX = none ∧ r.target = some c ∧ u.wit.powered = true)
    (fun u v => (v.comp c).sw = (u.comp c).sw ∧
      (v.wit.journal.head?.map (fun j => (j.step, j.status, j.target)) = some (cmd.2, 2, compIdx c)))) ∧
  (∀ tm c r, Acts tm (.switchSpare tm c)
    (fun u => let x := u.comp c
      u.wit.bring = some r ∧ r.tX.isSome = true ∧ r.target = some c ∧ r.opened = true ∧ u.wit.powered = true ∧ x.powered = true ∧
      x.sw = .opened ∧ x.hoRun = true)
    (fun u v =>
      let x := v.comp c
      x.sw = .spare ∧ x.rd Reg.CMPS_SW.POS = 1 ∧ x.rd Reg.CMPS_SW.LANE = 3 ∧ x.hoRun = false ∧ v.lD.st = .active ∧
      v.lD.rd Reg.LCTL_STATUS.STATE = 5 ∧ v.lD.fphase = (if x.phyUp then 4 else 0) ∧
      (∀ b, x.rd (missFld b) = 0 ∧ ((u.comp c).flag (Reg.PWM_CFG.EN (bit b)) = true → (x.bridge b).joining = true)) ∧
      ∃ j ∈ v.wit.journal, j.step = 9 ∧ j.status = 1 ∧ j.target = compIdx c)) ∧
  (∀ tm c b t, Acts tm (.joinEnd tm c b)
    (fun u => let x := u.comp c
      x.powered = true ∧ u.wit.powered = true ∧ (x.bridge b).joining = true ∧ (x.bridge b).joinRel = some t ∧
      x.period b ≠ 0 ∧ (t + 30 ≤ x.nextCentre b t ∨ x.nextCentre b t ≤ x.tcorr))
    (fun u v => ((v.comp c).bridge b).joining = false ∧ ((v.comp c).bridge b).joinRel = none ∧
      v.wit.bring = (if ((u.comp c).bridge (!b)).joining then u.wit.bring else none) ∧
      (v.wit.journal.head?.map (fun j => (j.step, j.status, j.target, j.arg)) = some (10, 1, compIdx c, bit b)))) ∧
  (∀ tm c, Acts tm (.switchHandshakeResume tm c)
    (fun u => u.wit.powered = true ∧ (u.comp c).powered = true ∧ (u.comp c).handshake = true)
    (fun u v => let code := u.wit.rd (Reg.WIT_SW.POS (compIdx c))
      (v.comp c).handshake = false ∧ (v.comp c).sw = (if code = 1 then .spare else if code = 2 then .opened else .primary) ∧
      (u.wit.flag (Reg.WIT_SW.QUAR (compIdx c)) = true → (v.comp c).quarP = true))) ∧
  (∀ tm c, Acts tm (.switchHandshakeResume tm c) (fun u => (u.comp c).handshake = false) (fun u v => v = u))

/-! ### The measurement and position front ends -/

/-- Modulators, spares and temperatures (R158, R160, R163 to R166): a failed modulator is recorded and a free spare takes its
channel, settles over 3N − 2 bits and delivers; a failing sum check sends an idle spare along the phases, and four differing
centres name the channel; a free spare goes on to the next channel, and a shadow that differs on four centres is told; a
difference of the temperatures for 10 ms, or temperatures that are unknown, set TEMP_DIS. Where the words leave room, the
model's reading of log entries 32, 35 and 124. -/
def Obligations.FrontEndFaults : Prop :=
  (∀ tm c m sp, m < 6 → Acts tm (.modulatorFail tm c m)
    (fun u => (u.comp c).powered = true ∧ (u.comp c).modGood m = true ∧ (u.comp c).freeSpare = some sp)
    (fun u v => (v.comp c).flag (Reg.MFE_STAT.CH_FAIL m) = true ∧ (v.comp c).rd (subFld sp) = m ∧
      (v.comp c).rd (shadowFld sp) = 15 ∧ ((v.comp c).front.mod (6 + sp)).settling = true ∧
      ((v.comp c).front.mod (6 + sp)).since = u.clk ∧ u.Told v c 39)) ∧
  (∀ tm c m, m < 6 → Acts tm (.modulatorFail tm c m)
    (fun u => (u.comp c).powered = true ∧ (u.comp c).modGood m = true ∧ (u.comp c).freeSpare = none ∧
      (u.comp c).rd (subFld 0) ≠ m ∧ (u.comp c).rd (subFld 1) ≠ m ∧
      ∀ p < 6, p ≠ m → (u.comp c).server p ≠ none)
    (fun u v => (v.comp c).flag (Reg.MFE_STAT.CH_FAIL m) = true ∧ (v.comp c).server m = none ∧ u.Told v c 42)) ∧
  (∀ tm c sp, sp < 2 → Acts tm (.modulatorFail tm c (6 + sp))
    (fun u => (u.comp c).powered = true ∧ (u.comp c).modGood (6 + sp) = true ∧ (u.comp c).rd (subFld sp) = 15)
    (fun u v => (v.comp c).flag (Reg.MFE_STAT.SPARE_FAIL sp) = true ∧ (v.comp c).rd (shadowFld sp) = 15 ∧ u.Told v c 39)) ∧
  (∀ tm c sp, sp < 2 → Acts tm (.spareSettled tm c sp)
    (fun u => let y := (u.comp c).front.mod (6 + sp)
      (u.comp c).powered = true ∧ y.settling = true ∧ y.since + 5 * (3 * (u.comp c).decim - 2) ≤ u.clk)
    (fun u v => v = u.modComp c (fun x => x.modMod (6 + sp)
      (fun y => { y with settling := false, since := y.since + 5 * (3 * x.decim - 2) })))) ∧
  (∀ tm c b f, Acts tm (.sumCheckFail tm c b f)
    (fun u => (u.comp c).powered = true ∧ 4 ≤ ((u.comp c).bridge b).sumRun ∧ (u.comp c).flag (sumFld b) = false)
    (fun u v => (v.comp c).flag (sumFld b) = true ∧
      ((u.comp c).idleSpare f = none → u.Told v c 42) ∧
      (∀ sp, (u.comp c).idleSpare f = some sp → u.Told v c 40 ∧ (v.comp c).rd (shadowFld sp) = 3 * bit b ∧
        ((v.comp c).bridge b).iso = some { spare := sp } ∧ ((v.comp c).front.mod (6 + sp)).since = u.clk))) ∧
  (∀ (d : Dev) c b tC o is (i : Isolation) m, ((d.comp c).bridge b).iso = some i → i.seen = 3 → i.diffs = 3 → m < 6 →
    (d.comp c).shadowReady d.clk i.spare tC = true → (d.comp c).server (3 * bit b + i.phase) = some m →
    (d.comp c).rd Reg.MFE_CFG.SUM_TH * 64 < ((d.comp c).spareResult i.spare o - is.getD i.phase 0).natAbs →
    ((d.stepIso c b tC o is).comp c).flag (Reg.MFE_STAT.CH_FAIL m) = true ∧
      (((d.stepIso c b tC o is).comp c).bridge b).iso = none) ∧
  (∀ tm c sp f, sp < 2 → Acts tm (.spareShadowRotate tm c sp f)
    (fun u => let x := u.comp c
      x.powered = true ∧ x.flag (Reg.MFE_STAT.SPARE_FAIL sp) = false ∧ x.rd (subFld sp) = 15 ∧ x.isolates sp = false ∧
      x.front.calibrated = true ∧ (x.rd (shadowFld sp) = 15 ∨ 256 ≤ Sparse.get 0 x.front.shadowN sp))
    (fun u v => let ch := (u.comp c).rd (shadowFld sp)
      (v.comp c).rd (shadowFld sp) = (if ch = 15 then f % 6 else (ch + 1) % 6) ∧ Sparse.get 0 (v.comp c).front.shadowN sp = 0 ∧
      Sparse.get 0 (v.comp c).front.shadowRun sp = 0 ∧ ((v.comp c).front.mod (6 + sp)).since = u.clk)) ∧
  (∀ (d : Dev) c b tC o is sp ch, (d.comp c).rd (shadowFld sp) = ch → ch < 6 → decide (3 ≤ ch) = b →
    (d.comp c).isolates sp = false → (d.comp c).shadowReady d.clk sp tC = true → 0 < (d.comp c).rd Reg.MFE_CFG.SUM_TH →
    (d.comp c).rd Reg.MFE_CFG.SUM_TH * 64 < ((d.comp c).spareResult sp o - is.getD (ch % 3) 0).natAbs →
    Sparse.get 0 (d.comp c).front.shadowRun sp = 3 → d.Told (d.stepShadow c b tC o is sp) c 43) ∧
  (∀ tm c t0 t1 a, -880 ≤ t0 → t0 ≤ 2800 → -880 ≤ t1 → t1 ≤ 2800 → Acts tm (.tempDisagree tm c t0 t1)
    (fun u => (u.comp c).powered = true ∧ (u.comp c).front.tempAt = some a ∧ (u.comp c).front.tDis = false)
    (fun u v => (v.comp c).rd Reg.MFE_TEMP.T0 = enc 16 t0 ∧ (v.comp c).rd Reg.MFE_TEMP.T1 = enc 16 t1 ∧
      (128 < (t0 - t1).natAbs → a + 1000000 ≤ u.clk → (v.comp c).flag Reg.MFE_STAT.TEMP_DIS = true ∧
        hasBit (v.comp c).measStat 10 = true ∧ u.Told v c 45) ∧
      ((t0 - t1).natAbs ≤ 128 → (v.comp c).front.tempAt = none ∧ (v.comp c).flag Reg.MFE_STAT.TEMP_DIS = false))) ∧
  (∀ tm c t0 t1, -880 ≤ t0 → t0 ≤ 2800 → -880 ≤ t1 → t1 ≤ 2800 → (t0 - t1).natAbs ≤ 96 → Acts tm (.tempDisagree tm c t0 t1)
    (fun u => (u.comp c).powered = true)
    (fun _ v => (v.comp c).flag Reg.MFE_STAT.TEMP_DIS = false ∧ (v.comp c).tCmp = some (max t0 t1))) ∧
  (∀ tm c t0 t1, (t0 < -880 ∨ 2800 < t0) → (t1 < -880 ∨ 2800 < t1) → Acts tm (.tempDisagree tm c t0 t1)
    (fun u => (u.comp c).powered = true ∧ (u.comp c).front.tUnk = false)
    (fun u v => (v.comp c).flag Reg.MFE_STAT.TEMP_DIS = true ∧ (v.comp c).tCmp = none ∧ u.Told v c 45)) ∧
  (∀ tm c k, k < 2 → Acts tm (.bridgeSensorOpen tm c k)
    (fun u => (u.comp c).powered = true ∧ (u.comp c).flag (Reg.MFE_VCFG.BRS_EN k) = true ∧
      Sparse.get false (u.comp c).front.brsOpen k = false)
    (fun u v => Sparse.get false (v.comp c).front.brsOpen k = true ∧ hasBit (v.comp c).measStat k = false ∧ u.Told v c 44))

/-- SENT receivers and sin/cos tracks (R167 to R169, R174 to R178): an accepted message sets VALID and its data, a rejected
one ERR; a track counts the difference of its angles, formed from the corrected sine and cosine; converter S checks a
suspicious pair for 64 samples, while POS holds, then takes it over or the track has failed; 64 shadow samples that differ by
more than 16 counts are told. Where the words leave room, the model's reading of log entries 33, 36 and 128. -/
def Obligations.SensorsAndTracks : Prop :=
  (∀ tm c n m ns, n < 4 → Acts tm (.sentMessage tm c n m)
    (fun u => let x := u.comp c
      x.powered = true ∧ x.running = true ∧ x.flag (Reg.SNT_CFG.EN n) = true ∧ x.flag (Reg.SNT_CFG.ESM n) = false ∧
      x.sentVerdict n m = .inr ns)
    (fun u v => let y := (v.comp c).sentCh n
      (v.comp c).flag (Reg.SNT_STAT.VALID n) = true ∧ y.data = ((ns.drop 1).dropLast).foldl (fun a d => a * 16 + d) 0 ∧
      y.status = ns.headD 0 ∧ y.lastAt = u.clk ∧ y.lastCal = m.cal)) ∧
  (∀ tm c n m kind, n < 4 → kind < 4 → Acts tm (.sentMessage tm c n m)
    (fun u => let x := u.comp c
      x.powered = true ∧ x.running = true ∧ x.flag (Reg.SNT_CFG.EN n) = true ∧ x.sentVerdict n m = .inl kind)
    (fun u v => (v.comp c).rd (Reg.SNT_STAT.ERR n) = kind ∧ (v.comp c).sentCh n =
        { (u.comp c).sentCh n with
            rejects := u.clk :: ((u.comp c).sentCh n).rejects.filter (fun t => decide (u.clk < t + 10000000))
            lastCal := if (u.comp c).sentCalOk n m.cal then m.cal else ((u.comp c).sentCh n).lastCal } ∧
      (v.comp c).rd (Reg.SNT_STAT.VALID n) = (u.comp c).rd (Reg.SNT_STAT.VALID n) ∧ u.Told v c 46)) ∧
  (∀ tm c n, n < 4 → Acts tm (.sentStale tm c n)
    (fun u => let x := u.comp c
      x.powered = true ∧ x.flag (Reg.SNT_STAT.VALID n) = true ∧
      (x.sentCh n).lastAt + x.rd (Reg.SNT_CFG.STALE n) * 100000 ≤ u.clk ∧ ∀ b, x.rd (Reg.POS_CFG.ABS (bit b)) ≠ n + 4)
    (fun u v => v.Like (u.wrC c (Reg.SNT_STAT.VALID n) 0) ∧ u.Told v c 47)) ∧
  (let read := fun (x : Comp) (k : Nat) (w : Int × Int) => (x.track k).correct (x.rd (Reg.POS_TRK_STAT.AMPL k) * 1000) w;
    (∀ tm c k o b, k < 3 → Acts tm (.positionSample tm c k o)
      (fun u => let x := u.comp c
        let t := x.track k
        x.powered = true ∧ x.running = true ∧ x.flag (Reg.POS_TRK_STAT.FAIL k) = false ∧ x.incIs b k = true ∧
        x.posFault b = false ∧ (x.chan b).started = true ∧ (x.chan b).absMode = false ∧ t.started = true ∧ t.check = none ∧
        t.jump = false ∧ t.badRun < 4 ∧ (angleStep t.angle (lineAngle (read x k (o.sin, o.cos)))).natAbs ≤ 512)
      (fun u v =>
        let w := read (u.comp c) k (o.sin, o.cos)
        let n := angleStep ((u.comp c).track k).angle (lineAngle w)
        ((v.comp c).track k).angle = lineAngle w ∧ (v.comp c).rd (Reg.POS_TRK_STAT.AMPL k) = amplField w ∧
        ((v.comp c).chan b).pos = ((u.comp c).chan b).pos + (if (u.comp c).flag (Reg.POS_CFG.DIR (bit b)) then -n else n))) ∧
    (∀ tm c k o b n, k < 3 → Acts tm (.positionSample tm c k o)
      (fun u => let x := u.comp c
        x.powered = true ∧ x.running = true ∧ x.flag (Reg.POS_TRK_STAT.FAIL k) = false ∧ x.incIs b k = true ∧
        (x.chan b).absMode = false ∧ (x.track k).check = some (n + 1))
      (fun u v => ((v.comp c).track k).check = some n ∧ ((v.comp c).chan b).pos = ((u.comp c).chan b).pos)) ∧
    (∀ tm c k o w, k < 3 → o.spare = some w → Acts tm (.positionSample tm c k o)
      (fun u => let x := u.comp c
        x.powered = true ∧ x.running = true ∧ x.flag (Reg.POS_TRK_STAT.FAIL k) = false ∧ (∀ b, x.absIs b k = false) ∧
        x.rd Reg.POS_SPARE.SHADOW = k ∧ (x.track k).check = none ∧ (x.track k).devRun = 63 ∧
        16 < (angleStep (lineAngle (read x k (o.sin, o.cos))) (lineAngle (read x k w))).natAbs)
      (fun u v => u.Told v c 56))) ∧
  (∀ tm c k, k < 3 → Acts tm (.signalWarning tm c k)
    (fun u => (u.comp c).powered = true ∧ 16 ≤ ((u.comp c).track k).warnRun ∧ (u.comp c).flag (Reg.POS_TRK_STAT.SIG_WARN k) = false)
    (fun u v => v.Like (u.wrC c (Reg.POS_TRK_STAT.SIG_WARN k) 1) ∧ u.Told v c 53)) ∧
  (∀ tm c k, k < 3 → Acts tm (.trackCheckStart tm c k)
    (fun u => let t := (u.comp c).track k
      (u.comp c).powered = true ∧ (u.comp c).flag (Reg.POS_TRK_STAT.FAIL k) = false ∧ t.check = none ∧
      (t.jump = true ∨ 4 ≤ t.badRun))
    (fun u v => ((u.comp c).sFree = true → ((v.comp c).track k).check = some 64 ∧ (v.comp c).rd Reg.POS_SPARE.SHADOW = k ∧
        ∀ b, (u.comp c).incIs b k = true → (v.comp c).flag (Reg.POS_STAT.DBT_CONV (bit b)) = true) ∧
      ((u.comp c).sFree = false → (v.comp c).flag (Reg.POS_TRK_STAT.FAIL k) = true))) ∧
  (∀ tm c k b, k < 3 → Acts tm (.trackCheckEnd tm c k b)
    (fun u => (u.comp c).powered = true ∧ ((u.comp c).track k).check = some 0)
    (fun u v => let t := (u.comp c).track k
      (∀ a, t.sAngle = some a → t.sBad = false → ((v.comp c).track k).check = none ∧ ((v.comp c).track k).angle = a ∧
        (v.comp c).rd Reg.POS_SPARE.SUB = k ∧ (v.comp c).flag (Reg.POS_TRK_STAT.CONV_FAIL k) = true ∧ u.Told v c 55) ∧
      (t.sAngle = none ∨ t.sBad = true → ((v.comp c).track k).check = none ∧
        (v.comp c).flag (Reg.POS_TRK_STAT.FAIL k) = true))) ∧
  (∀ tm c f n, Acts tm (.converterShadowStep tm c f)
    (fun u => let x := u.comp c
      let k := x.rd Reg.POS_SPARE.SHADOW
      x.powered = true ∧ x.sFree = true ∧ (k = 3 ∨ x.front.shadowT + 100000 ≤ u.clk) ∧ x.nextPair (if k = 3 then f + 2 else k) = some n)
    (fun u v => (v.comp c).rd Reg.POS_SPARE.SHADOW = n ∧ (v.comp c).front.shadowT = u.clk ∧
      ((v.comp c).track n).sAngle = none ∧ ((v.comp c).track n).devRun = 0))

/-- Counts, index, probes and speed (R179, R181 to R190): one accepted edge of A or B moves the count by one, both at once are
illegal; an index edge homes, matches, adjusts within INDEX_TOL or is a mismatch; levels that DIFF does not select or that FILT
does not accept do nothing; a probe holds the edges that it selects and accepts; a window's speed is the difference of its
counts at t_P. Where the words leave room, the model's reading of log entries 43, 45 and 128. -/
def Obligations.EncoderAndIndex : Prop :=
  (∀ tm c diff a b stable q, Acts tm (.abzEdge tm c diff ⟨a, b, stable⟩)
    (fun u => let x := u.comp c
      x.abzAccepts diff stable = true ∧ x.incIs q 3 = true ∧ (x.chan q).started = true ∧ x.posFault q = false)
    (fun u v =>
      let x := u.comp c
      let step := (quadPlace a b + 4 - quadPlace x.front.abzA x.front.abzB) % 4
      let sign : Int := if x.flag (Reg.POS_CFG.DIR (bit q)) then -1 else 1
      (v.comp c).front.abzA = a ∧ (v.comp c).front.abzB = b ∧
      ((v.comp c).chan q).pos = (x.chan q).pos + (if step = 1 then sign else if step = 3 then -sign else 0) ∧
      (step = 2 → (v.comp c).flag (Reg.POS_STAT.DBT_ABZ (bit q)) = true ∧ u.Told v c 52))) ∧
  (∀ tm c diff a b stable, Acts tm (.abzEdge tm c diff ⟨a, b, stable⟩)
    (fun u => (u.comp c).abzAccepts diff stable = false) (fun u v => v = u)) ∧
  (∀ tm c diff stable q, Acts tm (.indexEdge tm ⟨c, diff, stable⟩)
    (fun u => let x := u.comp c
      x.abzAccepts diff stable = true ∧ x.posEn q = true ∧ x.posEn (!q) = false ∧ (x.chan q).started = true ∧ x.posFault q = false ∧
      x.rd (Reg.POS_CFG.INC (bit q)) = 3 ∧ x.cpr q ≠ 0 ∧ x.flag (Reg.POS_IDX_CFG.IDX_EN (bit q)) = true)
    (fun u v =>
      let x := u.comp c
      let y := v.comp c
      let i := bit q
      let off : Int := (x.chan q).pos32 - nearest (x.chan q).pos32 (x.rd (Reg.POS_IDX_REF.REF i)) (x.cpr q)
      let e := off.natAbs
      let k := x.lineK q
      ((x.chan q).homed = false → (y.chan q).homed = true ∧ (y.chan q).pos = (x.chan q).pos - off ∧ y.flag (Reg.POS_STAT.HOMED i) = true ∧
        u.Told v c 48) ∧
      ((x.chan q).homed = true → e * 64 ≤ x.rd (Reg.POS_IDX_CFG.IDX_DEAD i) * k → (y.chan q).pos = (x.chan q).pos ∧
        (y.chan q).misRun = 0 ∧ y.flag (Reg.POS_STAT.DBT_IDX i) = false ∧ y.flag (Reg.POS_STAT.DBT_ABZ i) = false) ∧
      ((x.chan q).homed = true → x.rd (Reg.POS_IDX_CFG.IDX_DEAD i) * k < e * 64 →
        e ≤ x.rd (Reg.POS_IDX_CFG.INDEX_TOL i) * k → (y.chan q).pos = (x.chan q).pos - off ∧ (y.chan q).misRun = 0 ∧
        y.rd (Reg.POS_IDX_STAT.ADJ_CNT i) = min (x.rd (Reg.POS_IDX_STAT.ADJ_CNT i) + 1) (Reg.POS_IDX_STAT.ADJ_CNT i).max ∧
        u.Told v c 49) ∧
      ((x.chan q).homed = true → x.rd (Reg.POS_IDX_CFG.IDX_DEAD i) * k < e * 64 →
        x.rd (Reg.POS_IDX_CFG.INDEX_TOL i) * k < e → (x.chan q).misRun < 2 → (y.chan q).pos = (x.chan q).pos ∧
        (y.chan q).misRun = (x.chan q).misRun + 1 ∧ y.flag (Reg.POS_STAT.DBT_IDX i) = true ∧ u.Told v c 50))) ∧
  (∀ tm c b, Acts tm (.indexMissing tm c b)
    (fun u => let x := u.comp c
      x.powered = true ∧ x.posEn b = true ∧ (x.chan b).homed = true ∧ x.flag (Reg.POS_IDX_CFG.IDX_EN (bit b)) = true ∧
      x.posFault b = false ∧ (x.chan b).misRun < 2 ∧ x.cpr b + x.rd (Reg.POS_IDX_CFG.INDEX_TOL (bit b)) * x.lineK b <
        ((x.chan b).pos - (x.chan b).idxFrom).natAbs)
    (fun u v => ((v.comp c).chan b).misRun = ((u.comp c).chan b).misRun + 1 ∧
      ((v.comp c).chan b).idxFrom = ((u.comp c).chan b).pos ∧ ((v.comp c).chan b).pos = ((u.comp c).chan b).pos ∧
      (v.comp c).flag (Reg.POS_STAT.DBT_IDX (bit b)) = true ∧ u.Told v c 50)) ∧
  (∀ tm c p rising edge stable, p < 2 → Acts tm (.probeEdge tm c p rising ⟨edge, stable⟩)
    (fun u => let x := u.comp c
      x.powered = true ∧ x.running = true ∧ x.rd (Reg.POS_PRB_CFG.FILT p) ≤ stable ∧ x.flag (Reg.POS_PRB_CFG.EN p) = true ∧
      hasBit (x.rd (Reg.POS_PRB_CFG.EDGE p)) (if rising then 0 else 1) = true)
    (fun u v =>
      let x := u.comp c
      let b := x.flag (Reg.POS_PRB_CFG.CHAN p)
      let e : PrbEdge := if edge ≤ (x.chan b).t1 then
          { time := edge, settled := true, pos := (x.chan b).countAt edge, rising := rising, doubt := x.posState b != 0 }
        else { time := edge, rising := rising }
      let kept := x.flag (Reg.POS_PRB_CFG.MODE p) = true ∨ (x.probe p).held = []
      (kept → ((v.comp c).probe p).held = e :: (x.probe p).held ∧ ((v.comp c).probe p).edges = (x.probe p).edges) ∧
      (¬ kept → ((v.comp c).probe p).held = (x.probe p).held ∧
        ((v.comp c).probe p).edges = min 15 ((x.probe p).edges + 1)))) ∧
  (∀ tm c b, Acts tm (.speedWindowEnd tm c b)
    (fun u => let x := u.comp c
      x.powered = true ∧ x.posEn b = true ∧ (x.chan b).started = true ∧ 1 ≤ (x.chan b).winN ∧
      x.rd (Reg.POS_SPD_CFG.SPD_N (bit b)) ≤ (x.chan b).winN ∧ (x.chan b).winSw = false ∧ x.posState b ≠ 4 ∧
      (x.chan b).quiet = false ∧ ((x.chan b).countAt (x.chan b).latch - (x.chan b).winPos).natAbs < 2 ^ 31)
    (fun u v =>
      let p := (u.comp c).chan b
      let q := (v.comp c).chan b
      let n := p.countAt p.latch
      q.winN = 0 ∧ q.winPos = n ∧ q.pos = p.pos ∧ q.spd = n - p.winPos ∧ q.winLen = (p.latchT - p.winT).toNat ∧
      ((v.comp c).bridge b).samples.spd = q.spd ∧ hasBit ((v.comp c).bridge b).samples.spdQual 3 = true)) ∧
  (∀ tm c b, Acts tm (.plausibilityFail tm c b)
    (fun u => let x := u.comp c
      x.powered = true ∧ x.posEn b = true ∧ 1 ≤ (x.chan b).plausRun ∧
      x.rd (Reg.POS_ABS_CFG.PLAUS_N (bit b)) ≤ (x.chan b).plausRun ∧ x.flag (Reg.POS_STAT.DBT_PLAUS (bit b)) = false)
    (fun u v => (v.comp c).flag (Reg.POS_STAT.DBT_PLAUS (bit b)) = true ∧ u.Told v c 58))

/-! ### Safety inputs and holding-brake outputs -/

/-- Safety inputs and holding-brake outputs (R195 to R199, R202, R203, R207, R208): agreeing contacts give the demand, a
mismatch the safe or the combined one, and one that lasts DT ms a fault; pull-in ends in chopping, dark tests alternate,
and a failed output is latched and applied. Where the words leave room, the model's reading of log entry 46. -/
def Obligations.SafetyInputsAndBrakes : Prop :=
  (∀ tm c A B, Acts tm (.sioTick tm c A B)
    (fun u => (u.comp c).powered = true ∧ (u.comp c).running = true ∧ (u.comp c).sioTime < (u.comp c).tcorr / 25000 * 25000)
    (fun u v =>
      let x := u.comp c
      let y := v.comp c
      let t := x.tcorr / 25000 * 25000
      y.sioTime = t ∧ ∀ i < 8, x.flag (Reg.SIO_IN_CFG.EN i) = true →
        let a := hasBit A i != x.flag (Reg.SIO_IN_CFG.POL_A i)
        let b := hasBit B i != x.flag (Reg.SIO_IN_CFG.POL_B i)
        let due := ((x.sioIn i).t1.getD t) + x.rd (Reg.SIO_IN_CFG.DT i) * 100000 ≤ t
        y.flag (Reg.SIO_STAT.MISM i) = (a != b) ∧
        (x.flag (Reg.SIO_STAT.FAULT i) = false → a = b → y.flag (Reg.SIO_STAT.DEMAND i) = a ∧ y.flag (Reg.SIO_STAT.FAULT i) = false) ∧
        (x.flag (Reg.SIO_STAT.FAULT i) = false → a ≠ b → ¬ due → y.flag (Reg.SIO_STAT.FAULT i) = false ∧
          y.flag (Reg.SIO_STAT.DEMAND i) = (if x.flag (Reg.SIO_IN_CFG.MODE i) then a && b else a || b)) ∧
        (x.flag (Reg.SIO_STAT.FAULT i) = false → a ≠ b → due → y.flag (Reg.SIO_STAT.FAULT i) = true ∧
          y.flag (Reg.SIO_STAT.DEMAND i) = x.flag (Reg.SIO_IN_CFG.FAIL_DEM i)))) ∧
  (∀ tm c j p, j < 2 → Acts tm (.pullInEnd tm c j)
    (fun u => let x := u.comp c
      x.powered = true ∧ (x.out j).pullAt = some p ∧ p + x.rd (Reg.SBC_CFG.PULL j) * 100000 ≤ u.clk)
    (fun u v => v = u.modComp c (fun x => x.modOut j (fun o => { o with pullAt := none, chopping := true, relAt := u.clk })))) ∧
  (∀ tm c j, j < 2 → Acts tm (.darkTestStart tm c j)
    (fun u => let x := u.comp c
      x.powered = true ∧ x.flag Reg.SBC_TEST_CFG.DARK_EN = true ∧ (x.out j).state ≠ 0 ∧ (x.out 0).dark = none ∧
      (x.out 1).dark = none ∧ (x.hoRun = false ∨ x.holdExp = true) ∧ (x.out j).darkAt + x.rd Reg.SBC_TEST_CFG.PERIOD * 1000000 ≤ u.clk)
    (fun u v => v = u.modComp c (fun x => x.modOut j
      (fun o => { o with dark := some o.darkSide, darkSide := 1 - o.darkSide, darkAt := u.clk })))) ∧
  (∀ tm c j pass side, j < 2 → side < 2 → Acts tm (.darkTestEnd tm c j pass)
    (fun u => let x := u.comp c
      x.powered = true ∧ (x.out j).dark = some side ∧ (x.out j).darkAt + x.rd Reg.SBC_TEST_CFG.TEST_US * 100 ≤ u.clk ∧
      x.flag (Reg.SBC_STAT.FAULT j) = false)
    (fun u v => (pass = true → v = u.modComp c (fun x => x.modOut j (fun o => { o with dark := none, onAt := u.clk }))) ∧
      (pass = false → (v.comp c).flag (Reg.SBC_STAT.FAULT j) = true ∧ (v.comp c).rd (Reg.SBC_STAT.FKIND j) = 1 + side ∧
        ((v.comp c).out j).state = 0 ∧ u.Told v c 62))) ∧
  (∀ tm c j cur, j < 2 → Acts tm (.sbcOvercurrent tm c j cur)
    (fun u => (u.comp c).powered = true ∧ (u.comp c).flag (Reg.SBC_STAT.FAULT j) = false)
    (fun u v => (v.comp c).rd (Reg.SBC_STAT.I_COIL j) = min cur 4095 ∧
      (3000 < cur → (v.comp c).flag (Reg.SBC_STAT.FAULT j) = true ∧ (v.comp c).rd (Reg.SBC_STAT.FKIND j) = 6 ∧
        ((v.comp c).out j).state = 0 ∧ u.Told v c 62) ∧
      (cur ≤ 3000 → v = u.modComp c (·.wr (Reg.SBC_STAT.I_COIL j) (min cur 4095))))) ∧
  (∀ tm c j kind cur, j < 2 → Acts tm (.sbcFaultDetect tm c j kind cur)
    (fun u => let x := u.comp c
      x.powered = true ∧ x.flag (Reg.SBC_STAT.FAULT j) = false ∧
      (((kind = 1 ∨ kind = 2) ∧ (x.out j).state = 0 ∧ (x.out j).appAt + 100000 ≤ u.clk) ∨
        (kind = 3 ∧ (x.out j).state ≠ 0 ∧ (x.out j).dark ≠ some 0 ∧ (x.out j).onAt + 10000 ≤ u.clk) ∨
        (kind = 4 ∧ (x.out j).state ≠ 0 ∧ (x.out j).dark ≠ some 1 ∧ (x.out j).onAt + 10000 ≤ u.clk) ∨
        (kind = 5 ∧ ((x.out j).state = 1 ∨ (x.out j).chopping = true) ∧ (x.out j).relAt + 1000000 ≤ u.clk ∧
          cur < x.rd (Reg.SBC_CFG.OPEN_TH j) * 10)))
    (fun u v => (v.comp c).flag (Reg.SBC_STAT.FAULT j) = true ∧ (v.comp c).rd (Reg.SBC_STAT.FKIND j) = kind ∧
      (v.comp c).rd (Reg.SBC_STAT.I_COIL j) = min cur 4095 ∧ ((v.comp c).out j).state = 0 ∧ u.Told v c 62)) ∧
  (∀ tm c low, Acts tm (.sbcSupplyLoss tm c low) (fun u => (u.comp c).powered = true)
    (fun u v => (v.comp c).flag (Reg.SBC_STAT.SUPPLY 0) = low ∧ (v.comp c).flag (Reg.SBC_STAT.SUPPLY 1) = low ∧
      (low = true → (u.comp c).flag (Reg.SBC_STAT.SUPPLY 0) = false → u.Told v c 63)))

/-! ### The fabric -/

/-- Setpoints (R90, R99 to R104, R217, R231, R234 to R236): the first accepted copy is answered in its slot. An illegal class
is refused and changes no history; a legal value enters the history and takes force, as itself or as the picked candidate;
every candidate is squashed and the echo starts. A slot without an accepted setpoint is a miss. Where the words leave
room, the model's reading of log entries 18 and 60. -/
def Obligations.SetpointAnswers : Prop :=
  (∀ tm c f l h n i, Acts tm (.setpointFrame tm c f)
    (fun u => let b := h.payload ++ List.replicate 12 0
      u.Hears c f l h kTtData ∧ (u.lane l).fphase = phActive ∧ u.inSetpoint c f = true ∧
      (u.acceptTt c l f h).2 = .accepted n i true ∧ u.adopted l = some c ∧
      (u.comp c).lower.legal.contains (beNat (slice b 0 1)) = false)
    (fun u v => (v.lane l).eng.s1 = (u.lane l).eng.s1 ∧ (v.lane l).eng.s2 = (u.lane l).eng.s2 ∧
      (v.lane l).eng.spForce = (u.lane l).eng.spForce ∧ (v.lane l).eng.live = [] ∧ (v.lane l).fab.spSeen = true ∧
      u.CountedL v l (Reg.CHE_SPEC_CNT.COUNT 3) ∧ (v.lane l).rd Reg.CHE_SPEC_STAT.LAST = 4)) ∧
  (∀ tm c f l h n i, Acts tm (.setpointFrame tm c f)
    (fun u => let b := h.payload ++ List.replicate 12 0
      u.Hears c f l h kTtData ∧ (u.lane l).fphase = phActive ∧ u.inSetpoint c f = true ∧
      (u.acceptTt c l f h).2 = .accepted n i true ∧ u.adopted l = some c ∧ n = (u.lane l).fab.cycle ∧
      (u.comp c).lower.legal.contains (beNat (slice b 0 1)) = true ∧
      pickCand (u.comp c).lower.candVal (u.comp c).lower.candDepth ((u.lane l).rd Reg.CHE_SPEC_SNAP.SNAP)
        (BitVec.ofNat 64 (beNat (slice b 4 8))) = none)
    (fun u v =>
      let b := h.payload ++ List.replicate 12 0
      let val : Dword := BitVec.ofNat 64 (beNat (slice b 4 8))
      (v.lane l).eng.s1 = some val ∧ (v.lane l).eng.s2 = (u.lane l).eng.s1 ∧ (v.lane l).eng.spForce = val ∧
      (v.lane l).eng.spNext = none ∧ (v.lane l).eng.live = [] ∧ u.CountedL v l (Reg.CHE_SPEC_CNT.COUNT 1) ∧
      (v.lane l).rd Reg.CHE_SPEC_STAT.LAST = 2 ∧
      ((u.comp c).flag Reg.JMC_GUARD.BLOCKED = false →
        u.SentTt v c l (u.clk * 10) kEcho i (fun pay => pay = echoRecord 2 0 (slice b 2 2) val [])) ∧
      ((u.comp c).flag Reg.JMC_GUARD.BLOCKED = true → (v.comp c).lower.tx = (u.comp c).lower.tx))) ∧
  (∀ tm c f l h n i k cv, k < 4 → Acts tm (.setpointFrame tm c f)
    (fun u => let b := h.payload ++ List.replicate 12 0
      u.Hears c f l h kTtData ∧ (u.lane l).fphase = phActive ∧ u.inSetpoint c f = true ∧
      (u.acceptTt c l f h).2 = .accepted n i true ∧ u.adopted l = some c ∧ n = (u.lane l).fab.cycle ∧
      (u.comp c).lower.legal.contains (beNat (slice b 0 1)) = true ∧
      pickCand (u.comp c).lower.candVal (u.comp c).lower.candDepth ((u.lane l).rd Reg.CHE_SPEC_SNAP.SNAP)
        (BitVec.ofNat 64 (beNat (slice b 4 8))) = some (k, cv))
    (fun u v =>
      let b := h.payload ++ List.replicate 12 0
      let val : Dword := BitVec.ofNat 64 (beNat (slice b 4 8))
      let staged := Sparse.look (u.comp c).lower.staged k
      (v.lane l).eng.s1 = some val ∧ (v.lane l).eng.s2 = (u.lane l).eng.s1 ∧ (v.lane l).eng.spForce = cv ∧
      (v.lane l).eng.spNext = some val ∧ (v.lane l).rd Reg.CHE_SPEC_STAT.LAST_INDEX = k ∧
      u.CountedL v l (Reg.CHE_SPEC_CNT.COUNT (if staged.isSome then 0 else 2)) ∧
      ((u.comp c).flag Reg.JMC_GUARD.BLOCKED = false → (v.lane l).eng.live = [] ∧
        u.SentTt v c l (u.clk * 10) kEcho i (fun pay =>
          pay = echoRecord (if staged.isSome then 1 else 2) (128 + k) (slice b 2 2) cv (staged.getD []))))) ∧
  (∀ tm c l i, Acts tm (.setpointMiss tm c)
    (fun u => u.nodeLane c = some l ∧ (u.comp c).setpointSlot (u.lane l) = some i ∧ (u.lane l).fab.spOver = false ∧
      (u.lane l).fab.cycle * (u.lane l).cycleLen + (u.comp c).slotStart (i + 1) ≤ (u.comp c).tcorr)
    (fun u v => (v.lane l).fab.spOver = true ∧ (v.lane l).eng.spForce = (u.lane l).eng.spForce ∧
      ((u.lane l).fab.spSeen = true → (v.lane l).eng.picked = none) ∧
      ((u.lane l).fab.spSeen = false → (v.lane l).eng.live = [] ∧ u.CountedL v l (Reg.CHE_SPEC_CNT.COUNT 4) ∧
        (v.lane l).rd Reg.CHE_SPEC_STAT.LAST = 5)))

/-- Cycles, slots and correction (R218, R225, R229, R230, R232, R237, R238, R245 to R247, R249): a cycle starts with its books
empty and the previous one's membership; at an action point the entry's frame is sent, a null frame where nothing is new,
none while the guardian blocks or late; the correction is the midpoint of enough sync values, and few of them or too large
a one end in LOST. Where the words leave room, the model's reading of log entries 33, 56, 57 and 59. -/
def Obligations.FabricSend : Prop :=
  (∀ tm c l, Acts tm (.cycleStart tm c)
    (fun u => u.nodeLane c = some l ∧ (u.comp c).running = true ∧ (u.lane l).cycleLen ≠ 0 ∧
      (u.lane l).fab.cycle < (u.comp c).tcorr / (u.lane l).cycleLen ∧ (u.lane l).flag Reg.RDN_STAT.UNLINKED = false)
    (fun u v =>
      let g := (u.lane l).fab
      let w := (v.lane l).fab
      let n := (u.comp c).tcorr / (u.lane l).cycleLen
      w.cycle = n ∧ w.vector = g.heard ∧ w.heard = [] ∧ w.txDone = [] ∧ w.accepted = [] ∧ w.corrDone = false ∧
      w.spOver = false ∧ (v.comp c).lower.nextCorr = 0 ∧
      (v.comp c).lower.rate = (u.comp c).lower.nextRate.getD (u.comp c).lower.rate ∧
      (v.lane l).rd Reg.JLF_STAT.CYCLE = n % 2 ^ 16 ∧
      (v.lane l).rd Reg.JLF_MEMB.PRESENT = bit (g.heard.contains ((u.lane l).rd Reg.JLF_MEMB_SEL.NODE)) ∧
      ((u.lane l).fphase = phInteg → g.slewing = false → g.obsFrom ≤ g.cycle → g.syncSeen = true → g.syncViol = false →
        g.corrOk = true → (v.lane l).fphase = phActive ∧ (v.lane l).rd Reg.JSY_STAT.STATE = sySync) ∧
      ((u.lane l).fphase = phCsSend → g.csFrom = none → w.csFrom = some n))) ∧
  (∀ tm c l slot items, Acts tm (.txSlot tm c slot items)
    (fun u => u.nodeLane c = some l ∧ slot < (u.lane l).nslots ∧ (u.lane l).fab.txDone.contains slot = false ∧
      entIsTx ((u.comp c).ent slot) = true ∧
      ((u.lane l).fab.cycle * (u.lane l).cycleLen + (u.comp c).action slot) * 32 ≤ (u.comp c).tcorr32 + 32)
    (fun u v =>
      let e := (u.comp c).ent slot
      let ap := (u.lane l).fab.cycle * (u.lane l).cycleLen + (u.comp c).action slot
      let fits := fun len => (u.comp c).fitsSlot slot (u.lateness c (ap * 32)) len
      let onTime := (u.comp c).flag Reg.JMC_GUARD.BLOCKED = false ∧ u.lateness c (ap * 32) ≤ 320
      (v.lane l).fab.txDone = slot :: (u.lane l).fab.txDone ∧
      ((u.comp c).flag Reg.JMC_GUARD.BLOCKED = true → (v.comp c).lower.tx = (u.comp c).lower.tx) ∧
      ((u.comp c).flag Reg.JMC_GUARD.BLOCKED = false → 320 < u.lateness c (ap * 32) →
        (v.comp c).lower.tx = (u.comp c).lower.tx ∧ u.CountedC v c Reg.JMC_GUARD.LATE_CNT) ∧
      (onTime → (u.lane l).fphase = phActive → entTxSync e = true → fits 32 = true →
        u.SentTt v c l (u.soonest c) kSync slot (fun pay => pay = (u.lane l).statusRecord l ap) ∧ (v.lane l).fab.sentSync = true) ∧
      (onTime → (u.lane l).fphase = phActive → entTxStatus e = true → fits 32 = true →
        u.SentTt v c l (u.soonest c) kTtData slot (fun pay => pay = (u.lane l).statusRecord l ap)) ∧
      (onTime → (u.lane l).fphase = phActive → entTxData e = true → (u.lane l).fresh? slot (entTask e) = false → fits 0 = true →
        u.SentTt v c l (u.soonest c) kTtNull slot (fun pay => pay = [])) ∧
      (onTime → (u.lane l).fphase = phActive → entTxData e = true → (u.lane l).fresh? slot (entTask e) = true →
        fits (entPay e) = true →
        u.SentTt v c l (u.soonest c) kTtData slot (fun pay => pay.length = entPay e ∧ pay.take 48 =
          ((Sparse.get [] (u.lane l).fab.fabOut (entTask e)).take 48 ++ List.replicate 48 0).take (min 48 (entPay e)))))) ∧
  (∀ tm c l e, Acts tm (.etSegmentStart tm c)
    (fun u =>
      let x := u.comp c
      let y := u.lane l
      let start := y.fab.cycle * y.cycleLen + x.etStart y
      u.nodeLane c = some l ∧ y.fphase = phActive ∧ start ≤ x.tcorr ∧ x.tcorr < start + y.rd Reg.JLF_ET.ET_LEN * 100 ∧
      y.flag Reg.RNG_CFG.EN = false ∧ y.fab.etq = [e])
    (fun u v =>
      let x := u.comp c
      let y := u.lane l
      let auth := x.flag Reg.JMC_AUTH.ET_AUTH
      let ends := u.soonest c + wireBytes e.payload.length auth * x.slowByte10 + x.rd Reg.JMC_CFG.PI * 10
      let left := y.fab.cycle * y.cycleLen + x.etStart y + y.rd Reg.JLF_ET.ET_LEN * 100 - x.tcorr
      (x.flag Reg.JMC_GUARD.BLOCKED = false → y.fab.etSent < y.rd Reg.JLF_ET.ET_MAX →
        ends ≤ (u.clk + left) * 10 →
        (v.lane l).fab.etq = [] ∧ (v.lane l).fab.etSent = y.fab.etSent + 1 ∧
        ∀ p, x.flag (Reg.PHY_CFG.EN (bit p)) = true → ∃ fr ∈ (v.comp c).lower.tx, fr.kind = e.kind ∧ fr.slot = 0xFFFF ∧
          fr.netY = p ∧ fr.bytes = x.frameBytes (nodeAddr (x.rd Reg.JMC_ADDR.CLUSTER) e.node) e.kind auth p (y.nodeOf c)
            0xFFFF y.fab.cycle e.payload) ∧
      (x.flag Reg.JMC_GUARD.BLOCKED = true → (v.lane l).fab.etq = [e] ∧ (v.comp c).lower.tx = x.lower.tx ∧ u.Told v c 69))) ∧
  (∀ tm c l, Acts tm (.syncCorrection tm c)
    (fun u => u.nodeLane c = some l ∧ (u.lane l).fab.corrDone = false ∧ (u.lane l).cycleLen ≠ 0 ∧
      (u.lane l).fab.cycle * (u.lane l).cycleLen + (u.comp c).etStart (u.lane l) ≤ (u.comp c).tcorr ∧
      (u.lane l).fphase = phActive)
    (fun u v =>
      let y := u.lane l
      let vals := u.syncVals c l
      let rate := newRate ((u.comp c).lower.nextRate.getD (u.comp c).lower.rate) (midpoint vals) y.cycleLen (y.rd Reg.JSY_CFG.RATE_LIM)
      let far := y.rd Reg.JSY_CFG.OFS_LIM * 32 < (midpoint vals).natAbs * 10 ∨ rate.natAbs = y.rd Reg.JSY_CFG.RATE_LIM * 100
      let lost := (v.lane l).fphase = phListen ∧ (v.lane l).rd Reg.JSY_STAT.STATE = syLost
      (v.lane l).fab.corrDone = true ∧ (v.lane l).rd Reg.JSY_STAT.NVALS = min vals.length 8 ∧
      (vals.length < y.rd Reg.JSY_CFG.SYNC_MIN → (v.comp c).lower.nextCorr = 0 ∧ (v.lane l).fab.missed = y.fab.missed + 1 ∧
        (y.rd Reg.JSY_CFG.LOSS_N ≤ y.fab.missed + 1 → lost) ∧
        (y.fab.missed + 1 < y.rd Reg.JSY_CFG.LOSS_N → (v.lane l).fphase = phActive)) ∧
      (y.rd Reg.JSY_CFG.SYNC_MIN ≤ vals.length → (v.comp c).lower.nextCorr = midpoint vals ∧
        (v.comp c).lower.nextRate = some rate ∧ (v.lane l).fab.missed = 0 ∧ (far → lost) ∧
        (¬ far → (v.lane l).fphase = phActive)))) ∧
  (∀ tm c l, Acts tm (.slewEnd tm c)
    (fun u => u.nodeLane c = some l ∧ (u.lane l).fphase = phInteg ∧ (u.lane l).fab.slewing = true ∧
      2 * (u.comp c).lower.slew.natAbs ≤ (u.comp c).rd Reg.JMC_CFG.PI * 32)
    (fun u v => v = u.modLane l (·.modFab (fun g => { g with slewing := false, obsFrom := g.cycle + 1 }))))

/-- Reception (R212, R213, R215, R216, R225 to R228, R242, R243, R245, R246, R253, R254, R258): bad lengths and checksums are
counted and discarded; a TT frame outside its window is a violation, a second copy a duplicate, one with a wrong tag
counted; an accepted one counts its node as heard, and data go to their queue; sync frames give deviations in ACTIVE and
time in LISTEN and BACKOFF, in CS_SEND a value and nothing else; a claim is in the view of its spare slot, which advances at
the cycle's end where its sender was the only one. Where the words leave room, the model's reading of log entries 51, 54, 55
and 58. -/
def Obligations.FabricReceive : Prop :=
  (∀ tm c f bad, ∀ cmd ∈ [Instr.ttDataReceive tm c f bad, .ttNullReceive tm c f, .syncReceive tm c f, .coldstartReceive tm c f,
      .claimReceive tm c f, .setpointFrame tm c f], Acts tm cmd
    (fun u => (u.comp c).powered = true ∧ (u.comp c).flag (Reg.PHY_STAT.LINK (bit f.netY)) = true ∧
      (f.bytes.length < 64 ∨ 1518 < f.bytes.length))
    (fun u v => (spoiled f = false → v = u.incC c (Reg.JMC_CNT.FMT (bit f.netY))) ∧
      (spoiled f = true → u.CountedC v c (Reg.JMC_CNT.FMT (bit f.netY)) ∧ ∀ l, u.nodeLane c = some l →
        (u.lane l).fphase = phListen → (v.lane l).fab.listenAt = (u.comp c).ticks))) ∧
  (∀ tm c f l h, Acts tm (.ttNullReceive tm c f)
    (fun u => u.Hears c f l h kTtNull ∧ (u.lane l).fphase = phActive)
    (fun u v =>
      let x := u.comp c
      let y := u.lane l
      (x.window y f.netY f.sof32 = none → (v.lane l).fab.heard = y.fab.heard ∧ u.Told v c 67) ∧
      (∀ n i, x.window y f.netY f.sof32 = some (n, i) → entDir (x.ent i) = 2 →
        ((h.slot ≠ i ∨ h.node ≠ entNode (x.ent i)) → (v.lane l).fab.heard = y.fab.heard ∧ u.Told v c 67) ∧
        (h.slot = i → h.node = entNode (x.ent i) →
          (y.fab.accepted.contains (2 * i + bit f.netY) = true → v = u.incC c (Reg.JMC_CNT.DUP (bit f.netY))) ∧
          (y.fab.accepted.contains (2 * i + bit f.netY) = false → x.tagOk h (entAuth (x.ent i)) n = false →
            u.CountedC v c (Reg.JMC_AUTH_CNT.FAIL (bit f.netY)) ∧ (v.lane l).fab.heard = y.fab.heard ∧ u.Told v c 77) ∧
          (y.fab.accepted.contains (2 * i + bit f.netY) = false → x.tagOk h (entAuth (x.ent i)) n = true →
            h.node ∈ (v.lane l).fab.heard ∧ (2 * i + bit f.netY) ∈ (v.lane l).fab.accepted))))) ∧
  (∀ tm c f l h n i, Acts tm (.ttDataReceive tm c f false)
    (fun u => u.Hears c f l h kTtData ∧ (u.lane l).fphase = phActive ∧ u.inSetpoint c f = false ∧
      (u.acceptTt c l f h).2 = .accepted n i true ∧ entIsRx ((u.comp c).ent i) 0 = true ∧
      (u.comp c).fqOn (entRxQueue ((u.comp c).ent i)) = true)
    (fun u v => h.node ∈ (v.lane l).fab.heard ∧ (v.comp c).fq (entRxQueue ((u.comp c).ent i)) =
      (((u.comp c).fq (entRxQueue ((u.comp c).ent i))).put u.clk h.payload true).1)) ∧
  (∀ tm c f l h n i first, Acts tm (.syncReceive tm c f)
    (fun u => u.Hears c f l h kSync ∧ (u.lane l).fphase = phActive ∧ (u.acceptTt c l f h).2 = .accepted n i first ∧
      entIsRx ((u.comp c).ent i) 3 = true)
    (fun u v => (v.lane l).fab.syncSeen = true ∧ h.node ∈ (v.lane l).fab.heard ∧
      Sparse.look (if f.netY then (v.lane l).fab.devY else (v.lane l).fab.devX) i =
        some (((u.comp c).due32 (u.lane l) f.netY n i : Int) - f.sof32))) ∧
  (∀ tm c f l h kind, ∀ cmd ∈ [(Instr.syncReceive tm c f, kSync), (.coldstartReceive tm c f, kColdstart)], cmd.2 = kind →
    Acts tm cmd.1
    (fun u => u.Hears c f l h kind ∧ ((u.lane l).fphase = phListen ∨ (u.lane l).fphase = phBackoff))
    (fun u v => (u.decodable c l h = true → (v.lane l).fphase = phInteg ∧ (v.lane l).fab.adopted = h.node ∧
        (v.lane l).rd Reg.JLF_START_STAT.SRC = h.node % 2048 ∧ (v.lane l).fab.csFrom = none ∧
        (v.lane l).fab.obsFrom = (v.lane l).fab.cycle + 1) ∧
      (u.decodable c l h = false → v = u))) ∧
  (∀ tm c f l h n, Acts tm (.syncReceive tm c f)
    (fun u => u.Hears c f l h kSync ∧ (u.lane l).fphase = phCsSend ∧ u.decodable c l h = true ∧
      (u.comp c).window (u.lane l) f.netY f.sof32 = some (n, h.slot) ∧
      Sparse.look (if f.netY then (u.lane l).fab.devY else (u.lane l).fab.devX) h.slot = none ∧
      (u.comp c).tagOk h (entAuth ((u.comp c).ent h.slot)) n = true)
    (fun u v => let dev : Int := ((u.comp c).due32 (u.lane l) f.netY n h.slot : Int) - f.sof32
      v = u.modLane l (·.modFab (fun g => { g with
        syncSeen := true
        devX := if f.netY then g.devX else Sparse.put g.devX h.slot dev
        devY := if f.netY then Sparse.put g.devY h.slot dev else g.devY })))) ∧
  (∀ tm c f l h, Acts tm (.coldstartReceive tm c f)
    (fun u => u.Hears c f l h kColdstart ∧ (u.lane l).fphase = phCsSend ∧ u.decodable c l h = true)
    (fun u v => (h.node < (u.lane l).nodeOf c → (v.lane l).fphase = phInteg ∧ (v.lane l).fab.adopted = h.node) ∧
      (¬ h.node < (u.lane l).nodeOf c → v = u))) ∧
  (∀ tm c l netY fcsErr, Acts tm (.corruptedReception tm c netY fcsErr)
    (fun u => u.nodeLane c = some l ∧ (u.comp c).flag (Reg.PHY_STAT.LINK (bit netY)) = true)
    (fun u v => (fcsErr = true → u.CountedC v c (Reg.JMC_CNT.FCSERR (bit netY))) ∧
      ((u.lane l).fphase = phListen → (v.lane l).fab.listenAt = (u.comp c).ticks ∧ (v.lane l).fphase = phListen) ∧
      ((u.lane l).fphase = phCsSend → (v.lane l).fphase = phBackoff ∧ (v.lane l).fab.backAt = (u.comp c).ticks ∧
        (8 ≤ (u.lane l).rd Reg.JLF_START_STAT.ATTEMPT → (v.lane l).flag Reg.JLF_START_STAT.CS_FAIL = true)))) ∧
  (∀ tm c f l h n i first, Acts tm (.claimReceive tm c f)
    (fun u => u.Hears c f l h kClaim ∧ (u.lane l).fphase = phActive ∧ (u.acceptTt c l f h).2 = .accepted n i first ∧
      entIsSpare ((u.comp c).ent i) = true)
    (fun u v =>
      let w := Sparse.get ({} : SpareView) (u.lane l).fab.spares i
      let w' := Sparse.get ({} : SpareView) (v.lane l).fab.spares i
      w'.st = w.st ∧ w'.dirty = true ∧ h.node ∈ w'.claims ∧ h.node ∈ w'.senders ∧ h.node ∈ w'.got)) ∧
  (∀ (w : SpareView) (m : Nat), m ∈ w.claims → m ∈ w.senders → (∀ x ∈ w.senders, x = m) →
    (w.st = .free → w.endCycle.st = .claiming m 1) ∧
    (∀ k, k < 2 → w.st = .claiming m k → w.endCycle.st = .claiming m (k + 1)) ∧
    (w.st = .claiming m 2 → w.endCycle.st = .claimed m) ∧
    (∀ x k, x ≠ m → w.st = .claiming x k → w.endCycle.st = .free)) ∧
  (∀ (w : SpareView), (∀ m ∈ w.claims, ∃ x ∈ w.senders, x ≠ m) →
    (w.st = .free → w.endCycle.st = .free) ∧ (∀ m k, w.st = .claiming m k → w.endCycle.st = .free)) ∧
  (∀ (w : SpareView) (m : Nat), w.st = .claimed m →
    (m ∈ w.got → w.endCycle.st = .claimed m ∧ w.endCycle.quiet = 0) ∧
    (m ∉ w.got → w.quiet < 7 → w.endCycle.st = .claimed m ∧ w.endCycle.quiet = w.quiet + 1) ∧
    (m ∉ w.got → 7 ≤ w.quiet → w.endCycle.st = .free)) ∧
  (∀ (u : Dev) c l i m, (u.comp c).slotsWhere (u.lane l) entIsSpare = [i] →
    let w := Sparse.get ({} : SpareView) (u.lane l).fab.spares i
    w.claimant = some m → w.st = .claiming m 2 →
      (Sparse.get ({} : SpareView) ((u.endSpares c l).lane l).fab.spares i).st = .claimed m ∧ u.Told (u.endSpares c l) c 72)

/-- Start of a node, membership, links and claims (R211, R238, R241, R243, R250, R251, R255, R256): an expired listen timer
begins an attempt, whose first cycles send COLDSTART; backoff and hold-off end; two cycles in a row that no sibling
confirms stop the node; a lost link fails its network; a claim holds its slot after three clean cycles, waits its silence
after a collision, resumes with the next attempt, and moves on after 16 or fails. Where the words leave room, the model's
reading of log entries 61 and 62. -/
def Obligations.FabricStart : Prop :=
  (∀ tm c l, Acts tm (.listenTimeout tm c)
    (fun u => let y := u.lane l
      u.nodeLane c = some l ∧ y.fphase = phListen ∧ y.flag Reg.JLF_START.CS_EN = true ∧
      y.flag Reg.JLF_START_STAT.CS_FAIL = false ∧ (u.comp c).running = true ∧ y.fab.listenAt + y.listenTicks ≤ (u.comp c).ticks)
    (fun u v => (v.lane l).fphase = phCsSend ∧ (v.lane l).rd Reg.JSY_STAT.STATE = sySync ∧ (v.lane l).fab.csFrom =
      (if (u.comp c).tcorr32 = (u.lane l).fab.cycle * (u.lane l).cycleLen * 32 then some (u.lane l).fab.cycle else none))) ∧
  (∀ tm c l slot a0, Acts tm (.txSlot tm c slot [])
    (fun u =>
      let ap32 := ((u.lane l).fab.cycle * (u.lane l).cycleLen + (u.comp c).action slot) * 32
      u.nodeLane c = some l ∧ slot < (u.lane l).nslots ∧ (u.lane l).fab.txDone.contains slot = false ∧
      entTxSync ((u.comp c).ent slot) = true ∧ ap32 ≤ (u.comp c).tcorr32 + 32 ∧ u.lateness c ap32 ≤ 320 ∧
      (u.comp c).flag Reg.JMC_GUARD.BLOCKED = false ∧ (u.lane l).fphase = phCsSend ∧ (u.lane l).fab.csFrom = some a0 ∧
      (u.lane l).fab.cycle = a0 ∧ (u.lane l).fab.sentSync = false ∧ (u.comp c).fitsSlot slot (u.lateness c ap32) 8 = true)
    (fun u v => let n := min 8 ((u.lane l).rd Reg.JLF_START_STAT.ATTEMPT + 1)
      (v.lane l).rd Reg.JLF_START_STAT.ATTEMPT = n ∧
      u.SentTt v c l (u.soonest c) kColdstart slot (fun pay =>
        pay = coldstartRecord a0 ((u.lane l).rd Reg.JLF_START.RANK) n ((u.lane l).rd Reg.JLF_SCHED.ID)))) ∧
  (∀ tm c l, Acts tm (.backoffEnd tm c)
    (fun u => let y := u.lane l
      u.nodeLane c = some l ∧ y.fphase = phBackoff ∧ y.fab.backAt + y.backoffTicks ≤ (u.comp c).ticks)
    (fun u v => (v.lane l).fphase = phListen ∧ (v.lane l).fab.listenAt = (u.comp c).ticks)) ∧
  (∀ tm c l, Acts tm (.coldstartHoldoffEnd tm c)
    (fun u => let y := u.lane l
      u.nodeLane c = some l ∧ y.fphase = phListen ∧ y.flag Reg.JLF_START_STAT.CS_FAIL = true ∧
      y.fab.holdAt + 256 * y.cycleLen ≤ (u.comp c).ticks)
    (fun u v => v = u.modLane l (fun y => (y.wr Reg.JLF_START_STAT.CS_FAIL 0).wr Reg.JLF_START_STAT.ATTEMPT 0))) ∧
  (∀ tm c l, Acts tm (.membershipDecision tm c)
    (fun u => u.nodeLane c = some l ∧ (u.lane l).fphase = phActive ∧ (u.lane l).fab.judged = false ∧
      u.sibReports c l ((u.lane l).fab.cycle - 1) ≠ [])
    (fun u v => let reps := u.sibReports c l ((u.lane l).fab.cycle - 1)
      (v.lane l).fab.judged = true ∧
      (true ∈ reps → (v.lane l).rd Reg.JLF_MEMB.SELF = 1 ∧ (v.lane l).rd Reg.JLF_MEMB.MISS_RUN = 0 ∧ (v.lane l).fphase = phActive) ∧
      (true ∉ reps → (u.lane l).rd Reg.JLF_MEMB.MISS_RUN = 0 → (v.lane l).rd Reg.JLF_MEMB.SELF = 0 ∧
        (v.lane l).rd Reg.JLF_MEMB.MISS_RUN = 1 ∧ (v.lane l).fphase = phActive) ∧
      (true ∉ reps → 1 ≤ (u.lane l).rd Reg.JLF_MEMB.MISS_RUN → (v.lane l).fphase = phListen ∧
        (v.lane l).rd Reg.JSY_STAT.STATE = syLost ∧ u.CountedL v l Reg.JLF_MEMB.REINT_CNT ∧
        (v.lane l).rd Reg.JLF_MEMB.MISS_RUN = 2 ∧
        hasBit ((v.comp c).rd Reg.JMC_GUARD.CAUSE) 3 = true))) ∧
  (∀ tm c l netY, Acts tm (.phyLinkChange tm c netY false)
    (fun u => u.nodeLane c = some l ∧ (u.comp c).flag (Reg.PHY_CFG.EN (bit netY)) = true ∧
      (u.comp c).flag (Reg.PHY_STAT.LINK (bit netY)) = true)
    (fun u v => (v.comp c).flag (Reg.PHY_STAT.LINK (bit netY)) = false ∧ u.CountedC v c (Reg.PHY_STAT.LOSS_CNT (bit netY)) ∧
      (v.lane l).flag (if netY then Reg.JLF_NET.FAIL_Y else Reg.JLF_NET.FAIL_X) = true ∧
      ((u.comp c).flag (Reg.PHY_STAT.LINK (bit (!netY))) = false → (v.lane l).fphase = phOff) ∧
      ((u.comp c).flag (Reg.PHY_STAT.LINK (bit (!netY))) = true → (u.lane l).fphase ≠ phOff →
        (v.lane l).fphase = (u.lane l).fphase))) ∧
  (∀ tm c l netY, Acts tm (.phyLinkChange tm c netY true)
    (fun u => u.nodeLane c = some l ∧ (u.comp c).flag (Reg.PHY_CFG.EN (bit netY)) = true ∧
      (u.comp c).flag (Reg.PHY_STAT.LINK (bit netY)) = false ∧ (u.lane l).fphase = phOff)
    (fun _ v => (v.comp c).flag (Reg.PHY_STAT.LINK (bit netY)) = true ∧ (v.lane l).fphase = phListen)) ∧
  (∀ tm c l k, k < 4 → Acts tm (.claimBackoffEnd tm c k)
    (fun u => let cl := Sparse.get ({} : Claim) (u.lane l).fab.claims k
      u.nodeLane c = some l ∧ (u.lane l).fphase = phActive ∧ cl.st = 1 ∧ cl.waitFree = true ∧ cl.backoff = 0 ∧
      1 ≤ (Sparse.get ({} : SpareView) (u.lane l).fab.spares cl.slot).freeFor)
    (fun u v =>
      let cl := Sparse.get ({} : Claim) (u.lane l).fab.claims k
      let w := Sparse.get ({} : Claim) (v.lane l).fab.claims k
      w = { cl with attempt := cl.attempt + 1, waitFree := false, clean := 0 } ∧
      (v.lane l).rd (Reg.JLF_CLAIM_STAT.STATE k) = 1 ∧ (v.lane l).rd (Reg.JLF_CLAIM_STAT.CLEAN k) = 0)) ∧
  (∀ (u : Dev) c l views k, k < 4 →
    let cl := Sparse.get ({} : Claim) (u.lane l).fab.claims k
    let w := Sparse.get ({} : SpareView) views cl.slot
    let v := u.stepClaim c l views k
    let cl' := Sparse.get ({} : Claim) (v.lane l).fab.claims k
    cl.st = 1 → cl.waitFree = false →
    (cl.sent = true → w.dirty = false → w.senders = [] →
      (cl.clean < 2 → cl' = { cl with clean := cl.clean + 1, sent := false }) ∧
      (2 ≤ cl.clean → cl' = { cl with st := 2, clean := 2, sent := false })) ∧
    (cl.sent = true → w.dirty = true → cl.attempt < 15 → cl' = { cl with
      clean := 0, sent := false, waitFree := true, backoff := 2 + 4 * ((u.lane l).nodeOf c / 4 ^ (cl.attempt % 6) % 4) }) ∧
    (cl.sent = true → w.dirty = true → 15 ≤ cl.attempt →
      let p := u.putClaim l k { tried := cl.slot :: cl.tried }
      ((p.lane l).spareSlots (p.comp c) c (cl.slot :: cl.tried) = [] → cl'.st = 3 ∧ u.Told v c 74) ∧
      (∀ i, (p.lane l).eligible (p.comp c) c (cl.slot :: cl.tried) = some i → cl'.st = 1 ∧ cl'.slot = i ∧ cl'.attempt = 0)))

/-- Packing queues (R349 to R355): an idle item ends; a flush is requested and takes effect with a marker that counts what was
discarded; a waiting marker is written once a word is free; delivery moves the oldest item into the receive area, its
header and RSEQ with it, and touches nothing else of the lane's memory. Where the words leave room, the model's reading of
log entry 64. -/
def Obligations.Queues : Prop :=
  (∀ tm c n, n < 16 → Acts tm (.fqIdleTimeout tm c n)
    (fun u => let f := (u.comp c).fq n
      (u.comp c).powered = true ∧ (u.comp c).fqOn n = true ∧ f.inItem = true ∧ f.pack ≠ [] ∧ f.words.length < 512 ∧
      f.lastAt + (u.comp c).rd (Reg.FQ_CFG.IDLE n) * 100 ≤ u.clk)
    (fun u v =>
      let f := (u.comp c).fq n
      let g := (v.comp c).fq n
      g.inItem = false ∧ g.pack = [] ∧ g.words =
        f.words ++ [{ gap := false, start := f.first, last := true, cnt := f.pack.length % 8, data := leNat f.pack }])) ∧
  (∀ tm l w c, Acts tm (.fqFlush tm l w) (fun u => (u.lane l).powered = true ∧ u.reaches l = some c)
    (fun u v => ∀ q < 16, (v.comp c).rd (Reg.FQ_CTL.FLUSH q) =
      (if hasBit w q then 1 else (u.comp c).rd (Reg.FQ_CTL.FLUSH q)) ∧ (v.comp c).fq q = (u.comp c).fq q)) ∧
  (∀ tm c n, n < 16 → Acts tm (.fqFlushTakeEffect tm c n)
    (fun u => (u.comp c).powered = true ∧ (u.comp c).flag (Reg.FQ_CTL.FLUSH n) = true ∧ (u.comp c).fqOn n = true)
    (fun u v => let f := (u.comp c).fq n
      (v.comp c).flag (Reg.FQ_CTL.FLUSH n) = false ∧ ((v.comp c).fq n).words = [gapWord 2 (f.items + bit f.inItem + f.carried)] ∧
      ((v.comp c).fq n).pack = [] ∧ ((v.comp c).fq n).inItem = false)) ∧
  (∀ tm c n cause k, n < 16 → Acts tm (.fqGapMarkerWrite tm c n)
    (fun u => let f := (u.comp c).fq n
      (u.comp c).powered = true ∧ f.gapPend = some (cause, k) ∧ f.words.length < 512 ∧ f.inItem = false)
    (fun u v => (v.comp c).fq n =
      { (u.comp c).fq n with words := ((u.comp c).fq n).words ++ [gapWord cause k], gapPend := none })) ∧
  (∀ tm c n l ws f, n < 8 → ActsM tm (.fqRxDeliver tm c n false)
    (fun _ u => u.driver c = some l ∧ (u.comp c).powered = true ∧ (u.lane l).powered = true ∧ (u.comp c).fqOn n = true ∧
      (u.lane l).rd (Reg.MEM_RXQ_LEN.RECORDS n) ≠ 0 ∧ ((u.comp c).fq n).takeItem = some (ws, f) ∧
      ∀ g < 8, (u.lane l).permitted 4 g = true)
    (fun p u q v =>
      let base := (u.lane l).rd (Reg.MEM_RXQ_BASE.BASE n) * 8
      let seq := (Sparse.get 0 (u.lane l).mem.rseq n + 1) % 2 ^ 32
      let at_ := base + 8 + seq % (u.lane l).rd (Reg.MEM_RXQ_LEN.RECORDS n) * 264
      (v.comp c).fq n = f ∧ Sparse.get 0 (v.lane l).mem.rseq n = seq ∧ (q.lane l).bytes base 8 = leBytes 8 seq ∧
      (q.lane l).bytes at_ 264 = rxRecord ws seq ∧
      (∀ a, a < base ∨ (base + 8 ≤ a ∧ a < at_) ∨ at_ + 264 ≤ a → (q.lane l).byte a = (p.lane l).byte a) ∧
      (∀ r, r ≠ l → q.lane r = p.lane r)))

/-! ### Redundancy -/

/-- Heartbeats, beacons, status words and paths (R263 to R266, R272, R274, R279, R283): what a lane and the witness send shows
their state; what they receive is kept with its time, a failed CRC only counted; a lane takes states, master and level
from the beacon; a path fails after three missed intervals and recovers after a hundred. Where the words leave room, the
model's reading of log entries 66 and 71. -/
def Obligations.CrossLink : Prop :=
  (∀ tm l, Acts tm (.heartbeatSend tm l) (fun u => (u.lane l).powered = true)
    (fun u v =>
      let x := u.lane l
      let r := (v.lane l).rdn
      r.accuse = 0 ∧ r.hbSeq = (x.rdn.hbSeq + 1) % 65536 ∧
      (∃ h, r.sent = some h ∧ h.lane = l ∧ h.state = laneStCode x.st ∧ h.seq = x.rdn.hbSeq ∧ h.dl = x.rd Reg.RDN_STAT.DL ∧
        h.key = x.rdn.key ∧ h.digest = x.rdn.digest ∧ h.accuse = x.rdn.accuse ∧ h.jseq = x.rd Reg.RDN_JSEQ.JSEQ ∧
        r.status = (if allComps.any (fun c => u.driver c == some l) then some (statusWordOf h) else none)) ∧
      (∀ i < 4, i ≠ laneIdx l → x.expects i = true → Sparse.get 0 r.missX i =
        (if within x.rdn.hbX i u.clk 1000 then 0
         else if within x.rdn.hbY i u.clk 1000 then Sparse.get 0 x.rdn.missX i + 1 else 0)) ∧
      r.bcLost = (if since x.rdn.beaconY u.clk 1000 || since x.rdn.beaconC u.clk 1000 then 0 else x.rdn.bcLost + 1))) ∧
  (∀ tm, Acts tm (.beaconSend tm) (fun u => u.wit.powered = true)
    (fun u v => v.wit.beaconSeq = (u.wit.beaconSeq + 1) % 65536 ∧ ∃ b, v.wit.beacon = some b ∧ b.seq = u.wit.beaconSeq ∧
      b.dl = u.wit.rd Reg.WIT_STAT.DL ∧ b.master = u.wit.rd Reg.WIT_STAT.MASTER ∧
      b.masterValid = u.wit.flag Reg.WIT_STAT.MASTER_VALID ∧ b.jseq = u.wit.rd Reg.WIT_JSEQ.JSEQ)) ∧
  (∀ tm l h, Acts tm (.heartbeatReceive tm (some l) h false)
    (fun u => (u.lane l).powered = true ∧ l ≠ h.lane ∧ (h.pathY = true → u.wit.powered = true))
    (fun u v => v = u.incL l Reg.XLK_ERR.CRC)) ∧
  (∀ tm l h, Acts tm (.heartbeatReceive tm (some l) h true)
    (fun u => (u.lane l).powered = true ∧ l ≠ h.lane ∧ (h.pathY = true → u.wit.powered = true) ∧
      (l = .D → u.wit.rd (Reg.WIT_STAT.LSTATE 3) ≠ 9))
    (fun u v => let r := (v.lane l).rdn
      Sparse.look r.hb (laneIdx h.lane) = some h ∧
      Sparse.look (if h.pathY then r.hbY else r.hbX) (laneIdx h.lane) = some u.clk ∧
      hasBit r.unheard (laneIdx h.lane) = false)) ∧
  (∀ tm h, Acts tm (.heartbeatReceive tm none h true)
    (fun u => u.wit.powered = true ∧ h.pathY = true)
    (fun u v => Sparse.look v.wit.hbAt (laneIdx h.lane) = some u.clk ∧ Sparse.look v.wit.hb (laneIdx h.lane) = some h ∧
      ((h.state = 6 ∨ h.state = 7) → (u.lane h.lane).st = .active → v.Lost h.lane h.cause 3))) ∧
  (∀ tm l w, w.dl ≤ 4 → w.master < 4 → Acts tm (.beaconReceive tm l true w true)
    (fun u => (u.lane l).powered = true ∧ u.wit.powered = true ∧ (u.lane l).flag Reg.RDN_STAT.WITNESSLESS = false)
    (fun u v => let x := v.lane l
      x.rdn.beacon = some w ∧ x.rdn.beaconY = some u.clk ∧ x.rd Reg.RDN_STAT.MASTER = w.master ∧
      x.rd Reg.RDN_STAT.MASTER_VALID = bit w.masterValid ∧ x.rd Reg.RDN_STAT.DL = w.dl ∧
      ∀ i < 4, i ≠ laneIdx l → x.rd (Reg.RDN_STAT.LSTATE i) = w.lstate / 16 ^ i % 16)) ∧
  (∀ tm l w, Acts tm (.beaconReceive tm l true w false) (fun u => (u.lane l).powered = true ∧ u.wit.powered = true)
    (fun u v => v = u.incL l Reg.XLK_ERR.CRC)) ∧
  (∀ tm l c w, Acts tm (.statusWordReceive tm l w true) (fun u => u.wit.powered = true ∧ u.driver c = some l)
    (fun u v => Sparse.look v.wit.stAt (laneIdx l) = some u.clk ∧ v.wit.rd (Reg.WIT_HB.SEEN_C (laneIdx l)) = 1 ∧
      ((w.state = 6 ∨ w.state = 7) → (u.lane l).st = .active → v.Lost l (u.lane l).rdn.cause 3))) ∧
  (∀ tm l p (y : Bool), Acts tm (.pathFail tm l (if y then .hbY p else .hbX p))
    (fun u => let r := (u.lane l).rdn
      (u.lane l).powered = true ∧ 3 ≤ Sparse.get 0 (if y then r.missY else r.missX) (laneIdx p) ∧
      Sparse.get false (if y then r.failY else r.failX) (laneIdx p) = false)
    (fun _ v => let r := (v.lane l).rdn
      Sparse.get false (if y then r.failY else r.failX) (laneIdx p) = true ∧ (v.lane l).flag Reg.RDN_STAT.SERVICE = true ∧
      (v.lane l).flag (if y then Reg.XLK_STAT.PATH_Y_FAIL else Reg.XLK_STAT.PATH_X_FAIL) = true)) ∧
  (∀ tm l, Acts tm (.pathFail tm l .beaconY)
    (fun u => (u.lane l).powered = true ∧ 3 ≤ (u.lane l).rdn.bcMissY ∧ (u.lane l).rdn.beaconYFail = false)
    (fun _ v => (v.lane l).rdn.beaconYFail = true ∧ v.latest l = 87 ∧ (v.lane l).flag Reg.RDN_STAT.SERVICE = true)) ∧
  (∀ tm l p (y : Bool), Acts tm (.pathRecover tm l (if y then .hbY p else .hbX p))
    (fun u => let r := (u.lane l).rdn
      (u.lane l).powered = true ∧ 100 ≤ Sparse.get 0 (if y then r.okY else r.okX) (laneIdx p) ∧
      Sparse.get false (if y then r.failY else r.failX) (laneIdx p) = true)
    (fun u v =>
      let r := (u.lane l).rdn
      let q := (v.lane l).rdn
      Sparse.get false (if y then q.failY else q.failX) (laneIdx p) = false ∧
      ((v.lane l).flag (if y then Reg.XLK_STAT.PATH_Y_FAIL else Reg.XLK_STAT.PATH_X_FAIL) = true ↔
        ∃ i < 4, i ≠ laneIdx p ∧ Sparse.get false (if y then r.failY else r.failX) i = true)))

/-- Losses (R17, R138, R261, R262, R266, R268 to R270, R272 to R274, R277, R286, R338, R461): a silent lane, four unresolved
keys, a companion's report, a supervisor's fault, an overtemperature or a failed lane port costs the lane, with its cause and
who decided; the odd report of a key is accused, by the witness and in the lanes' own comparison; a lane without beacons goes
on witnessless, one that does not hear an active peer unlinked; a SUSPECT lane retires after 2 ms. Where the words leave
room, the model's reading of log entries 67 to 70. -/
def Obligations.LaneLosses : Prop :=
  (∀ tm l, Acts tm (.laneSilent tm l)
    (fun u =>
      let w := u.wit
      let i := laneIdx l
      w.powered = true ∧ (u.lane l).st = .active ∧ w.rd (Reg.WIT_STAT.LSTATE i) = 5 ∧ within w.hbAt i u.clk 3000 = false ∧
      within w.stAt i u.clk 3000 = false ∧
      ∀ q < 4, q ≠ i → within w.hbAt q u.clk 3000 = true → ∀ h, Sparse.look w.hb q = some h → hasBit h.heardX i = false)
    (fun _ v => v.Lost l 7 1 ∧ (∀ c, homeComp l = some c → (v.comp c).quarP = true) ∧
      ∃ j ∈ v.wit.journal, j.step = 1 ∧ j.status = 1 ∧ j.target = laneIdx l ∧ j.arg = 7)) ∧
  (∀ tm l q, l ≠ q → Acts tm (.laneSilent tm l)
    (fun u => let x := u.lane q
      u.wit.powered = false ∧ (u.lane l).st = .active ∧ x.powered = true ∧ x.st = .active ∧
      x.flag Reg.RDN_STAT.WITNESSLESS = true ∧ (∀ i < 4, i ∈ x.activeView ↔ (i = laneIdx l ∨ i = laneIdx q)) ∧
      x.hears (laneIdx l) u.clk = false ∧ x.freshHb (laneIdx q) u.clk = none ∧ u.recActive q (laneIdx l) ≠ some true ∧
      hasBit x.rdn.judged (laneIdx l) = false ∧ (∀ r, r ≠ q → (u.lane r).flag Reg.RDN_STAT.WITNESSLESS = false))
    (fun _ v => v.Lost l 7 2)) ∧
  (∀ tm key v0, Acts tm (.voteEvaluate tm key)
    (fun u =>
      let act := (List.range 4).filter (fun i => u.wit.rd (Reg.WIT_STAT.LSTATE i) == 5)
      u.wit.powered = true ∧ u.wit.votes.find? (fun v => v.key == key) = some v0 ∧
      ((∀ i ∈ act, ∃ r ∈ v0.reps, r.1 = i) ∨ v0.at_ + 3000 ≤ u.clk) ∧
      (∀ r ∈ v0.reps, u.wit.rd (Reg.WIT_STAT.LSTATE r.1) = 5) ∧ (∀ r, (u.lane r).flag Reg.RDN_STAT.WITNESSLESS = false))
    (fun u v =>
      (ballot v0.reps = .agree → v.wit.disagree = 0) ∧
      (∀ i < 4, ballot v0.reps = .odd i → (u.lane (laneOf i)).powered = true →
        u.CountedL v (laneOf i) Reg.RDN_VOTE.ACCUSED ∧ v.wit.rd Reg.WIT_VOTE.LAST_ODD = i) ∧
      (ballot v0.reps = .tie → u.wit.disagree < 3 → v.wit.disagree = u.wit.disagree + 1) ∧
      (∀ i < 4, ballot v0.reps = .tie → 3 ≤ u.wit.disagree → tieLoser v0.reps = some i → (u.lane (laneOf i)).st = .active →
        v.wit.disagree = 0 ∧ v.Lost (laneOf i) 6 1))) ∧
  (∀ tm key v0 q i, i < 4 → ballot v0.reps = .odd i → Acts tm (.voteEvaluate tm key)
    (fun u => let x := u.lane q
      u.wit.votes.find? (fun v => v.key == key) = none ∧ (∀ r, (u.lane r).flag Reg.RDN_STAT.WITNESSLESS = false) ∧
      x.powered = true ∧ x.st = .active ∧ x.rdn.votes.find? (fun v => v.key == key) = some v0 ∧ v0.at_ + 3000 ≤ u.clk ∧
      ∀ r ∈ v0.reps, x.rd (Reg.RDN_STAT.LSTATE r.1) = 5 ∧ hasBit x.rdn.unheard r.1 = false)
    (fun u v => hasBit (v.lane q).rdn.accuse i = true ∧ (v.lane q).rdn.disagree = 0 ∧
      (∀ j, j ≠ i → hasBit (v.lane q).rdn.accuse j = hasBit (u.lane q).rdn.accuse j))) ∧
  (∀ tm c kind l, Acts tm (.companionReport tm c kind)
    (fun u => (u.comp c).powered = true ∧ u.selected c = some l ∧ (u.lane l).st = .active)
    (fun u v =>
      let x := u.comp c
      let by_ := if u.wit.powered then 1 else 3
      (kind = .releaseCheck → (x.flag (offFld false) = true ∨ x.flag (offFld true) = true) → v.Lost l 8 by_) ∧
      (kind = .lockout → (∃ b, x.flag (Reg.PWM_CFG.EN (bit b)) = true) →
        (∀ b, x.flag (Reg.PWM_CFG.EN (bit b)) = true → x.lockedOut b = true) →
        v.Lost l 10 by_ ∧ (v.comp c).flag Reg.CMPS_SW.DRIVE_LOST = true) ∧
      (kind = .timebase → x.flag Reg.CTB_STAT.FAIL = true → v.Lost l 10 by_ ∧ (v.comp c).flag Reg.CMPS_SW.DRIVE_LOST = true) ∧
      (kind = .portFail → x.sw = .primary → v.Lost l 9 by_))) ∧
  (∀ tm l, ∀ cmd ∈ [(Instr.supervisorFault tm l, 12), (.lanePortFail tm l, 9), (.laneOvertemp tm l, 13)], Acts tm cmd.1
    (fun u => (u.lane l).powered = true ∧ (u.lane l).st = .active) (fun _ v => v.Lost l cmd.2 3)) ∧
  (∀ tm l, Acts tm (.witnesslessEntry tm l)
    (fun u => (u.lane l).powered = true ∧ 3 ≤ (u.lane l).rdn.bcLost ∧ (u.lane l).flag Reg.RDN_STAT.WITNESSLESS = false)
    (fun _ v => (v.lane l).flag Reg.RDN_STAT.WITNESSLESS = true ∧ (v.lane l).flag Reg.RDN_STAT.D_AVAIL = false ∧
      (v.lane l).flag Reg.RDN_STAT.MASTER_VALID = false)) ∧
  (∀ tm l peer, Acts tm (.unlinkedEntry tm l peer)
    (fun u => let x := u.lane l
      x.powered = true ∧ x.st = .active ∧ l ≠ peer ∧ x.rd (Reg.RDN_STAT.LSTATE (laneIdx peer)) = 5 ∧
      x.hears (laneIdx peer) u.clk = false ∧ u.recSeen l (laneIdx peer) = true ∧ hasBit x.rdn.unheard (laneIdx peer) = false)
    (fun _ v => (v.lane l).flag Reg.RDN_STAT.UNLINKED = true ∧ hasBit (v.lane l).rdn.unheard (laneIdx peer) = true)) ∧
  (∀ tm l, ActsM tm (.suspectTimeout tm l)
    (fun _ u => (u.lane l).st = .suspect ∧ (u.lane l).rdn.suspectAt + 200000 ≤ u.clk)
    (fun m _ n v => (v.lane l).st = .retired ∧ (∀ r, r ≠ .D → n.lane r = m.lane r) ∧
      (l ≠ .D → (v.lane l).rd Reg.LCTL_STATUS.STATE = 7))) ∧
  (∀ tm l r, Acts tm (.journalRecordReceive tm l r) (fun u => (u.lane l).powered = true)
    (fun u v => (r ∈ (u.lane l).rdn.journal → v = u) ∧
      (r ∉ (u.lane l).rdn.journal → (v.lane l).rdn.journal = (r :: (u.lane l).rdn.journal).take 128 ∧
        (v.lane l).rd Reg.RDN_JSEQ.JSEQ = r.jseq % 2 ^ 32)))

/-- The bring-in of lane D and its proof (R67, R289 to R291, R294 to R296, R376, R380): supplies good, the image that the
proof record names, every copy held, or a limit that passes and ends the start; a proof ends with its record, lane D
unpowered and its memory lost, and passes only with fuses, image, memory, logic and injection test good. Where the words leave
room, the model's reading of log entries 72, 74, 115 and 141. -/
def Obligations.BringInAndProof : Prop :=
  (∀ tm certSig, Acts tm (.laneDSupplyGood ⟨tm, true, certSig⟩)
    (fun u => u.lD.powered = true ∧ u.lD.start.purpose ≠ 0 ∧ (u.lD.st = .boot ∨ u.lD.st = .spareWaking) ∧
      (lifeOf u.lD.fuses.life).isSome = true ∧ u.wit.flag Reg.WIT_VAULT.CERT = false)
    (fun u v => v.wit.bring = u.wit.bring.map (fun b => { b with good := true }) ∧ v.lD.rd Reg.LCTL_ID.LANE = 3 ∧
      v.lD.st = (if u.lD.st = .boot then .selftest else .spareWaking) ∧
      (u.wit.powered = true → v.wit.keys = [] ∧
        ∀ i k, u.wit.keys = [(i, some k)] → Sparse.look v.lD.mram.keys i = some k) ∧
      v.lD.rd Reg.LCTL_ID.STEP_L = u.lD.fuses.stepL % 2 ^ (Reg.LCTL_ID.STEP_L.hi + 1 - Reg.LCTL_ID.STEP_L.lo))) ∧
  (∀ tm certSig, Acts tm (.laneDSupplyGood ⟨tm, false, certSig⟩)
    (fun u => u.lD.powered = true ∧ u.lD.start.purpose = 2 ∧ u.lD.st = .spareWaking)
    (fun _ v => v.Lost .D 11 3 ∧ v.wit.bring = none)) ∧
  (∀ tm ok img b, ActsM tm (.imageLoaded tm ok img)
    (fun _ u => u.wit.powered = true ∧ u.wit.bring = some b ∧ u.lD.powered = true ∧ u.lD.st = .spareWaking ∧
      u.lD.start.mbist = true ∧ b.good = true ∧ b.loaded = false)
    (fun m u n v =>
      (ok = true → u.imageOk img = true → n.d = initMem img.init ∧ n.a = m.a ∧ n.b = m.b ∧ n.c = m.c ∧
        v.wit.bring = some { b with loaded := true } ∧ v.lD.start.init = true) ∧
      ((ok = false ∨ u.imageOk img = false) → n = m ∧ v.Lost .D 11 3))) ∧
  (∀ tm part crcOk l cp, Acts tm (.stateCopyReceive tm part crcOk)
    (fun u => u.master = some l ∧ l ≠ .D ∧ u.lD.powered = true ∧ (u.lane l).rdn.xferring = true ∧ u.lD.eng.begun = [] ∧
      (u.lane l).rdn.copies.find? (fun c => c.part == part) = some cp)
    (fun u v => (v.lane l).rdn.copies = (u.lane l).rdn.copies.erase cp ∧
      (crcOk = false → u.CountedL v .D Reg.XLK_ERR.CRC ∧ v.lD.rdn.copies = u.lD.rdn.copies) ∧
      (crcOk = true → cp ∈ v.lD.rdn.copies ∧ v.lD.rdn.copies = keepCopy u.lD.rdn.copies cp ∧
        (∀ b, u.wit.bring = some b → b.target.isSome = true → u.wit.powered = true → u.lD.st = .spareWaking → b.loaded = true →
          b.ready = true → b.tX = none → v.lD.holdsAll = true →
          v.wit.bring = some { b with tX := some u.clk } ∧ v.lD.rd Reg.RDN_XFER.PHASE = 4)))) ∧
  (∀ tm step b, Acts tm (.bringInDeadline tm step)
    (fun u => u.wit.powered = true ∧ u.wit.bring = some b ∧ u.lD.st = .spareWaking ∧
      ((step = 0 ∧ b.good = false ∧ b.tL + 50000 < u.clk) ∨ (step = 1 ∧ b.loaded = false ∧ b.tL + 405000 < u.clk) ∨
        (step = 2 ∧ b.ready = false ∧ b.tL + 410000 < u.clk) ∨
        (step = 3 ∧ b.tX = none ∧ max (b.tL + 410000) b.masterAt + 2 * u.longestP b.target +
          (b.late.map Prod.snd).foldl max 0 < u.clk)))
    (fun _ v => v.Lost .D 11 3 ∧ v.wit.bring = none)) ∧
  (∀ tm failStep aborted at_, failStep < 256 → ActsM tm (.proofWakeEnd tm failStep aborted)
    (fun _ u => u.wit.powered = true ∧ u.lD.powered = true ∧ u.lD.start.purpose = 1 ∧ u.wit.proving = some (false, at_))
    (fun m u n v =>
      let res := if aborted then 3 else if u.proofFails failStep = 0 then 1 else 2
      v.wit.proof = res ∧ v.wit.proofStep = (if res = 2 then u.proofFails failStep else 0) ∧ v.wit.proving = none ∧
      v.lD.powered = false ∧ v.lD.st = (if res = 1 then .spareCold else .off) ∧ n.d = {} ∧ n.a = m.a ∧ n.b = m.b ∧ n.c = m.c ∧
      v.wit.rd Reg.WIT_STAT.D_PWR = 0 ∧ ∀ r, (v.lane r).powered = true → (v.lane r).rd Reg.RDN_PROOF.RESULT = res)) ∧
  (∀ d : Dev, d.proofFails 0 = 0 ↔ d.lD.fusesOk = true ∧ d.lD.start.mbist = true ∧ d.lD.start.lbist = true ∧
    d.lD.start.inj = true ∧ ∃ img, d.wit.image = some img ∧ d.lD.imageFits img.svn = true)

/-! ### Host rings -/

/-- Ring traffic (R301 to R303, R305, R306, R308 to R312, R321): the poll reads the RCA; a response ends its request and shows
the host alive; doorbells are kept or stop their ring; a fetched descriptor becomes a command; an error stops the ring;
what has no response is sent again and fails after MAX_RETRY; a host that is silent for HOST_TMO is lost. Where the words
leave room, the model's reading of log entry 80. -/
def Obligations.RingTraffic : Prop :=
  (∀ tm l, Acts tm (.rcaPoll tm l)
    (fun u => let x := u.serving.lane l
      u.serving.ringOpen l = true ∧ x.ring.polled ≠ some x.fab.cycle ∧ x.fab.cycle % (x.rd Reg.RNG_CFG.CADENCE + 1) = 0)
    (fun u v =>
      let x := u.serving.lane l
      let y := v.lane l
      let q : Req := { what := .rca, addr := x.rca, len := 384, tag := x.rd Reg.RWP_STAT.NEXT_TAG, sent := x.fab.cycle }
      y.ring.polled = some x.fab.cycle ∧
      (x.ring.out.length < x.rd Reg.RWP_CFG.MAX_OUT → y.ring.out = x.ring.out ++ [q] ∧
        y.fab.etq = { kind := 6, node := x.rd Reg.RWP_CFG.HOST_NODE, payload := q.payload } :: x.fab.etq ∧
        y.rd Reg.RWP_STAT.NEXT_TAG = (x.rd Reg.RWP_STAT.NEXT_TAG + 1) % 256) ∧
      (x.rd Reg.RWP_CFG.MAX_OUT ≤ x.ring.out.length → y.ring.out = x.ring.out ∧
        y.ring.wait = { what := .rca, addr := x.rca, len := 384 } :: x.ring.wait))) ∧
  (∀ tm c f l q p, Acts tm (.rwpReadRsp tm c f) (fun u => (u.rwpRx c f 3).2 = some (l, q, p))
    (fun u v =>
      let x := u.lane l
      let y := v.lane l
      Sparse.look y.ring.ended q.tag = some (q.addr, q.len) ∧ y.ring.lastRsp = u.clk ∧ y.flag Reg.RNG_STAT.HOST_LOST = false ∧
      (q.what = .rca → ∀ r, 5 ≤ r → r < 8 → x.flag Reg.RNG_CFG.EN = true → x.stopped r = false →
        let word := leNat ((p.data.drop (16 * rcaSlot l r)).take 4)
        word / 65536 = x.rd (Reg.RNG_IDX.GEN r) →
        let dist := (x.rd (Reg.RNG_IDX.IDX r) + 65536 - word % 65536) % 65536
        (dist ≤ x.entries r → Sparse.look y.ring.host r = some (word % 65536)) ∧ (x.entries r < dist → y.stopped r = true)) ∧
      (∀ r, q.what = .fetch r (x.nextIdx r) 1 → q.gen = x.rd (Reg.RNG_IDX.GEN r) →
        let k : Cmd := { ring := r, gen := q.gen, idx := x.nextIdx r, raw := p.data.take 64 }
        (isApp k.opcode = true → x.appBusy = false) → (∀ j ∈ x.ring.cmds ++ [k], opcodes.contains j.opcode = true) →
        y.ring.cmds = x.ring.cmds ++ [k]))) ∧
  (∀ tm c f l q p, ActsM tm (.rwpWriteAck tm c f) (fun _ u => (u.rwpRx c f 4).2 = some (l, q, p) ∧ q.ring ≠ 4)
    (fun m u n v => n = m ∧ Sparse.look (v.lane l).ring.ended q.tag = some (q.addr, q.len) ∧ (v.lane l).ring.lastRsp = u.clk ∧
      (v.lane l).flag Reg.RNG_STAT.HOST_LOST = false)) ∧
  (∀ tm c f l q p r, Acts tm (.rwpErrorRsp tm c f)
    (fun u => (u.rwpRx c f 5).2 = some (l, q, p) ∧ r < 8 ∧ (q.ring = r ∨ ∃ i n, q.what = .fetch r i n))
    (fun u v => (v.lane l).stopped r = true ∧ u.CountedL v l Reg.RWP_CNT.DENIED)) ∧
  (∀ tm l q, Acts tm (.rwpResend tm l)
    (fun u => u.ringOpen l = true ∧ (u.lane l).ring.out = [q] ∧ (u.lane l).ring.wait = [] ∧ q.what = .rca ∧
      q.try_ ≤ (u.lane l).rd Reg.RWP_CFG.MAX_RETRY)
    (fun u v =>
      let n := (u.lane l).fab.cycle
      let y := v.lane l
      let q' := { q with try_ := q.try_ + 1, sent := n }
      (n < q.sent + 3 → v = u) ∧
      (q.sent + 3 ≤ n → q.try_ < (u.lane l).rd Reg.RWP_CFG.MAX_RETRY → y.ring.out = [q'] ∧ u.CountedL v l Reg.RWP_RETRY.COUNT ∧
        y.fab.etq = (u.lane l).fab.etq ++
          [{ kind := 6, node := (u.lane l).rd Reg.RWP_CFG.HOST_NODE, payload := q'.payload }]) ∧
      (q.sent + 3 ≤ n → q.try_ = (u.lane l).rd Reg.RWP_CFG.MAX_RETRY → y.ring.out = [] ∧ u.CountedL v l Reg.RWP_CNT.TIMEOUT ∧
        v.latest l = 11))) ∧
  (∀ tm l, Acts tm (.hostLost tm l)
    (fun u => let x := u.lane l
      x.powered = true ∧ x.flag Reg.RNG_CFG.EN = true ∧ x.ringState = true ∧ x.flag Reg.RNG_STAT.HOST_LOST = false ∧
      x.ring.lastRsp + x.rd Reg.RWP_CFG.HOST_TMO * 1000000 ≤ u.clk)
    (fun _ v => (v.lane l).flag Reg.RNG_STAT.HOST_LOST = true ∧ v.latest l = 9)) ∧
  (∀ tm l r qs, Acts tm (.ringGenRewrite tm l r)
    (fun u => let x := u.lane l
      x.powered = true ∧ x.ringState = true ∧ Sparse.look x.ring.redo r = some qs ∧
      (∀ q ∈ x.ring.out, q.ring = r → x.stale q = false) ∧ x.rd Reg.RWP_CFG.MAX_OUT ≤ x.ring.out.length)
    (fun u v => Sparse.look (v.lane l).ring.redo r = none ∧ (v.lane l).ring.out = (u.lane l).ring.out ∧
      (v.lane l).ring.wait = (u.lane l).ring.wait ++ qs)) ∧
  (∀ tm c f l h, Acts tm (.wakeDbReceive tm c f) (fun u => (u.rxEt c f 7).2 = some (l, h))
    (fun u v =>
      let named := ∃ r < 8, hasBit ((h.payload.getD 0 0)).toNat r = true ∧ (u.lane l).serves r = true
      (named → (v.lane l).ring.extra = some ((u.lane l).ring.extra.getD ((u.lane l).fab.cycle + 1))) ∧ (¬ named → v = u)))

/-- Host commands (R285, R314, R315, R319 to R324, R326 to R328, R362, R412): a command whose turn it is completes with the
code of the first check it fails, or is performed: NOP, READ_REGS, CLEAR_CAPSULE, FLUSH_RING and POWER_REQ complete, an
APP command is forwarded with its T_app, applied there in every lane where it is legal, and times out where no named task
runs. Where the words leave room, the model's reading of log entries 49, 76 to 79 and 81. -/
def Obligations.HostCommands : Prop :=
  (∀ tm l i c code, ∀ cmd ∈ [(1, Instr.nop tm l), (2, .appDrive tm l), (3, .appSafe tm l), (4, .appConfig tm l), (16, .readRegs tm l),
      (17, .clearCapsule tm l), (18, .flushRing tm l), (32, .powerReq tm l)],
    Acts tm cmd.2 (fun u => u.Turn l cmd.1 i c ∧ u.checkCmd l c = some code)
      (fun u v => u.Completed v l c code [] ∧ (v.lane l).ring.cmds = (u.lane l).ring.cmds.eraseIdx i)) ∧
  (∀ tm l i c, Acts tm (.nop tm l) (fun u => u.Turn l 1 i c ∧ u.checkCmd l c = none)
    (fun u v => u.Completed v l c 0 [] ∧ (v.lane l).ring.cmds = (u.lane l).ring.cmds.eraseIdx i)) ∧
  (∀ tm l i c, Acts tm (.readRegs tm l) (fun u => u.Turn l 16 i c ∧ u.checkCmd l c = none)
    (fun u v =>
      let ws := Dev.readWords l c.regAddrs (u.modLane l (·.takeCmd i))
      ((∀ w ∈ ws, w.1 ≠ accTimeout) →
        u.Completed v l c (if ws.all (fun w => w.1 == accOk) then 0 else 1) (ws.flatMap (fun w => leBytes 4 w.2))) ∧
      (∀ k, ws.findIdx? (fun w => w.1 == accTimeout) = some k → ∃ a, (v.lane l).ring.regsRd = some a ∧ a.cmd = c ∧
        a.word = k ∧ a.addr = c.regAddrs.getD k 0 ∧ a.at_ = u.clk))) ∧
  (∀ tm l i c, Acts tm (.clearCapsule tm l) (fun u => u.Turn l 17 i c ∧ u.checkCmd l c = none)
    (fun u v => u.Completed v l c 0 [] ∧
      ((Sparse.get {} (u.lane l).bbx.caps 1).state ≠ 2 → (Sparse.get {} (v.lane l).bbx.caps 1).state = 0 ∧
        (v.lane l).rd (Reg.BBX_CAP_STAT.STATE 0) = 0) ∧
      ((Sparse.get {} (u.lane l).bbx.caps 1).state = 2 → (Sparse.get {} (v.lane l).bbx.caps 1).state = 2))) ∧
  (∀ tm l i c, Acts tm (.flushRing tm l) (fun u => u.Turn l 18 i c ∧ u.checkCmd l c = none)
    (fun u v =>
      let h := (u.lane l).bbx.hold c.arg0
      let n := h.evts.length + h.recs.length
      u.Completed v l c 0 [] ∧ ((v.lane l).bbx.hold c.arg0).evts = [] ∧ ((v.lane l).bbx.hold c.arg0).recs = [] ∧
      ((v.lane l).bbx.hold c.arg0).gapCnt = h.gapCnt + n ∧
      (n ≠ 0 → (v.lane l).rd (Reg.RNG_GAP.COUNT (c.arg0 - 5)) =
        min ((u.lane l).rd (Reg.RNG_GAP.COUNT (c.arg0 - 5)) + n) (Reg.RNG_GAP.COUNT (c.arg0 - 5)).max))) ∧
  (∀ tm l i c, Acts tm (.powerReq tm l) (fun u => u.Turn l 32 i c ∧ u.checkCmd l c = none)
    (fun u v =>
      let idle := u.pwr.vote = none ∧ u.pwr.passed = none
      (¬ idle → u.Completed v l c 6 []) ∧
      (idle → c.arg0 ≤ u.pwr.state → u.Completed v l c 0 [] ∧ v.pwr.state = c.arg0) ∧
      (idle → u.pwr.state < c.arg0 → v.pwr.vote = some { lane := l, cmd := c, target := c.arg0, at_ := u.clk } ∧
        v.pwr.state = u.pwr.state ∧ (v.lane l).ring.power = some c ∧ (v.lane l).rd Reg.PWR_STATE.VOTING = 1))) ∧
  (∀ tm l i c, ∀ cmd ∈ [(2, Instr.appDrive tm l), (3, .appSafe tm l), (4, .appConfig tm l)],
    Acts tm cmd.2 (fun u => u.Turn l cmd.1 i c ∧ u.checkCmd l c = none)
      (fun u v => (v.lane l).ring.cmds = (u.lane l).ring.cmds.eraseIdx i ∧ ∃ a, (v.lane l).ring.app = some (c, a) ∧
        a.opcode = c.opcode ∧ a.seq = c.seq ∧ a.args = c.arg 0x10 32 ∧ a.src = l ∧
        a.tApp = (u.lane l).cycleFrom ((u.laneTime l).1 + (u.lane l).rd Reg.RNG_CFG.APPLY_LEAD * 100))) ∧
  (∀ tm l a, Acts tm (.appForwardReceive tm l)
    (fun u => u.forwardTo l = some a ∧ (u.lane l).powered = true ∧ (u.lane l).st = .active)
    (fun u v => (v.lane l).ring.fwd = (u.lane l).ring.fwd ++ [{ a with late := decide (a.tApp < (u.laneTime l).1) }] ∧
      (a.tApp < (u.laneTime l).1 → v.latest l = 10))) ∧
  (∀ tm l c a, Acts tm (.appApply tm l)
    (fun u => let x := u.lane l
      x.powered = true ∧ x.ring.fwd = [] ∧ x.ring.app = some (c, a) ∧ a.tApp ≤ (u.laneTime l).1 ∧ c.ring < 4 ∧
      c.gen = x.rd (Reg.RNG_IDX.GEN c.ring) ∧ ∀ k ∈ x.ring.cmds, opcodes.contains k.opcode = true)
    (fun u v =>
      let x := u.lane l
      let y := v.lane l
      y.ring.app = none ∧
      (x.legalServe a.opcode = true → y.ring.prevBlk = x.ring.block ∧ y.ring.block =
        { seq := a.seq, opcode := a.opcode, ring := a.ring, args := a.args, newFor := x.appTasks, tApp := a.tApp }) ∧
      (x.legalServe a.opcode = false → y.ring.block = x.ring.block ∧ u.Completed v l c 2 []))) ∧
  (∀ tm l a, Acts tm (.appApply tm l)
    (fun u => let x := u.lane l
      x.powered = true ∧ x.ring.fwd = [a] ∧ x.ring.app = none ∧ a.tApp ≤ (u.laneTime l).1)
    (fun u v =>
      let x := u.lane l
      let y := v.lane l
      let ok := x.seesLost a.src = false ∧ x.legalCmd a.opcode = true
      y.ring.fwd = [] ∧ (¬ ok → y.ring.block = x.ring.block) ∧
      (ok → y.ring.block =
        { seq := a.seq, opcode := a.opcode, ring := a.ring, args := a.args, newFor := x.appTasks, tApp := a.tApp }))) ∧
  (∀ tm l c a, Acts tm (.appTimeout tm l)
    (fun u => let x := u.lane l
      x.powered = true ∧ x.ring.due = [{ app := a, cmd := some c }] ∧ a.tApp + 10000000 ≤ (u.laneTime l).1 ∧ c.ring < 4 ∧
      c.gen = x.rd (Reg.RNG_IDX.GEN c.ring) ∧ ∀ k ∈ x.ring.cmds, opcodes.contains k.opcode = true)
    (fun u v => (v.lane l).ring.due = [{ app := a }] ∧ u.Completed v l c 10 []))

/-! ### Memory, power and time -/

/-- Chord SRAM under repair (R332 to R337, R348): a scrub read that is clean changes no memory, a corrected word is written
back, a word that does not decode keeps its condition; a copy that ends switches its element; a grant held for more than 2
µs is ended. Where the words leave room, the model's reading of log entries 23 and 82. -/
def Obligations.MemoryUpkeep : Prop :=
  (∀ tm l g e, g < 8 → ActsM tm (.scrubRead tm l g e)
    (fun _ u => (u.lane l).powered = true ∧ (u.lane l).groupHeld g = false)
    (fun m u n v =>
      let w := (u.lane l).mem.slotWord g
      let o := (m.lane l).outcome w e
      (n.lane l).cells = (m.lane l).cells ∧ (∀ r, r ≠ l → n.lane r = m.lane r) ∧
      (o = none → n = m) ∧
      (∀ b, o = some (.corr b) → Sparse.look (n.lane l).cond w = none ∧ (v.lane l).rdn.evid = true) ∧
      (o = some .uncorr ∨ o = some .addr ∨ o = some .poison → Sparse.look (n.lane l).cond w = o) ∧
      ((u.lane l).mem.due.find? (fun w => groupOf w == g) = none →
        Sparse.get 0 (v.lane l).mem.paced g = Sparse.get 0 (u.lane l).mem.paced g + 1))) ∧
  (∀ tm l g j, g < 8 → ActsM tm (.repairCopyDone tm l g)
    (fun _ u => (u.lane l).powered = true ∧ (u.lane l).mem.jobs.find? (fun j => j.bank / 8 == g) = some j)
    (fun m u n v => n = m.setLane l ((m.lane l).copied j) ∧ (v.lane l).mem.jobs = (u.lane l).mem.jobs.erase j ∧
      v.latest l = 102 ∧ (j.kind = 3 → (v.lane l).rd (Reg.MEM_BANK_STAT.PHYS j.bank) = j.phys % 128) ∧
      (v.lane l).rd Reg.MEM_STAT.COPY = bit (!((u.lane l).mem.jobs.erase j).isEmpty))) ∧
  (∀ tm l g, Acts tm (.arbHoldTimeout tm l g)
    (fun u => let h := (u.lane l).eng.h0
      (u.lane l).powered = true ∧ h.overheld g (u.laneTime l).1 = true)
    (fun u v => (v.lane l).eng.h0 = (u.lane l).eng.h0.endGrant g ∧ u.CountedL v l Reg.ARB_LOCKERR.HOLD_TMO ∧
      (v.lane l).rd Reg.ARB_LOCKERR.LAST_SRC = 1 ∧ v.latest l = 104))

/-- Power states and time (R324, R357, R358, R360, R362, R364, R365, R367 to R374): every voter's answer decides a request;
the entry to SLEEP or OFF takes power from lanes A to C and the companions at a retention edge and keeps the count there;
a wake telegram of a matching address starts the device; every companion then shows the same restored time. Where the
words leave room, the model's reading of log entries 29 and 75. -/
def Obligations.PowerStates : Prop :=
  (∀ tm l w, Acts tm (.powerVoteRequest tm l) (fun u => u.pwr.vote = some w ∧ u.voters.contains (laneIdx l) = true)
    (fun u v => v = { u with pwr := { u.pwr with
      vote := some { w with answers := Sparse.put w.answers (laneIdx l) ((u.refusals l w.target).headD 0) } } })) ∧
  (∀ tm who w, who < 4 → Acts tm (.powerVoteAnswer tm who)
    (fun u => u.pwr.vote = some w ∧ (Sparse.look w.answers who).isSome = true ∧ w.cmd.ring < 4 ∧
      w.cmd.gen = (u.lane w.lane).rd (Reg.RNG_IDX.GEN w.cmd.ring))
    (fun u v =>
      let got := if w.got.contains who then w.got else who :: w.got
      ((∃ i ∈ u.voters, i ∉ got) → v = { u with pwr := { u.pwr with vote := some { w with got := got } } }) ∧
      ((∀ i ∈ u.voters, i ∈ got) → v.pwr.vote = none ∧
        ((∀ a ∈ w.answers, a.2 = 0) → u.Completed v w.lane w.cmd 0 [] ∧
          v.pwr.passed = some (w.target, w.lane, (u.lane w.lane).rd (Reg.RNG_IDX.IDX 4))) ∧
        (∀ a t, w.answers.filter (fun a => a.2 != 0) = a :: t → u.Completed v w.lane w.cmd 6 [] ∧
          v.pwr.passed = u.pwr.passed ∧ u.CountedL v w.lane Reg.PWR_REFUSE_CNT.COUNT ∧
          (v.lane w.lane).rd Reg.PWR_REFUSE_WHO.BLOCK = a.2 % 256)))) ∧
  (∀ tm w, Acts tm (.powerVoteTimeout tm)
    (fun u => u.pwr.vote = some w ∧ w.at_ + 1000000 ≤ u.clk ∧ w.cmd.ring < 4 ∧
      w.cmd.gen = (u.lane w.lane).rd (Reg.RNG_IDX.GEN w.cmd.ring))
    (fun u v => v.pwr.vote = none ∧ u.Completed v w.lane w.cmd 10 [])) ∧
  (∀ tm tK target, ActsM tm (.retentionEdgeEntry tm)
    (fun _ u => u.pwr.tK = some (tK, target) ∧ tK + 200000 ≤ u.clk ∧ u.wit.powered = true ∧
      u.lA.powered = true ∧ u.lB.powered = true ∧ u.lC.powered = true)
    (fun m u n v =>
      let woken := target = 3 ∧ ∃ w, u.pwr.wakeAt = some w ∧ tK ≤ w
      v.pwr.tK = none ∧ v.wit.nEntry = u.wit.ret ∧ n.a = {} ∧ n.b = {} ∧ n.c = {} ∧
      (∀ l, l ≠ .D → (v.lane l).powered = false ∧ (v.lane l).st = .off) ∧ (∀ c, (v.comp c).powered = false) ∧
      (target = 4 → v.wit.retMark = true) ∧
      (¬ woken → v.pwr.state = target ∧ v.lD.powered = true ∧ v.lD.start.purpose = 1 ∧ v.lD.st = .boot ∧
        v.wit.rd Reg.WIT_STAT.D_PWR = 1 ∧ (u.lD.powered = true → n.d = m.d)) ∧
      (woken → v.pwr.state = 0 ∧ v.wit.proof = 3 ∧ v.lD.powered = false ∧ v.wit.release = true))) ∧
  (∀ tm, Acts tm (.retentionEdgeWake tm)
    (fun u => u.pwr.wakeAt.isSome = true ∧ u.wit.powered = true ∧ ∀ c, (u.comp c).running = true)
    (fun u v => v.pwr.wakeAt = none ∧ v.wit.nWake = u.wit.ret ∧ ∀ c, (v.comp c).ticks = (u.comp c).ticks ∧
      (v.comp c).tcorr = (if u.wit.lostStart then 0 else restoredT u.wit.tEntry u.wit.nEntry u.wit.ret % 2 ^ 64) ∧
      (u.wit.lostStart = false → (v.comp c).flag Reg.CTB_STAT.RESTORED = true))) ∧
  (∀ tm bits a src, ActsM tm (.wakeTelegramEnd tm bits)
    (fun _ u => u.wit.powered = true ∧ telegramAddr bits = some a ∧ u.wakeMatch a = some src ∧ u.pwr.tK = none)
    (fun m u n v => (u.pwr.state ≤ 1 → v = u ∧ n = m) ∧
      (u.pwr.state = 2 → v.pwr.state = 0 ∧ v.wit.flag Reg.WIT_WAKE.SEEN = true ∧ v.wit.rd Reg.WIT_WAKE.ADDR = a % 2048) ∧
      (u.pwr.state = 3 → v.pwr.state = 0 ∧ v.pwr.src = src ∧ v.pwr.addr = a ∧ v.pwr.wakeAt = some u.clk ∧ v.wit.release = true ∧
        v.wit.flag Reg.WIT_WAKE.SEEN = true ∧ v.wit.rd Reg.WIT_WAKE.ADDR = a % 2048))) ∧
  (∀ tm bits a src tK, Acts tm (.wakeTelegramEnd tm bits)
    (fun u => u.wit.powered = true ∧ u.pwr.state ≠ 4 ∧ telegramAddr bits = some a ∧ u.wakeMatch a = some src ∧ u.pwr.tK = some tK)
    (fun u v => v = { u with pwr := { u.pwr with wakeAt := some u.clk, src := src, addr := a } })) ∧
  (∀ tm bits, ActsM tm (.wakeTelegramEnd tm bits) (fun _ u => telegramAddr bits = none ∨ u.pwr.state = 4)
    (fun m u n v => v = u ∧ n = m)) ∧
  (∀ tm c, Acts tm (.timebaseLock tm c) (fun u => (u.comp c).powered = true ∧ (u.comp c).flag Reg.CTB_STAT.FAIL = false)
    (fun u v => v = u.setComp c (({ u.comp c with running := true }.wr Reg.CTB_STAT.XTAL_OK 1).wr Reg.CTB_STAT.LOCK 1)))
/-! ### Supplies, clocks and start-up -/

/-- Pads, supplies, clocks and temperature (R266, R366, R370, R371, R374, R388, R394, R410, R458, R460, R461, R463): a held
pad group is released and told; a supply, a crystal or the retention oscillator that fails takes with it what the rules
name. Where the words leave room, the model's reading of log entry 94. -/
def Obligations.SuppliesAndClocks : Prop :=
  (∀ tm l n c, n < 4 → Acts tm (.padRelease tm l n)
    (fun u => (u.lane l).powered = true ∧ ((u.lane l).st ≠ .minimal ∨ n = 0 ∨ n = 3) ∧ (u.lane l).rd Reg.LCS_STATE.STATE ≠ 5 ∧
      u.adopted l = some c ∧ ((u.comp c).handshake = false ∨ n = 0) ∧
      (if n = 0 then (u.lane l).flag (Reg.PWR_PAD_STAT.HELD 0) = true else hasBit (u.comp c).pads n = true))
    (fun u v => v.latest l = 107 ∧ (v.lane l).rd (Reg.PWR_PAD_STAT.HELD n) = 0 ∧
      (v.lane l).rd (Reg.PWR_PAD_RELEASE.RELEASE n) = 1 ∧
      (v.comp c).pads = if n = 0 then (u.comp c).pads else putBit (u.comp c).pads n false)) ∧
  (∀ tm l n, Acts tm (.padRelease tm l n)
    (fun u => (u.lane l).rd Reg.LCS_STATE.STATE = 5 ∨ ((u.lane l).st = .minimal ∧ (n = 1 ∨ n = 2)) ∨
      (n ≠ 0 ∧ ∃ c, u.adopted l = some c ∧ (u.comp c).handshake = true)) (fun u v => v = u)) ∧
  (∀ tm c, Acts tm (.crystalFail tm c)
    (fun u => (u.comp c).powered = true ∧ (u.comp c).flag Reg.CTB_STAT.FAIL = false ∧ (u.lane (homeLane c)).inStart = false)
    (fun u v => (v.comp c).running = false ∧ (v.comp c).flag Reg.CTB_STAT.FAIL = true ∧ (v.comp c).rd Reg.CTB_STAT.LOCK = 0 ∧
      (∀ b, v.driving c b = false) ∧ (v.comp c).flag Reg.CMPS_SW.DRIVE_LOST = true ∧
      ∀ l, u.selected c = some l → (u.lane l).st = .active → v.Lost l 10 (if u.wit.powered then 1 else 3))) ∧
  (∀ tm c, Acts tm (.crystalFail tm c)
    (fun u => (u.comp c).powered = true ∧ (u.comp c).flag Reg.CTB_STAT.FAIL = false ∧
      (u.lane (homeLane c)).powered = true ∧ (u.lane (homeLane c)).inStart = true)
    (fun u v => u.StartFailed v (homeLane c) 5 0 ∧ (v.comp c).running = false)) ∧
  (∀ tm, Acts tm (.retentionOscFail tm) (fun u => u.wit.powered = true)
    (fun u v => v.wit.retRun = false ∧ v.wit.retMark = true ∧ v.wit.rd Reg.WIT_STAT.RET_LOST = 1 ∧
      ∀ l, u.master = some l → (u.lane l).powered = true → v.latest l = 130)) ∧
  (∀ tm l c tS, Acts tm (.companionLockTimeout tm l)
    (fun u => homeComp l = some c ∧ (u.lane l).start.tS = some tS ∧ (u.lane l).powered = true ∧ (u.lane l).st = .boot ∧
      tS + 500000 ≤ u.clk ∧ (u.comp c).running = false)
    (fun u v => u.StartFailed v l 5 0)) ∧
  (∀ tm l, ActsM tm (.supplyLoss tm l true) (fun _ u => (u.lane l).powered = true ∧ (u.lane l).st = .active)
    (fun m _ n v => n = m ∧ v.Lost l 13 3 ∧ (v.lane l).rd (Reg.ARB_PRIO.PRIO 7) = 0)) ∧
  (∀ tm l, ActsM tm (.supplyLoss tm l false) (fun _ u => (u.lane l).powered = true)
    (fun m _ n v => (v.lane l).powered = false ∧ (v.lane l).st = .off ∧ n.lane l = {} ∧ ∀ r, r ≠ l → n.lane r = m.lane r)) ∧
  (∀ tm c, Acts tm (.companionSupplyLoss tm c)
    (fun u => (u.comp c).powered = true ∧ (u.lane (homeLane c)).inStart = false)
    (fun u v => (v.comp c).powered = false ∧ (v.comp c).running = false ∧ (∀ b, v.driving c b = false) ∧
      (∀ l, u.selected c = some l → (u.lane l).st ≠ .active → (u.lane l).st ≠ .spareWaking →
        (v.lane l).rd Reg.JLF_START_STAT.PHASE = 0) ∧
      (u.wit.powered = true → v.wit.rd (Reg.WIT_SW.DRIVE_LOST (compIdx c)) = 1) ∧
      ∀ l, u.selected c = some l → (u.lane l).st = .active → v.Lost l 10 (if u.wit.powered then 1 else 3))) ∧
  (∀ tm, ActsM tm (.witnessSupplyLoss tm) (fun _ _ => True)
    (fun m u n v => (∀ l, l ≠ .D → n.lane l = m.lane l) ∧
      (u.lD.st = .spareWaking ∨ u.lD.st = .active → v.lD.powered = u.lD.powered ∧ n.d = m.d) ∧
      (u.lD.st ≠ .spareWaking → u.lD.st ≠ .active → v.lD.powered = false ∧
        (u.lD.powered = true → v.lD.mram.dirty = none)) ∧
      v.wit.powered = false ∧ v.wit.fltHigh = false ∧ v.wit.rd Reg.WIT_STAT.DEVRDY = 0 ∧ v.wit.retMark = true ∧
      v.wit.image = u.wit.image ∧ v.wit.journal = u.wit.journal ∧ v.wit.proof = u.wit.proof ∧ v.wit.keys = u.wit.keys ∧
      v.wit.cert = u.wit.cert ∧ v.wit.summs = u.wit.summs ∧ v.wit.rd Reg.WIT_EPOCH.EPOCH = u.wit.rd Reg.WIT_EPOCH.EPOCH)) ∧
  (∀ tm c t, Acts tm (.companionOvertemp tm c) (fun u => (u.comp c).powered = true ∧ (u.comp c).tCmp = some t)
    (fun u v => (t ≤ 2560 → v = u) ∧ (2560 < t → (v.comp c).overtemp = true ∧ ∀ b, v.driving c b = false ∧
      ((v.comp c).bridge b).waitRel = true))) ∧
  (∀ tm c t, Acts tm (.companionTempReturn tm c) (fun u => (u.comp c).tCmp = some t)
    (fun u v => (t < 2400 → v = u.modComp c (fun x => { x with overtemp := false })) ∧ (2400 ≤ t → v = u))) ∧
  (∀ tm l tS hupOk, Acts tm (.hupChargeCheck tm l hupOk)
    (fun u => (u.lane l).start.tS = some tS ∧ (u.lane l).powered = true ∧ (u.lane l).inStart = true ∧ l ≠ .D)
    (fun u v => (hupOk = false → tS + 15000000 ≤ u.clk → u.StartFailed v l 10 0) ∧
      (hupOk = false → u.clk < tS + 15000000 → v = u) ∧
      (hupOk = true → (u.lane l).start.inj = true → (v.lane l).st = .ready ∧ (v.lane l).rd Reg.LCTL_STATUS.STATE = 4))) ∧
  (∀ tm l, Acts tm (.hupLow tm l) (fun u => (u.lane l).powered = true ∧ (u.lane l).started = true)
    (fun _ v => (v.lane l).hupLow = true ∧ (v.lane l).service = true ∧ (v.lane l).rd Reg.RDN_STAT.SERVICE = 1))

/-- The start of a lane (R13, R67, R120, R289, R371, R373 to R385, R419, R420, R436, R438, R463): the witness releases, the supplies
start BOOT, each step leads to the next state of R375, and each check that fails ends the start with its cause. Where the
words leave room, the model's reading of log entries 30, 72 and 73. -/
def Obligations.LaneStart : Prop :=
  let calm := fun (u : Dev) (l : LaneId) => (u.lane l).powered = true ∧ (u.lane l).st = .boot ∧ l ≠ .D ∧
    (u.lane l).rdn.beacon.isSome = true ∧ u.wit.flag Reg.WIT_VAULT.CERT = false
  (∀ tm, Acts tm (.witnessPowerOn tm) (fun u => u.wit.powered = false)
    (fun u v => v.wit.powered = true ∧ v.wit.release = true ∧ v.wit.retRun = true ∧ v.wit.retMark = false ∧ v.wit.lostStart = true ∧
      v.wit.rd Reg.WIT_EPOCH.EPOCH = (u.wit.rd Reg.WIT_EPOCH.EPOCH + 1) % 2 ^ 32 ∧ v.wit.image = u.wit.image ∧
      v.wit.journal = u.wit.journal ∧ v.pwr.state = 0 ∧ v.pwr.wakeAt = some u.clk)) ∧
  (∀ tm l c, Acts tm (.supplyGood tm l false)
    (fun u => homeComp l = some c ∧ u.wit.powered = true ∧ u.wit.release = true ∧ (u.lane l).powered = false)
    (fun _ v => (v.lane l).powered = true ∧ (v.lane l).fuses.bad = true ∧ (v.lane l).rd Reg.LCTL_START_CAUSE.CAUSE = 1 ∧
      (v.lane l).rd Reg.LCTL_START_CAUSE.STATE = 1)) ∧
  (∀ tm l c ok, Acts tm (.supplyGood tm l ok)
    (fun u => homeComp l = some c ∧ u.wit.powered = true ∧ u.wit.release = true ∧ (u.lane l).powered = true ∧
      (u.comp c).powered = false)
    (fun u v => (v.comp c).powered = true ∧ (v.comp c).sw = .primary ∧ (v.comp c).goodAt = some u.clk ∧
      (v.comp c).handshake = (u.wit.rd (Reg.WIT_SW.POS (compIdx c)) != 0 || u.wit.flag (Reg.WIT_SW.QUAR (compIdx c))) ∧
      (v.lane l).powered = true)) ∧
  (∀ tm l c st, Acts tm (.supplyGood tm l true)
    (fun u => homeComp l = some c ∧ u.wit.powered = true ∧ u.wit.release = true ∧ (u.lane l).powered = false ∧
      lifeOf (u.lane l).fuses.life = some st)
    (fun u v => (v.lane l).powered = true ∧ (v.lane l).st = .boot ∧ (v.lane l).start.tS = some u.clk ∧
      (v.lane l).start.tS0 = some u.clk ∧ (v.comp c).powered = true ∧
      (v.lane l).rd Reg.LCTL_RESET_CAUSE.CAUSE = (if u.pwr.src = 1 then 1 else 2) ∧ (v.lane l).rd Reg.LCS_STATE.STATE = st ∧
      (v.lane l).rd Reg.LCTL_ID.LANE = laneIdx l)) ∧
  (∀ tm l o i, Acts tm (.bootComplete tm l o)
    (fun u => let x := u.lane l
      let img := if i = 0 then o.imgA else o.imgB
      calm u l ∧ x.fusesOk = true ∧ x.life ≠ 0 ∧ x.life ≠ 5 ∧ o.supOk = true ∧ o.mramOk = true ∧ x.mram.trimsLost = false ∧
      x.mram.wearLost ≠ 3 ∧ x.selectSlot (x.slotOk 0 o.sigA o.hashA) (x.slotOk 1 o.sigB o.hashB) = some i ∧
      ruleBroken img (fun k => (Sparse.look x.mram.keys k).isSome) = none)
    (fun _ v => let img := if i = 0 then o.imgA else o.imgB
      (v.lane l).st = .calib ∧ (v.lane l).rd Reg.LCS_IMG.SEL = i % 2 ∧ (v.lane l).flag Reg.LCTL_SETUP.LOCK = true ∧
      (v.lane l).image = img.digest ∧ (v.lane l).start.img = some img)) ∧
  (∀ tm l o, Acts tm (.bootComplete tm l o) (fun u => calm u l)
    (fun u v => let x := u.lane l
      let go := x.fusesOk = true ∧ x.life ≠ 0 ∧ x.life ≠ 5
      let kept := o.mramOk = true ∧ x.mram.trimsLost = false ∧ x.mram.wearLost ≠ 3
      (x.fusesOk = false → u.StartFailed v l 1 0) ∧
      (x.fusesOk = true → (x.life = 0 ∨ x.life = 5) → v = u) ∧
      (go → o.supOk = false → u.StartFailed v l 2 0) ∧
      (go → o.supOk = true → ¬ kept → u.StartFailed v l 12 0) ∧
      (go → o.supOk = true → kept → (o.sigA && o.hashA) = false → (o.sigB && o.hashB) = false → u.StartFailed v l 3 0))) ∧
  (∀ tm l, Acts tm (.setupLock tm l)
    (fun u => (u.lane l).powered = true ∧ (u.lane l).st = .boot ∧ (u.lane l).life ≠ 0 ∧ (u.lane l).life ≠ 5 ∧
      (u.lane l).flag Reg.LCTL_SETUP.LOCK = false)
    (fun u v => (v.lane l).flag Reg.LCTL_SETUP.LOCK = true ∧ (v.lane l).rd Reg.LCTL_STATUS.LOCKED = 1 ∧ v.latest l = 6 ∧
      ∀ c, u.reaches l = some c → (v.comp c).locked = true)) ∧
  (∀ tm at_ l, Acts tm (.vaultImageWriteDone tm) (fun u => u.wit.copying = some (at_, l))
    (fun u v => v = u.modWit (fun w => ({ w with copying := none, image := (u.lane l).start.img }.wr Reg.WIT_VAULT.COPYING 0).wr
      Reg.WIT_VAULT.IMG_OK (bit (u.lane l).start.img.isSome)))) ∧
  (∀ tm l c r, Acts tm (.calibComplete tm l r)
    (fun u => (u.lane l).powered = true ∧ (u.lane l).st = .calib ∧ u.adopted l = some c ∧ (u.lane l).life ≠ 5)
    (fun u v => (v.comp c).calRun = true ∧ (v.comp c).rd Reg.MFE_STAT.CAL_DONE = bit r.done ∧
      (r.done = true → (v.lane l).st = .selftest ∧ ((u.comp c).handshake = false → hasBit (v.comp c).pads 3 = false)) ∧
      (r.done = false → u.StartFailed v l 6 0))) ∧
  (∀ tm c g r, Acts tm (.companionCalibCommand tm c r)
    (fun u => (u.comp c).goodAt = some g ∧ u.wit.powered = true ∧ (u.comp c).powered = true ∧ (u.comp c).calRun = false)
    (fun u v => (u.clk < g + 3500000 ∨ (u.lane (homeLane c)).st = .calib → v = u) ∧
      (g + 3500000 ≤ u.clk → (u.lane (homeLane c)).st ≠ .calib → (v.comp c).calRun = true ∧
        (v.comp c).rd Reg.MFE_STAT.CAL_DONE = bit r.done))) ∧
  (∀ tm l, Acts tm (.memoryBistComplete tm l [])
    (fun u => (u.lane l).powered = true ∧ (u.lane l).selfTesting l = true ∧ (u.lane l).start.mbist = false)
    (fun u v => (v.lane l).start.mbist = true ∧ (v.lane l).start.mbistAt = u.clk ∧ (v.lane l).rd Reg.BST_STAT.MEM = 1)) ∧
  (∀ tm l k row, k < 64 → Acts tm (.memoryBistComplete tm l [.row k row])
    (fun u => (u.lane l).powered = true ∧ (u.lane l).selfTesting l = true ∧ (u.lane l).start.mbist = false ∧
      (u.lane l).rd (Reg.MEM_BANK_STAT.ROWS k) < 8)
    (fun u v => (v.lane l).diag = ((u.lane l).diagnose [.row k row]).diag ∧ (v.lane l).start.mbist = true ∧
      (v.lane l).rd Reg.BST_STAT.MEM = 2 ∧ u.CountedL v l Reg.BST_STAT.REPAIRS ∧
      (v.lane l).rd (Reg.MEM_BANK_STAT.ROWS k) = (u.lane l).rd (Reg.MEM_BANK_STAT.ROWS k) + 1 ∧ v.latest l = 120)) ∧
  (∀ tm l, l ≠ .D → Acts tm (.memoryBistComplete tm l [.supervisor])
    (fun u => (u.lane l).powered = true ∧ (u.lane l).st = .selftest ∧ (u.lane l).start.mbist = false)
    (fun u v => u.StartFailed v l 7 0)) ∧
  (∀ tm l, ActsM tm (.memoryInitComplete tm l)
    (fun _ u => (u.lane l).powered = true ∧ (u.lane l).selfTesting l = true ∧ (u.lane l).start.mbist = true ∧
      (u.lane l).start.init = false)
    (fun m u n v =>
      let init := ((u.lane l).start.img.map Setup.init).getD []
      (v.lane l).start.init = true ∧ (n.lane l).cond = [] ∧ (∀ r, r ≠ l → n.lane r = m.lane r) ∧
      (∀ a, (∀ p ∈ init, p.1 ≠ a) → (n.lane l).byte a = 0) ∧ (∀ a x, init = [(a, x)] → a < 4194304 → (n.lane l).byte a = x) ∧
      ((u.lane l).start.purpose ≠ 2 → (u.lane l).start.slotAt = none → u.wit.powered = true →
        (u.lane l).flag Reg.RDN_STAT.WITNESSLESS = false → v.wit.bistQ = u.wit.bistQ ++ [l]))) ∧
  (∀ tm l, Acts tm (.logicBistSlotGrant tm)
    (fun u => u.wit.powered = true ∧ u.wit.flag Reg.WIT_BIST.BUSY = false ∧ u.nextSlot = some l ∧ l ≠ .D)
    (fun u v => v.wit.rd Reg.WIT_BIST.GRANT = laneIdx l ∧ v.wit.rd Reg.WIT_BIST.BUSY = 1 ∧
      v.wit.rd (Reg.WIT_BIST.PENDING (laneIdx l)) = 0 ∧ v.wit.bistQ = u.wit.bistQ.filter (· ≠ l) ∧
      (v.lane l).start.slotAt = some u.clk)) ∧
  (∀ tm l, Acts tm (.logicBistComplete tm l ⟨0, []⟩ [])
    (fun u => (u.lane l).powered = true ∧ (u.lane l).st = .selftest ∧ (u.lane l).start.init = true ∧ (u.lane l).start.lbist = false ∧
      (u.lane l).start.slotAt.isSome = true ∧ 2 ≤ (u.lane l).slicesLeft)
    (fun u v => (v.lane l).start.lbist = true ∧ (v.lane l).rd Reg.BST_STAT.LOGIC_DONE = 1 ∧ (v.lane l).rd Reg.BST_STAT.LOGIC = 0 ∧
      (v.lane l).st = (u.lane l).st ∧ (u.wit.powered = true → v.wit.rd Reg.WIT_BIST.BUSY = 0))) ∧
  (∀ tm l e, Acts tm (.logicBistComplete tm l ⟨0, [e]⟩ [])
    (fun u => (u.lane l).powered = true ∧ (u.lane l).st = .selftest ∧ (u.lane l).start.init = true ∧
      (u.lane l).start.lbist = false ∧ (u.lane l).start.slotAt.isSome = true ∧ 2 ≤ (u.lane l).slicesLeft ∧
      (u.lane l).eng.permanent (u.laneTime l).1 (bistCmp e).loc = false)
    (fun u v => u.CountedL v l Reg.CHX_TCNT.TOTAL ∧ v.latest l = 20 ∧ (v.lane l).rdn.evid = true ∧ (v.lane l).start.lbist = true)) ∧
  (∀ tm l, l ≠ .D → Acts tm (.logicBistComplete tm l ⟨1, []⟩ [])
    (fun u => (u.lane l).powered = true ∧ (u.lane l).st = .selftest ∧ (u.lane l).start.init = true ∧ (u.lane l).start.lbist = false ∧
      (u.lane l).start.slotAt.isSome = true ∧ (u.lane l).flag (Reg.CHX_SLICE.RETIRED 0) = false ∧ (u.lane l).slicesLeft = 2)
    (fun u v => u.StartFailed v l 8 1)) ∧
  (∀ tm l pass bitNo, l ≠ .D → Acts tm (.injectionTestComplete tm l pass bitNo true)
    (fun u => (u.lane l).powered = true ∧ (u.lane l).st = .selftest ∧ (u.lane l).start.init = true ∧ (u.lane l).start.lbist = true ∧
      (u.lane l).start.inj = false ∧ (u.lane l).isSplit = false)
    (fun u v => (pass = true → (v.lane l).st = .ready ∧ (v.lane l).rd Reg.CHX_STAT.INJ_PASS = 1) ∧
      (pass = false → u.StartFailed v l 9 0))) ∧
  (∀ tm l tS, l ≠ .D → Acts tm (.startDeadline tm l)
    (fun u => (u.lane l).start.tS = some tS ∧ (u.lane l).powered = true ∧ (u.lane l).inStart = true ∧
      (u.lane l).limitApplies = true)
    (fun u v => (tS + 16000000 ≤ u.clk → u.StartFailed v l 11 0) ∧ (u.clk < tS + 16000000 → v = u)))

/-- The start of the device (R387, R389 to R393, R421): the quorum is counted once, fewer than two READY lanes make the device
MINIMAL, a missing position is quarantined; then DEVRDY and the first entry to ACTIVE, and after 10 clean minutes the
count clears. Where the words leave room, the model's reading of log entries 21 and 75. -/
def Obligations.DeviceStart : Prop :=
  let abc := [LaneId.A, .B, .C]
  let counts := fun (u : Dev) => (abc.filter (fun l => (u.lane l).powered && (u.lane l).st == .ready &&
    !((u.lane l).life == 3 && (u.lane l).isSplit)))
  (∀ tm, Acts tm (.startDecision tm)
    (fun u => u.wit.decided = false ∧ ∀ l ∈ abc, (u.lane l).st = .ready ∨ (u.lane l).st = .minimal)
    (fun u v => v.wit.decided = true ∧
      ((counts u).length < 2 → v.wit.rd Reg.WIT_STAT.DEV_MINIMAL = 1 ∧ v.wit.fltHigh = false ∧
        ∀ l, (u.lane l).powered = true → (v.lane l).rd Reg.LCTL_STATUS.DEV_MINIMAL = 1) ∧
      (2 ≤ (counts u).length → (∀ l ∈ counts u, (v.lane l).start.counted = true) ∧
        (u.wit.powered = true → ∀ l ∈ abc, (u.lane l).st ≠ .ready → ∀ c, homeComp l = some c → (v.comp c).quarP = true)))) ∧
  (∀ tm l, l ∈ abc → Acts tm (.startDecision tm)
    (fun u => (u.lane l).st = .boot ∧ (u.lane l).start.tS0 = none) (fun u v => v = u)) ∧
  (∀ tm p q, p ≠ q → Acts tm (.deviceReady tm)
    (fun u => u.wit.powered = true ∧ u.wit.decided = true ∧ u.wit.readyAt = none ∧ u.wit.copying = none ∧
      u.wit.flag Reg.WIT_STAT.DEV_MINIMAL = false ∧ ∀ l ∈ [p, q], (u.lane l).powered = true ∧ (u.lane l).start.counted = true ∧
        (u.lane l).st = .ready ∧ (u.lane l).rd Reg.JLF_START_STAT.PHASE = 5)
    (fun u v => v.wit.readyAt = some u.clk ∧ v.wit.rd Reg.WIT_STAT.DEVRDY = 1 ∧
      ∀ l, (u.lane l).powered = true → (v.lane l).rd Reg.LCTL_STATUS.DEVRDY = 1)) ∧
  (∀ tm at_ p q, p ≠ q → Acts tm (.firstActiveEntry tm)
    (fun u => u.wit.readyAt = some at_ ∧ at_ ≤ u.clk ∧ u.actives = [] ∧
      ∀ l ∈ [p, q], (u.lane l).start.counted = true ∧ (u.lane l).st = .ready)
    (fun u v => (∀ l, (u.lane l).start.counted = true → (u.lane l).st = .ready → (v.lane l).st = .active ∧
        (v.lane l).rd Reg.LCTL_STATUS.STATE = 5 ∧ (v.lane l).start.cleanAt = some u.clk) ∧
      (u.wit.powered = true → v.wit.flag Reg.WIT_STAT.MASTER_VALID = true))) ∧
  (∀ tm l c, Acts tm (.startCntClear tm l)
    (fun u => (u.lane l).start.cleanAt = some c ∧ (u.lane l).powered = true ∧ (u.lane l).st = .active)
    (fun u v => let x := u.lane l
      (u.clk < c + 60000000000 → v = u) ∧
      (c + 60000000000 ≤ u.clk → (v.lane l).rd Reg.LCTL_START_CNT.COUNT = 0 ∧ (v.lane l).rd Reg.LCTL_START_CAUSE.CAUSE = 0 ∧
        (v.lane l).fuses.svn = (if x.life = 3 ∧ x.fuses.svn < x.start.svn then x.start.svn else x.fuses.svn))))

/-! ### Recorder, wear, life cycle and register access -/

/-- The incident recorder and the wear monitor (R396, R398, R400, R402 to R404, R407, R408, R411 to R413): coalescing groups
close, buckets refill, windows and commits end, pages, summaries, refreshes and the wear record are written, the service
clock counts an hour, and a spare wire replaces a failed one. Where the words leave room, the model's reading of log
entries 24 and 91. -/
def Obligations.RecorderAndWear : Prop :=
  (∀ tm l, Acts tm (.coalesceWindowEnd tm l) (fun u => (u.lane l).powered = true)
    (fun u v =>
      let now := (u.laneTime l).1
      let x := u.lane l
      (v.lane l).bbx.groups = x.bbx.groups.filter (fun g => now < g.1.time + 100000) ∧
      (v.lane l).rd Reg.BBX_STAT.GROUPS = (v.lane l).bbx.groups.length % 64 ∧
      ((∀ g ∈ x.bbx.groups, g.1.time + 100000 ≤ now → g.2 = 0) → (v.lane l).bbx.hist = x.bbx.hist) ∧
      (∀ g, x.bbx.groups = [g] → g.1.time + 100000 ≤ now → g.2 ≠ 0 → (v.lane l).bbx.hist.head? =
        some { g.1 with time := g.1.time + 100000, id := 112, data := g.1.id * 2 ^ 24 + min g.2 (2 ^ 24 - 1) }))) ∧
  (∀ tm l, Acts tm (.tokenRefill tm l)
    (fun u => (u.lane l).powered = true ∧ (u.laneTime l).1 % 100000 = 0)
    (fun u v => let x := u.lane l
      (x.bbx.refill = (u.laneTime l).1 → v = u) ∧
      (x.bbx.refill ≠ (u.laneTime l).1 → (v.lane l).bbx.refill = (u.laneTime l).1 ∧ ∀ c, 1 ≤ c → c ≤ 3 →
        Sparse.get 0 (v.lane l).bbx.used c = Sparse.get 0 x.bbx.used c - x.rd (Reg.BBX_RATE.RATE c)))) ∧
  (∀ tm l k e, Acts tm (.postWindowEnd tm l) (fun u => (u.lane l).bbx.win = some (k, e))
    (fun u v => (u.clk < e → v = u) ∧ (e ≤ u.clk → (v.lane l).bbx.win = none ∧
      (Sparse.get {} (v.lane l).bbx.caps k).postClosed = true ∧ (v.lane l).rd Reg.BBX_STAT.WINDOW = 0))) ∧
  (∀ tm l k, ActsM tm (.capsuleCommitDone tm l)
    (fun _ u => (u.lane l).bbx.committing = some k ∧ ∀ r, (u.lane r).bbx.groups = [])
    (fun m u n v =>
      let c := Sparse.get {} (v.lane l).bbx.caps k
      c.state = 1 ∧ c.frozen = false ∧ c.bodyDone = true ∧ (∀ r, r ≠ .D → n.lane r = m.lane r) ∧
      (l ≠ .D → (v.lane l).rd (Reg.BBX_CAP_STAT.STATE (k - 1)) = 1) ∧
      ((u.lane l).st = .suspect → (v.lane l).st = .retired) ∧
      (u.wit.powered = true → (u.lane l).flag Reg.RDN_STAT.WITNESSLESS = false → (u.lane l).flag Reg.XLK_STAT.PATH_Y_FAIL = false →
        v.wit.rd (Reg.WIT_SUMM.VALID (laneIdx l * 4 + (k - 1))) = 1 ∧
        v.wit.rd (Reg.WIT_SUMM.RELEASED (laneIdx l * 4 + (k - 1))) = 0))) ∧
  (∀ tm l q, Acts tm (.journalPageWrite tm l false)
    (fun u => (u.lane l).powered = true ∧ 63 ≤ (u.lane l).bbx.page.length ∧ (u.lane l).nextPage (u.lane l).bbx.nextPg = some q)
    (fun u v => let x := u.lane l
      Sparse.get [] (v.lane l).bbx.pages q = x.bbx.page.take 63 ∧ (v.lane l).bbx.page = x.bbx.page.drop 63 ∧
      (v.lane l).bbx.nextPg = (q + 1) % 768)) ∧
  (∀ tm l q n, Acts tm (.journalPageWrite tm l true)
    (fun u => (u.lane l).powered = true ∧ 63 ≤ (u.lane l).bbx.page.length ∧ (u.lane l).nextPage (u.lane l).bbx.nextPg = some q ∧
      (u.lane l).rd Reg.WEAR_MRAM.SPARES_LEFT = n + 1 ∧ n < 64)
    (fun _ v => (v.lane l).rd Reg.WEAR_MRAM.SPARES_LEFT = n ∧ v.latest l = 116 ∧
      Sparse.look (v.lane l).mram.wear.sectors (256 + q / 4) = some (64 - (n + 1)))) ∧
  (∀ tm l k, Acts tm (.summaryAck tm l k)
    (fun u => (u.lane l).powered = true ∧ 1 ≤ k ∧ k ≤ 4 ∧ (Sparse.get {} (u.lane l).bbx.caps k).state = 1 ∧ u.wit.powered = true)
    (fun u v =>
      let c := Sparse.get {} (u.lane l).bbx.caps k
      let w := Sparse.get {} u.wit.summs (laneIdx l * 4 + (k - 1))
      (w.serial ≠ c.serial → v = u) ∧
      (w.serial = c.serial → Sparse.get {} (v.lane l).bbx.caps k = { c with sent := true } ∧
        (v.lane l).rd (Reg.BBX_CAP_STAT.SUMMARY (k - 1)) = 1))) ∧
  (∀ tm l, Acts tm (.clearCapsuleForward tm l) (fun u => (u.lane l).powered = true)
    (fun u v => let c := Sparse.get {} (u.lane l).bbx.caps 1
      (c.state ≠ 2 → Sparse.get {} (v.lane l).bbx.caps 1 = { c with state := 0, first := false } ∧
        (v.lane l).rd (Reg.BBX_CAP_STAT.STATE 0) = 0 ∧ (v.lane l).rd (Reg.BBX_CAP_STAT.FIRST 0) = 0) ∧
      (c.state = 2 → (v.lane l).bbx = (u.lane l).bbx) ∧
      (u.wit.powered = true → u.wit.flag (Reg.WIT_SUMM.VALID (laneIdx l * 4)) = true →
        v.wit.rd (Reg.WIT_SUMM.RELEASED (laneIdx l * 4)) = 1))) ∧
  (∀ tm l item left, Acts tm (.refreshStep tm l .clean false)
    (fun u => (u.lane l).powered = true ∧ (u.lane l).started = true ∧ (u.lane l).mram.stepAt + 1000000 ≤ u.clk ∧
      (u.lane l).mram.refresh = some (item, left))
    (fun u v => (v.lane l).mram.stepAt = u.clk ∧ (1 < left → (v.lane l).mram.refresh = some (item, left - 1)) ∧
      (left = 1 → (v.lane l).mram.refresh = none ∧ (v.lane l).rd Reg.BBX_STAT.REFRESH = 0))) ∧
  (∀ tm l, Acts tm (.wearRecordWrite tm l false)
    (fun u => (u.lane l).powered = true ∧ (u.lane l).mram.dirty.isSome = true)
    (fun u v =>
      let m := (u.lane l).mram
      let i := if hasBit m.wearLost 0 then 1 else if hasBit m.wearLost 1 then 0
        else if (Sparse.get {} m.copies 0).gen ≤ (Sparse.get {} m.copies 1).gen then 0 else 1
      (v.lane l).mram.dirty = none ∧ (v.lane l).mram.wear.gen = (u.lane l).mram.wear.gen + 1 ∧
      Sparse.look (v.lane l).mram.copies i = some (v.lane l).mram.wear ∧
      ∀ j, j ≠ i → Sparse.look (v.lane l).mram.copies j = Sparse.look (u.lane l).mram.copies j)) ∧
  (∀ tm l, Acts tm (.serviceClockHour tm l) (fun u => (u.lane l).powered = true)
    (fun u v => let w := (u.lane l).mram.wear
      (v.lane l).mram.wear.hours = w.hours + 1 ∧
      (v.lane l).mram.wear.weighted = w.weighted + hourWeight (u.laneTemp l) ∧
      (v.lane l).rd Reg.WEAR_LIFE.HOURS = min (w.hours + 1) (2 ^ 21 - 1) ∧ (v.lane l).mram.dirty.isSome = true ∧
      ((u.lane l).rd Reg.WEAR_LIFE.USED < 900 → 900 ≤ (v.lane l).rd Reg.WEAR_LIFE.USED → v.latest l = 118 ∧
        (v.lane l).service = true))) ∧
  (∀ tm l link, link < 10 → Acts tm (.xlkWireFail tm l link)
    (fun u => (u.lane l).powered = true ∧ l ∈ linkEnds link)
    (fun u v =>
      let f := if link < 6 then Reg.XLK_WIRE.DIRECT link else Reg.XLK_WIRE.HUB (link - 6)
      (v.lane l).flag f = true ∧ (v.lane l).service = true ∧
      ((u.lane l).flag f = false → v.latest l = 88) ∧
      ((u.lane l).flag f = true → v.latest l = 87 ∧
        (v.lane l).flag (if link < 6 then Reg.XLK_STAT.PATH_X_FAIL else Reg.XLK_STAT.PATH_Y_FAIL) = true)))

/-- Life cycle and security (R415 to R418, R422 to R427): a certificate is judged in the order of its checks, a root slot is
programmed in MANUFACTURE only, image words land in the slot not selected, debug sessions open and end, fabric keys are
written where R424 permits it, and the TAP takes the instructions it lists. Where the words leave room, the model's
reading of log entries 25, 26, 86 and 90. -/
def Obligations.LifeCycle : Prop :=
  (∀ tm l, Acts tm (.certSubmit tm l) (fun u => (u.lane l).powered = true)
    (fun u v => ((u.lane l).life = 5 → v = u) ∧ ((u.lane l).life ≠ 5 → (v.lane l).flag Reg.LCS_CERT_CTL.SUBMIT = true))) ∧
  (∀ tm l sigOk, Acts tm (.certVerifyDone tm l sigOk)
    (fun u => (u.lane l).powered = true ∧ (u.lane l).flag Reg.LCS_CERT_CTL.SUBMIT = true ∧ (u.lane l).life ≤ 5)
    (fun u v =>
      let x := u.lane l
      let ws := x.certWords
      let r := (v.lane l).rd Reg.LCS_CERT_CTL.RESULT
      (v.lane l).flag Reg.LCS_CERT_CTL.SUBMIT = false ∧
      (sigOk = false → r = 2) ∧ (sigOk = true → x.rootOk (certByte ws 5) = true → certNum ws 8 8 ≠ x.fuses.uid → r = 3) ∧
      (r ≠ 1 → v.wit = u.wit) ∧
      (r = 1 → u.wit.powered = true → v.wit.cert = ws ∧ v.wit.rd Reg.WIT_VAULT.CERT = 1 ∧
        v.wit.rd Reg.WIT_VAULT.CERT_TARGET = certByte ws 4) ∧
      (r = 1 → sigOk = true ∧ certNum ws 8 8 = x.fuses.uid ∧ certNum ws 0 4 = 0x4C430001 ∧
        x.transitionOk (certByte ws 4) (certByte ws 6) = true))) ∧
  (∀ tm l w, Acts tm (.rotProgram tm l w) (fun u => (u.lane l).powered = true)
    (fun u v =>
      let x := u.lane l
      let slot := w / 2 ^ 30 % 4
      ((x.life ≠ 1 ∨ slot = 3 ∨ w / 2 ^ 29 % 2 = 0) → v = u) ∧
      (x.life = 1 → w / 2 ^ 29 % 2 = 1 → slot < 3 → Sparse.look x.fuses.rot slot = none →
        (Sparse.look (v.lane l).fuses.rot slot).isSome = true ∧ (v.lane l).rd (Reg.LCS_STATE.ROT_PROG slot) = 1 ∧
        ∀ k, k ≠ slot → Sparse.look (v.lane l).fuses.rot k = Sparse.look x.fuses.rot k))) ∧
  (∀ tm l w, Acts tm (.imgDataWrite tm l w) (fun u => (u.lane l).powered = true)
    (fun u v =>
      let x := u.lane l
      let p := x.rd Reg.LCS_IMG_PTR.PTR
      let good := p / 2 ^ 31 ≠ x.rd Reg.LCS_IMG.SEL ∧ x.st ≠ .active ∧ p % 2 ^ 19 / 4 < 98304
      (good → (v.lane l).imgWord (p / 2 ^ 31) (p % 2 ^ 19 / 4) = w % 2 ^ 32 ∧
        (p / 2 ^ 31 < 2 → (v.lane l).rd Reg.LCS_IMG_PTR.PTR = p / 2 ^ 31 * 2 ^ 31 + (p % 2 ^ 31 + 4) % 2 ^ 31)) ∧
      (¬ good → (v.lane l).rd Reg.LCS_IMG.WERR = 1 ∧ (v.lane l).mram = x.mram))) ∧
  (∀ tm l, Acts tm (.dbgReq tm l) (fun u => (u.lane l).powered = true)
    (fun u v => let x := u.lane l
      ((x.life = 0 ∨ x.life = 5) → v = u) ∧
      (x.life ≠ 0 → x.life ≠ 5 → (v.lane l).sec.used = false ∧ (v.lane l).sec.nonces = x.sec.nonces + 1 ∧
        (v.lane l).flag Reg.DBG_CTL.REQ = true ∧
        ∀ i < 4, (v.lane l).rd (Reg.DBG_CHAL.WORD i) = (Config.nonce x.sec.nonces i).toNat))) ∧
  (∀ tm l sigOk, Acts tm (.dbgSubmit tm l sigOk)
    (fun u => (u.lane l).powered = true ∧ (u.lane l).life ≠ 0 ∧ (u.lane l).life ≠ 5)
    (fun u v =>
      let x := u.lane l
      let ok := sigOk = true ∧ x.rootOk (x.rd Reg.DBG_CTL.KEYIDX) = true ∧ x.sec.used = false
      (v.lane l).sec.used = true ∧ (v.lane l).flag Reg.DBG_CTL.SUBMIT = true ∧
      (ok → (v.lane l).rd Reg.DBG_STAT.OPEN = 1 ∧ (v.lane l).rd Reg.DBG_STAT.GRANTED = x.rd Reg.DBG_CTL.PERM % 16 ∧
        (v.lane l).rd Reg.DBG_STAT.LEFT = 1800 ∧ (v.lane l).sec.ends = some (u.clk + 180000000000)) ∧
      (¬ ok → (v.lane l).rd Reg.DBG_STAT.FAIL = 1 ∧ (v.lane l).rd Reg.DBG_STAT.OPEN = x.rd Reg.DBG_STAT.OPEN ∧
        v.latest l = 122))) ∧
  (∀ tm l, Acts tm (.dbgEnd tm l) (fun u => (u.lane l).powered = true)
    (fun _ v => (v.lane l).rd Reg.DBG_STAT.OPEN = 0 ∧ (v.lane l).rd Reg.DBG_STAT.GRANTED = 0 ∧ (v.lane l).granted = 0 ∧
      (v.lane l).flag Reg.DBG_CTL.END = true)) ∧
  (∀ tm l e, Acts tm (.dbgSessionTimeout tm l) (fun u => (u.lane l).sec.ends = some e)
    (fun u v => (u.clk < e → v = u) ∧ (e ≤ u.clk → (v.lane l).rd Reg.DBG_STAT.OPEN = 0 ∧ (v.lane l).granted = 0 ∧
      (v.lane l).sec.ends = none))) ∧
  (∀ tm l w, Acts tm (.keyWrite tm l w) (fun u => (u.lane l).powered = true)
    (fun u v =>
      let x := u.lane l
      let id := w / 2 ^ 28 % 4
      (∀ i < 4, (v.lane l).rd (Reg.LCS_KEY_DATA.WORD i) = 0) ∧
      (x.mayWriteKeys = true → (∀ r, (u.lane r).powered = true → Sparse.look (v.lane r).mram.keys id = some x.keyData ∧
          (v.lane r).rd (Reg.LCS_KEY_CTL.PROV id) = 1) ∧
        (u.wit.powered = true → Sparse.look v.wit.keys id = some (some x.keyData))) ∧
      (x.mayWriteKeys = false → (v.lane l).rd Reg.LCS_KEY_CTL.ERR = 1 ∧ v.wit = u.wit ∧
        ∀ r, (v.lane r).mram.keys = (u.lane r).mram.keys))) ∧
  (∀ tm l w, Acts tm (.keyErase tm l w) (fun u => (u.lane l).powered = true)
    (fun u v =>
      let x := u.lane l
      let id := w / 2 ^ 28 % 4
      (∀ i < 4, (v.lane l).rd (Reg.LCS_KEY_DATA.WORD i) = 0) ∧
      (x.mayWriteKeys = true → (∀ r, (u.lane r).powered = true → Sparse.look (v.lane r).mram.keys id = none ∧
          (v.lane r).rd (Reg.LCS_KEY_CTL.PROV id) = 0) ∧
        (u.wit.powered = true → Sparse.look v.wit.keys id = some none)) ∧
      (x.mayWriteKeys = false → (v.lane l).rd Reg.LCS_KEY_CTL.ERR = 1 ∧ v.wit = u.wit ∧
        ∀ r, (v.lane r).mram.keys = (u.lane r).mram.keys))) ∧
  (∀ tm l v0, ∀ cmd ∈ [(Instr.tapReset tm l, 2), (.idcode tm l, 2), (.bypass tm l, 15), (.privateTest tm l (v0 % 8), 15)],
    Acts tm cmd.1 (fun u => (u.lane l).powered = true)
      (fun u v => v = u.modLane l (fun x => { x with tap := { x.tap with ir := cmd.2,
                                                                         dr := if cmd.2 = 2 then x.idCode else 0 } }))) ∧
  (∀ tm l n pre, 8 ≤ n → n ≤ 14 →
    ∀ cmd ∈ [(Instr.extest tm l, 0), (.samplePreload tm l pre, 1), (.privateTest tm l n, n)],
    Acts tm cmd.1 (fun u => (u.lane l).powered = true)
      (fun u v =>
        let x := u.lane l
        let ok := x.life = 1 ∨ x.life = 4 ∨ (cmd.2 = 1 ∧ (x.life = 2 ∨ x.life = 3)) ∨
          (cmd.2 = 0 ∧ x.life = 3 ∧ hasBit x.granted 3 = true ∧ x.st ≠ .active)
        (v.lane l).regs = x.regs ∧ (ok → (v.lane l).tap.ir = cmd.2) ∧ (¬ ok → (v.lane l).tap.ir = 15) ∧
        ((v.lane l).tap.bsr = if cmd.1 = .samplePreload tm l pre ∧ ok then pre else x.tap.bsr) ∧
        ((v.lane l).tap.dr = if ok ∧ cmd.2 ≤ 1 then (v.lane l).tap.bsr else 0)))

/-- Register access (R26 to R29, R83, R332, R345, R346, R424, R428 to R434, R436, R437, R439, R448, R449): what a write of
each kind of field leaves, the outcomes of R430 with their events, latched pairs, the status byte and the data of the
service port, and a witness access that gets no answer. Where the words leave room, the model's reading of log entries 83
to 87 and 92. -/
def Obligations.RegisterAccess : Prop :=
  (∀ tm l acc a w, acc ≠ .ring → Acts tm (.registerWrite tm l acc a w)
    (fun u => (u.lane l).powered = true ∧ u.place l a = .lane ∧ (u.lane l).mayWrite acc a = true ∧ w < 2 ^ 32)
    (fun u v =>
      let locked := (u.lane l).flag Reg.LCTL_SETUP.LOCK
      (∀ f ∈ fieldsAt a, f.acc = .rw → (v.lane l).rd f = f.of w) ∧
      (∀ f ∈ fieldsAt a, f.acc = .rwl → (v.lane l).rd f = if locked then (u.lane l).rd f else f.of w) ∧
      (locked = true → (∃ f ∈ fieldsAt a, f.acc = .rwl) → v.latest l = 5))) ∧
  (∀ tm l acc a w, acc ≠ .ring → Acts tm (.registerWrite tm l acc a w)
    (fun u => (u.lane l).powered = true ∧
      ((u.place l a = .lane ∧ (u.lane l).mayWrite acc a = false) ∨ u.place l a = .wit ∨ u.place l a = .err accDecode))
    (fun u v => v.latest l = 4 ∧ ∀ f, f.quiet = true → (v.lane l).rd f = (u.lane l).rd f)) ∧
  (∀ tm l acc a w, Acts tm (.registerWrite tm l acc a w)
    (fun u => (u.lane l).powered = true ∧ u.place l a = .err accNoComp)
    (fun u v => v.latest l = 3 ∧ ∀ f, f.quiet = true → (v.lane l).rd f = (u.lane l).rd f)) ∧
  (∀ tm l acc a w, acc ≠ .ring → Acts tm (.registerWrite tm l acc a w)
    (fun u => (u.lane l).powered = true ∧ u.place l a = .err accTimeout)
    (fun u v => (v.lane l).xacc = some { addr := a, spi := acc == .spi, at_ := u.clk } ∧ (v.lane l).regs = (u.lane l).regs)) ∧
  (∀ tm l acc a, Acts tm (.loReadLatch tm l acc a)
    (fun u => (u.lane l).powered = true ∧ u.place l a = .lane)
    (fun u v => (v.lane l).regs = (u.lane l).regs ∧ ∀ b ∈ latchedBy a, Sparse.look (v.lane l).latch (latchKey b (accCode acc l)) =
      some (((u.lane l).live u.clk (u.laneTime l).1).regs.word b))) ∧
  (∀ tm l a, ActsM tm (.spiRead tm l a)
    (fun _ u => (u.lane l).powered = true ∧ a < 2 ^ 32 ∧ u.place l a = .lane ∧
      Sparse.look (u.lane l).latch (latchKey a (accCode .spi l)) = none)
    (fun m u n v => n = m ∧ (v.lane l).spi =
      { status := some 0, data := ((u.lane l).live u.clk (u.laneTime l).1).regs.word a })) ∧
  (∀ tm l a, ActsM tm (.spiRead tm l a)
    (fun m u => (u.lane l).powered = true ∧ a < 0x400000 ∧ a % 4 = 0 ∧ Sparse.look (m.lane l).cond (a / 8) = none)
    (fun m u n v => n = m ∧
      ((u.lane l).debugReads = true → (v.lane l).spi = { status := some 0, data := (m.lane l).num a 4 }) ∧
      ((u.lane l).debugReads = false → (v.lane l).spi = { status := some 2, data := 0 } ∧ v.latest l = 4))) ∧
  (∀ tm l a w, ActsM tm (.spiWrite tm l a w)
    (fun m u => (u.lane l).powered = true ∧ a < 0x400000 ∧ a % 4 = 0 ∧ Sparse.look (m.lane l).cond (a / 8) = none)
    (fun m u n v =>
      (∀ r, r ≠ l → n.lane r = m.lane r) ∧ (∀ b, (b < a ∨ a + 4 ≤ b) → (n.lane l).byte b = (m.lane l).byte b) ∧
      ((u.lane l).debugWrites = true → (n.lane l).num a 4 = w % 2 ^ 32 ∧ (v.lane l).spi = { status := some 0, data := 0 }) ∧
      ((u.lane l).debugWrites = false → n = m ∧ (v.lane l).spi = { status := some 2, data := 0 } ∧ v.latest l = 4))) ∧
  (∀ tm l acc a wr moved acked, Acts tm (.companionRegisterAccess tm l acc a wr moved acked)
    (fun u => (u.lane l).powered = true ∧ 0x48000000 ≤ a ∧ a < 0x48010000 ∧ a % 4 = 0 ∧
      ((moved = false ∧ u.reaches l = none) ∨ (moved = true ∧ (wr = none ∨ acked = false))))
    (fun u v => v.latest l = 3 ∧ (∀ c f, f.quietC = true → (v.comp c).rd f = (u.comp c).rd f) ∧
      (acc = .spi → (v.lane l).spi = { status := some 6, data := 0 }))) ∧
  (∀ tm l acc a w moved acked c, Acts tm (.companionRegisterAccess tm l acc a (some w) moved acked)
    (fun u => (u.lane l).powered = true ∧ 0x48000000 ≤ a ∧ a < 0x48010000 ∧ a % 4 = 0 ∧ (u.lane l).mayWrite acc a = true ∧
      (u.comp c).powered = true ∧ w < 2 ^ 32 ∧ fieldsAt a ≠ [] ∧
      ((moved = false ∧ u.reaches l = some c) ∨ (moved = true ∧ acked = true ∧ u.carried l = some c)))
    (fun u v => ∀ f ∈ fieldsAt a, (f.acc = .rw → (v.comp c).rd f = f.of w) ∧
      (f.acc = .rwl → (v.comp c).rd f = if (u.comp c).locked then (u.comp c).rd f else f.of w))) ∧
  (∀ tm l x, Acts tm (.crosslinkTimeout tm l)
    (fun u => (u.lane l).xacc = some x ∧ (u.lane l).ring.regsRd = none ∧ (u.lane l).powered = true)
    (fun u v => (u.clk < x.at_ + 2000 → v = u) ∧
      (x.at_ + 2000 ≤ u.clk → (v.lane l).xacc = none ∧ u.CountedL v l Reg.XLK_ERR.TIMEOUT ∧ v.latest l = 4 ∧
        (x.spi = true → (v.lane l).spi = { status := some 5, data := 0 })))) ∧
  (∀ tm l a, Acts tm (.crosslinkTimeout tm l)
    (fun u => (u.lane l).xacc = none ∧ (u.lane l).ring.regsRd = some a ∧ (u.lane l).powered = true ∧ a.left = [] ∧
      a.cmd.ring < 4 ∧ a.cmd.gen = (u.lane l).rd (Reg.RNG_IDX.GEN a.cmd.ring) ∧
      ∀ k ∈ (u.lane l).ring.cmds, opcodes.contains k.opcode = true)
    (fun u v => (u.clk < a.at_ + 2000 → v = u) ∧
      (a.at_ + 2000 ≤ u.clk → (v.lane l).ring.regsRd = none ∧ u.CountedL v l Reg.XLK_ERR.TIMEOUT ∧
        u.Completed v l a.cmd 1 (a.bytes ++ [0, 0, 0, 0])))) ∧
  (∀ tm l acc n, acc ≠ .ring → n < 16 → Acts tm (.slackMinClr tm l acc n) (fun u => (u.lane l).powered = true)
    (fun u v => v = u.wrL l (Reg.CHE_SLACK_MIN.MIN n) 0xFFFFF)) ∧
  (∀ tm l acc n, acc ≠ .ring → n < 10 → Acts tm (.maxwaitClr tm l acc n) (fun u => (u.lane l).powered = true)
    (fun u v => v = u.wrL l (Reg.ARB_MAXWAIT.MAX n) 0)) ∧
  (∀ tm l acc w, acc ≠ .ring → Acts tm (.arbPrioWrite tm l acc w) (fun u => (u.lane l).powered = true)
    (fun u v => let may := acc = .gnomon ∨ (u.lane l).debugWrites = true
      (may → ∀ i < 8, (v.lane l).rd (Reg.ARB_PRIO.PRIO i) = w / 2 ^ (4 * i) % 8) ∧
      (¬ may → v.latest l = 4 ∧ ∀ i < 8, (v.lane l).rd (Reg.ARB_PRIO.PRIO i) = (u.lane l).rd (Reg.ARB_PRIO.PRIO i))))
end

