-- ==== Sys2Proof/Laws/Sparse.lean ====
section
/-!
SUPPORT. Laws of the sparse maps: what a key reads as after a change, and that every change keeps the canonical form.
-/
namespace Sys2Proof.Machine

variable {V : Type}

@[simp] theorem Sparse.look_nil (k : Nat) : Sparse.look ([] : Sp V) k = none := rfl

theorem Sparse.look_cons (a : Nat) (v : V) (t : Sp V) (k : Nat) :
    Sparse.look ((a, v) :: t) k = if a = k then some v else Sparse.look t k := rfl

@[simp] theorem Sparse.look_del_same (m : Sp V) (k : Nat) : Sparse.look (Sparse.del m k) k = none := by
  induction m with
  | nil => rfl
  | cons e t ih =>
    obtain ⟨a, v⟩ := e
    by_cases h : a = k <;> simp [Sparse.del, h, ih, Sparse.look]

theorem Sparse.look_del_ne (m : Sp V) {j k : Nat} (h : j ≠ k) : Sparse.look (Sparse.del m k) j = Sparse.look m j := by
  induction m with
  | nil => rfl
  | cons e t ih =>
    obtain ⟨a, v⟩ := e
    by_cases ha : a = k
    · simp [Sparse.del, ha, ih, Sparse.look, Ne.symm h]
    · by_cases hj : a = j
      · subst hj
        simp [Sparse.del, Sparse.look, ha]
      · simp [Sparse.del, Sparse.look, ha, hj, ih]

/-- After a pair is put in, its key reads as it, where the key was absent; other keys read as before. -/
theorem Sparse.look_ins (m : Sp V) (j k : Nat) (v : V) (hk : Sparse.look m k = none) :
    Sparse.look (Sparse.ins m k v) j = if k = j then some v else Sparse.look m j := by
  induction m with
  | nil => simp [Sparse.ins, Sparse.look]
  | cons e t ih =>
    obtain ⟨a, w⟩ := e
    have hak : a ≠ k := by
      intro h
      simp [Sparse.look, h] at hk
    have ht : Sparse.look t k = none := by simpa [Sparse.look, hak] using hk
    by_cases hlt : k < a
    · simp [Sparse.ins, hlt, Sparse.look]
    · by_cases haj : a = j
      · subst haj
        simp [Sparse.ins, hlt, Sparse.look, Ne.symm hak]
      · simp [Sparse.ins, hlt, Sparse.look, haj, ih ht]

@[simp] theorem Sparse.look_put_same (m : Sp V) (k : Nat) (v : V) : Sparse.look (Sparse.put m k v) k = some v := by
  simp [Sparse.put, Sparse.look_ins _ _ _ _ (Sparse.look_del_same m k)]

theorem Sparse.look_put_ne (m : Sp V) {j k : Nat} (v : V) (h : j ≠ k) :
    Sparse.look (Sparse.put m k v) j = Sparse.look m j := by
  simp [Sparse.put, Sparse.look_ins _ _ _ _ (Sparse.look_del_same m k), Sparse.look_del_ne m h, Ne.symm h]

@[simp] theorem Sparse.get_put_same (d : V) (m : Sp V) (k : Nat) (v : V) : Sparse.get d (Sparse.put m k v) k = v := by
  simp [Sparse.get]

theorem Sparse.get_put_ne (d : V) (m : Sp V) {j k : Nat} (v : V) (h : j ≠ k) :
    Sparse.get d (Sparse.put m k v) j = Sparse.get d m j := by
  simp [Sparse.get, Sparse.look_put_ne m v h]

variable [DecidableEq V]

/-- A key reads what was set. -/
@[simp] theorem Sparse.get_set_same (d : V) (m : Sp V) (k : Nat) (v : V) : Sparse.get d (Sparse.set d m k v) k = v := by
  by_cases h : v = d
  · simp [Sparse.set, Sparse.get, h]
  · simp [Sparse.set, Sparse.get, h, Sparse.look_ins _ _ _ _ (Sparse.look_del_same m k)]

/-- Another key reads what it read before. -/
theorem Sparse.get_set_ne (d : V) (m : Sp V) {j k : Nat} (v : V) (h : j ≠ k) :
    Sparse.get d (Sparse.set d m k v) j = Sparse.get d m j := by
  by_cases hv : v = d
  · simp [Sparse.set, Sparse.get, hv, Sparse.look_del_ne m h]
  · simp [Sparse.set, Sparse.get, hv, Sparse.look_ins _ _ _ _ (Sparse.look_del_same m k), Sparse.look_del_ne m h, Ne.symm h]

theorem Sparse.get_set (d : V) (m : Sp V) (j k : Nat) (v : V) :
    Sparse.get d (Sparse.set d m k v) j = if j = k then v else Sparse.get d m j := by
  by_cases h : j = k
  · simp [h]
  · simp [h, Sparse.get_set_ne d m v h]

/-! ### The canonical form -/

/-- The canonical form as a pairwise order: keys strictly rising, no value the default. -/
def Sparse.Canon (d : V) (m : Sp V) : Prop := m.Pairwise (fun x y => x.1 < y.1) ∧ ∀ e ∈ m, e.2 ≠ d

theorem Sparse.wf_iff (d : V) (m : Sp V) : Sparse.wf d m = true ↔ Sparse.Canon d m := by
  induction m with
  | nil => simp [Sparse.wf, Sparse.Canon]
  | cons e t ih =>
    obtain ⟨a, v⟩ := e
    cases t with
    | nil => simp [Sparse.wf, Sparse.Canon]
    | cons f u =>
      obtain ⟨b, w⟩ := f
      simp only [Sparse.wf, Bool.and_eq_true, decide_eq_true_eq, ih, Sparse.Canon]
      constructor
      · rintro ⟨⟨hv, hab⟩, hp, hd⟩
        refine ⟨List.pairwise_cons.2 ⟨?_, hp⟩, ?_⟩
        · intro x hx
          rcases List.mem_cons.1 hx with rfl | hx
          · exact hab
          · exact Nat.lt_trans hab ((List.pairwise_cons.1 hp).1 x hx)
        · intro x hx
          rcases List.mem_cons.1 hx with rfl | hx
          · exact hv
          · exact hd x hx
      · rintro ⟨hp, hd⟩
        have h := List.pairwise_cons.1 hp
        exact ⟨⟨hd (a, v) (by simp), h.1 (b, w) (by simp)⟩, h.2, fun x hx => hd x (by simp [hx])⟩

omit [DecidableEq V] in
theorem Sparse.mem_del {m : Sp V} {k : Nat} {e : Nat × V} (h : e ∈ Sparse.del m k) : e ∈ m ∧ e.1 ≠ k := by
  induction m with
  | nil => simp [Sparse.del] at h
  | cons f t ih =>
    obtain ⟨a, v⟩ := f
    by_cases ha : a = k
    · have := ih (by simpa [Sparse.del, ha] using h)
      exact ⟨by simp [this.1], this.2⟩
    · rcases List.mem_cons.1 (by simpa [Sparse.del, ha] using h : e ∈ (a, v) :: Sparse.del t k) with rfl | h
      · exact ⟨by simp, ha⟩
      · exact ⟨by simp [(ih h).1], (ih h).2⟩

theorem Sparse.canon_del (d : V) {m : Sp V} (k : Nat) (h : Sparse.Canon d m) : Sparse.Canon d (Sparse.del m k) := by
  induction m with
  | nil => exact h
  | cons f t ih =>
    obtain ⟨a, v⟩ := f
    have hp := List.pairwise_cons.1 h.1
    have ht : Sparse.Canon d (Sparse.del t k) := ih ⟨hp.2, fun e he => h.2 e (by simp [he])⟩
    by_cases ha : a = k
    · simpa [Sparse.del, ha] using ht
    · refine ⟨?_, ?_⟩
      · simp only [Sparse.del, ha, if_false]
        exact List.pairwise_cons.2 ⟨fun x hx => hp.1 x (Sparse.mem_del hx).1, ht.1⟩
      · intro e he
        simp only [Sparse.del, ha, if_false] at he
        rcases List.mem_cons.1 he with rfl | he
        · exact h.2 _ (by simp)
        · exact ht.2 e he

omit [DecidableEq V] in
theorem Sparse.mem_ins {m : Sp V} {k : Nat} {v : V} {e : Nat × V} (h : e ∈ Sparse.ins m k v) : e = (k, v) ∨ e ∈ m := by
  induction m with
  | nil => simpa [Sparse.ins] using h
  | cons f t ih =>
    obtain ⟨a, w⟩ := f
    by_cases hlt : k < a
    · simpa [Sparse.ins, hlt] using h
    · rcases List.mem_cons.1 (by simpa [Sparse.ins, hlt] using h : e ∈ (a, w) :: Sparse.ins t k v) with rfl | h
      · simp
      · rcases ih h with h | h <;> simp [h]

theorem Sparse.canon_ins (d : V) {m : Sp V} (k : Nat) {v : V} (hv : v ≠ d) (h : Sparse.Canon d m)
    (hk : ∀ e ∈ m, e.1 ≠ k) : Sparse.Canon d (Sparse.ins m k v) := by
  induction m with
  | nil => simp [Sparse.ins, Sparse.Canon, hv]
  | cons f t ih =>
    obtain ⟨a, w⟩ := f
    have hp := List.pairwise_cons.1 h.1
    by_cases hlt : k < a
    · refine ⟨?_, ?_⟩
      · simp only [Sparse.ins, hlt, if_true]
        refine List.pairwise_cons.2 ⟨?_, h.1⟩
        intro x hx
        rcases List.mem_cons.1 hx with rfl | hx
        · exact hlt
        · exact Nat.lt_trans hlt (hp.1 x hx)
      · intro e he
        simp only [Sparse.ins, hlt, if_true] at he
        rcases List.mem_cons.1 he with rfl | he
        · exact hv
        · exact h.2 e he
    · have hak : a < k := Nat.lt_of_le_of_ne (Nat.le_of_not_lt hlt) (hk (a, w) (by simp))
      have ht := ih ⟨hp.2, fun e he => h.2 e (by simp [he])⟩ (fun e he => hk e (by simp [he]))
      refine ⟨?_, ?_⟩
      · simp only [Sparse.ins, hlt, if_false]
        refine List.pairwise_cons.2 ⟨?_, ht.1⟩
        intro x hx
        rcases Sparse.mem_ins hx with rfl | hx
        · exact hak
        · exact hp.1 x hx
      · intro e he
        simp only [Sparse.ins, hlt, if_false] at he
        rcases List.mem_cons.1 he with rfl | he
        · exact h.2 _ (by simp)
        · exact ht.2 e he

/-- Setting a key keeps the canonical form. -/
theorem Sparse.wf_set (d : V) {m : Sp V} (k : Nat) (v : V) (h : Sparse.wf d m = true) :
    Sparse.wf d (Sparse.set d m k v) = true := by
  rw [Sparse.wf_iff] at h ⊢
  by_cases hv : v = d
  · simpa [Sparse.set, hv] using Sparse.canon_del d k h
  · simpa [Sparse.set, hv] using
      Sparse.canon_ins d k hv (Sparse.canon_del d k h) (fun e he => (Sparse.mem_del he).2)

end Sys2Proof.Machine
end

