-- ==== Sys2Proof/Laws/Memory.lean ====
section
/-!
SUPPORT. Laws of Chord SRAM: a byte read after a write, and that every operation keeps the canonical form.
-/
namespace Sys2Proof.Machine

/-- A byte written reads back. -/
@[simp] theorem LaneMem.byte_putByte_same (m : LaneMem) (a : Nat) (v : Byte) : (m.putByte a v).byte a = v := by
  simp [LaneMem.byte, LaneMem.putByte]

/-- Every other byte stands. -/
theorem LaneMem.byte_putByte_ne (m : LaneMem) {a b : Nat} (v : Byte) (h : b ≠ a) : (m.putByte a v).byte b = m.byte b := by
  simp [LaneMem.byte, LaneMem.putByte, Sparse.get_set_ne _ _ v h]

/-- A byte outside a written range stands. -/
theorem LaneMem.byte_putBytes_outside (bs : List Byte) : ∀ (m : LaneMem) (a b : Nat), (b < a ∨ a + bs.length ≤ b) →
    (m.putBytes a bs).byte b = m.byte b := by
  induction bs with
  | nil => intro m a b _; rfl
  | cons v t ih =>
    intro m a b h
    simp only [List.length_cons] at h
    rw [LaneMem.putBytes, ih _ _ _ (by omega), LaneMem.byte_putByte_ne _ _ (by omega)]

/-- A byte inside a written range reads what was written there. -/
theorem LaneMem.byte_putBytes_inside (bs : List Byte) : ∀ (m : LaneMem) (a i : Nat) (h : i < bs.length),
    (m.putBytes a bs).byte (a + i) = bs[i] := by
  induction bs with
  | nil => intro m a i h; simp at h
  | cons v t ih =>
    intro m a i h
    cases i with
    | zero =>
      rw [LaneMem.putBytes, LaneMem.byte_putBytes_outside t _ _ _ (by omega)]
      simp
    | succ n =>
      have := ih (m.putByte a v) (a + 1) n (by simpa using h)
      simpa [LaneMem.putBytes, Nat.add_assoc, Nat.add_comm 1 n] using this

/-- The bytes of a memory do not depend on what is wrong with its words. -/
@[simp] theorem LaneMem.byte_mark (m : LaneMem) (w : Nat) (c : WordCond) (a : Nat) : (m.mark w c).byte a = m.byte a := rfl

@[simp] theorem leBytes_length (n v : Nat) : (leBytes n v).length = n := by
  induction n generalizing v with
  | zero => rfl
  | succ n ih => simp [leBytes, ih]

/-- A store leaves every byte outside it. -/
theorem LaneMem.byte_store_outside (m : LaneMem) (a n v b : Nat) (h : b < a ∨ a + n ≤ b) :
    (m.store a n v).byte b = m.byte b := by
  have := LaneMem.byte_putBytes_outside (leBytes n v) m a b (by simpa using h)
  simpa [LaneMem.store, LaneMem.byte] using this

/-! ### The canonical form -/

theorem Memory.wf_putByte {m : LaneMem} (a : Nat) (v : Byte) (h : Memory.wf m = true) : Memory.wf (m.putByte a v) = true :=
  Sparse.wf_set _ a v h

theorem Memory.wf_putBytes (bs : List Byte) : ∀ {m : LaneMem} (a : Nat), Memory.wf m = true →
    Memory.wf (m.putBytes a bs) = true := by
  induction bs with
  | nil => intro m a h; exact h
  | cons v t ih => intro m a h; exact ih (a + 1) (Memory.wf_putByte a v h)

/-- The canonical form does not depend on what is wrong with the words. -/
theorem Memory.wf_cond (m : LaneMem) (c : Sp WordCond) : Memory.wf { m with cond := c } = Memory.wf m := rfl

theorem Memory.wf_putWords {m : LaneMem} (a : Nat) (bs : List Byte) (h : Memory.wf m = true) :
    Memory.wf (m.putWords a bs) = true := Memory.wf_putBytes _ a h

theorem Memory.wf_store {m : LaneMem} (a n v : Nat) (h : Memory.wf m = true) : Memory.wf (m.store a n v) = true :=
  Memory.wf_putBytes _ a h

theorem Memory.wf_mark {m : LaneMem} (w : Nat) (c : WordCond) (h : Memory.wf m = true) : Memory.wf (m.mark w c) = true := h

/-- The memories are canonical exactly where each lane's is. -/
theorem Mems.wf_iff (m : Mems) : m.wf = true ↔ ∀ l, Memory.wf (m.lane l) = true := by
  constructor
  · intro h l
    simp only [Mems.wf, Bool.and_eq_true] at h
    cases l
    · exact h.1.1.1
    · exact h.1.1.2
    · exact h.1.2
    · exact h.2
  · intro h
    simp only [Mems.wf, Bool.and_eq_true]
    exact ⟨⟨⟨h .A, h .B⟩, h .C⟩, h .D⟩

/-- Replacing one lane's memory by a canonical one keeps the form. -/
theorem Mems.wf_setLane {m : Mems} (l : LaneId) {x : LaneMem} (h : m.wf = true) (hx : Memory.wf x = true) :
    (m.setLane l x).wf = true := by
  rw [Mems.wf_iff] at h ⊢
  intro j
  by_cases e : j = l
  · subst e; cases j <;> exact hx
  · have : (m.setLane l x).lane j = m.lane j := by cases l <;> cases j <;> first | rfl | exact absurd rfl e
    rw [this]; exact h j

/-- A read of a word, whatever it finds, keeps the form. -/
theorem Mems.wf_readWord {m : Mems} (d : Dev) (l : LaneId) (r w : Nat) (e : Ecc) (h : m.wf = true) :
    (Dev.readWord m d l r w e).1.wf = true := by
  unfold Dev.readWord
  have hl := (Mems.wf_iff m).1 h l
  split <;> first
    | exact h
    | exact Mems.wf_setLane l h (Memory.wf_mark _ _ hl)

/-- The memory after reset is canonical: it lists nothing. -/
theorem Mems.wf_reset : State.reset.mems.wf = true := rfl

end Sys2Proof.Machine
end

