-- ==== Sys2Proof/Laws/Canon.lean ====
section
/-!
SUPPORT. Every shared operation that changes Chord SRAM keeps its canonical form.
-/
namespace Sys2Proof.Machine

/-- A fold over parts of a pair keeps a property of the memories that each step keeps. -/
theorem foldl_wf {A : Type} (f : Mems × Dev → A → Mems × Dev) (hf : ∀ md a, md.1.wf = true → (f md a).1.wf = true)
    (xs : List A) : ∀ md : Mems × Dev, md.1.wf = true → (xs.foldl f md).1.wf = true := by
  induction xs with
  | nil => intro md h; exact h
  | cons a t ih => intro md h; exact ih _ (hf md a h)

theorem wf_put {m : Mems} (l : LaneId) (f : LaneMem → LaneMem) (hf : ∀ x, Memory.wf x = true → Memory.wf (f x) = true)
    (h : m.wf = true) : (m.setLane l (f (m.lane l))).wf = true :=
  Mems.wf_setLane l h (hf _ ((Mems.wf_iff m).1 h l))

theorem wf_ite {p : Prop} [Decidable p] {A : Type} {x y : Mems × A} (h : p → x.1.wf = true) (k : ¬p → y.1.wf = true) :
    (if p then x else y).1.wf = true := by
  split
  · exact h ‹_›
  · exact k ‹_›

/-! ### Instructions -/

theorem wf_fetch {m : Mems} (d : Dev) (l : LaneId) (w : Issuer) (e : Ecc) (h : m.wf = true) :
    (Dev.fetch m d l w e).1.wf = true := by
  unfold Dev.fetch
  dsimp only
  split
  · exact h
  · split
    · exact h
    · exact Mems.wf_readWord _ _ _ _ _ h

theorem wf_loadRun {m : Mems} (d : Dev) (q : Issue) (w : Issuer) (h1 : Bool) (a n : Nat) (sg : Bool) (rd : BitVec 6)
    (h : m.wf = true) : (Dev.loadRun m d q w h1 a n sg rd).1.wf = true := by
  unfold Dev.loadRun
  dsimp only
  split
  · exact h
  · split <;> exact Mems.wf_readWord _ _ _ _ _ h

theorem wf_storeRun {m : Mems} (d : Dev) (q : Issue) (w : Issuer) (h1 : Bool) (a n : Nat) (v : Dword)
    (h : m.wf = true) : (Dev.storeRun m d q w h1 a n v).1.wf = true := by
  unfold Dev.storeRun
  extract_lets l hf code d1 r
  have hr : r.1.wf = true := wf_ite (fun _ => h) (fun _ => Mems.wf_readWord _ _ _ _ _ h)
  exact wf_ite (fun _ => h) (fun _ => wf_ite
    (fun _ => wf_put l (fun x => x.store a n v.toNat) (fun x hx => Memory.wf_store a n _ hx) hr) (fun _ => hr))

theorem wf_loadCand {m : Mems} (d : Dev) (q : Issue) (w : Issuer) (k a n : Nat) (sg : Bool) (rd : BitVec 6)
    (h : m.wf = true) : (Dev.loadCand m d q w k a n sg rd).1.wf = true := by
  unfold Dev.loadCand
  extract_lets l x b code own r
  have hr : r.1.wf = true := by
    show (if own = true then (m, d, true) else _).1.wf = true
    split
    · exact h
    · exact Mems.wf_readWord _ _ _ _ _ h
  split
  · exact h
  · split <;> exact hr

/-! ### Transfers of the engine -/

/-- A transfer that no region table or lock stops word by word keeps the form. -/
theorem wf_dma {m : Mems} (d : Dev) (l : LaneId) (r a : Nat) (bs : List Byte) (h : m.wf = true) :
    (Dev.dma m d l r a bs).1.wf = true := by
  have key : ∀ (ws : List Nat) (x : LaneMem), Memory.wf x = true →
      Memory.wf (ws.foldl (fun m i => m.putWords (a + 8 * i) ((bs.drop (8 * i)).take 8)) x) = true := by
    intro ws
    induction ws with
    | nil => intro x hx; exact hx
    | cons i t ih => intro x hx; exact ih _ (Memory.wf_putWords _ _ hx)
  exact wf_put l _ (fun x hx => key _ x hx) h

/-! ### Activations and seals -/

theorem wf_loadCopies {m : Mems} (d : Dev) (n : Nat) (h : m.wf = true) : (Dev.loadCopies m d n).1.wf = true := by
  unfold Dev.loadCopies
  refine foldl_wf _ (fun md c hmd => ?_) _ (m, d) h
  split
  · exact wf_put .D (fun x => x.putWords _ _) (fun x hx => Memory.wf_putWords _ _ hx) hmd
  · exact hmd

theorem wf_storeCommand {m : Mems} (d : Dev) (l : LaneId) (r : Run) (h : m.wf = true) :
    (Dev.storeCommand m d l r).1.wf = true := by
  unfold Dev.storeCommand
  dsimp only
  split
  · exact wf_dma _ _ _ _ _ h
  · exact h

theorem wf_sourceEvent {m : Mems} (d : Dev) (l : LaneId) (n e tA key : Nat) (w : Bool) (h : m.wf = true) :
    (Dev.sourceEvent m d l n e tA key w).1.wf = true := by
  unfold Dev.sourceEvent
  extract_lets x div md d1
  have hmd : md.1.wf = true := by
    show (if _ then Dev.loadCopies m d n else (m, d)).1.wf = true
    split
    · exact wf_loadCopies d n h
    · exact h
  split
  · exact h
  · split
    · exact h
    · split
      · exact hmd
      · split
        · exact wf_storeCommand _ _ _ hmd
        · exact hmd

theorem wf_sourceEvents {m : Mems} (d : Dev) (l : LaneId) (p : Nat → Bool) (e tA key : Nat) (w : Bool) (h : m.wf = true) :
    (Dev.sourceEvents m d l p e tA key w).1.wf = true :=
  foldl_wf _ (fun md n hmd => wf_sourceEvent md.2 l n e tA key w hmd) _ (m, d) h

theorem wf_sealRun {m : Mems} (d : Dev) (l : LaneId) (c : CompId) (h1 : Bool) (r : Run) (t : Nat) (h : m.wf = true) :
    (Dev.sealRun m d l c h1 r t).1.wf = true := wf_sourceEvents _ _ _ _ _ _ _ h

theorem wf_sealAct {m : Mems} (d : Dev) (l : LaneId) (h1 : Bool) (r : Run) (h : m.wf = true) :
    (Dev.sealAct m d l h1 r).1.wf = true := by
  unfold Dev.sealAct
  split
  · dsimp only
    split
    · exact wf_sealRun _ _ _ _ _ _ h
    · exact h
  · exact h

theorem wf_perform {m : Mems} (d : Dev) (q : Issue) (w : Issuer) (o : Out) (h : m.wf = true) :
    (Dev.perform m d q w o).1.wf = true := by
  unfold Dev.perform
  dsimp only
  match o with
  | .int .. => exact wf_ite (fun _ => h) (fun _ => h)
  | .flt .. => exact wf_ite (fun _ => h) (fun _ => h)
  | .prd .. => exact wf_ite (fun _ => h) (fun _ => h)
  | .jmp .. => exact h
  | .jr .. => exact h
  | .exc .. => exact h
  | .load .. =>
    dsimp only
    split
    · exact wf_loadRun _ _ _ _ _ _ _ _ h
    · exact wf_loadCand _ _ _ _ _ _ _ _ h
  | .store .. =>
    dsimp only
    split
    · exact wf_storeRun _ _ _ _ _ _ _ h
    · exact h
  | .lkb .. => dsimp only; split <;> exact h
  | .lke => dsimp only; split <;> exact h
  | .seal =>
    dsimp only
    split
    · split
      · exact wf_sealAct _ _ _ _ h
      · exact h
    · exact h
  | .skip => exact h

theorem wf_execute {m : Mems} (d : Dev) (q : Issue) (w : Issuer) (k : Work) (h : m.wf = true) :
    (Dev.execute m d q w k).1.wf = true := by
  unfold Dev.execute
  dsimp only
  split
  · exact wf_perform _ _ _ _ h
  · exact h

/-- One instruction keeps the form. -/
theorem wf_issue {m : Mems} (d : Dev) (q : Issue) (k : Work) (h : m.wf = true) : (Dev.issue m d q k).1.wf = true := by
  unfold Dev.issue
  split
  · exact h
  · have hf := fun w => wf_fetch (d.hit q.lane w q) q.lane w q.fetch h
    dsimp only
    split
    · exact wf_execute _ _ _ _ (hf _)
    · exact hf _

/-! ### Blocks, payloads, initialisation and power -/

theorem wf_storeBlocks {m : Mems} (d : Dev) (l : LaneId) (s : Samples) (r : Run) (h : m.wf = true) :
    (Dev.storeBlocks m d l s r).1.wf = true := by
  unfold Dev.storeBlocks
  dsimp only
  split
  · exact h
  · exact wf_storeCommand _ _ _ (wf_dma _ _ _ _ _ h)

theorem wf_dataAct {m : Mems} (d : Dev) (c : CompId) (l : LaneId) (f : RxFrame) (k : Hdr) (n i : Nat) (h : m.wf = true) :
    (Dev.dataAct m d c l f k n i).1.wf = true := by
  unfold Dev.dataAct
  dsimp only
  split
  · exact h
  · refine wf_sourceEvents _ _ _ _ _ _ _ ?_
    split
    · exact h
    · exact wf_dma _ _ _ _ _ (wf_dma _ _ _ _ _ h)

theorem wf_deliver {m : Mems} (d : Dev) (c : CompId) (l : LaneId) (f : RxFrame) (k : Hdr) (n i : Nat) (p : Bool)
    (h : m.wf = true) : (Dev.deliver m d c l f k n i p).1.wf = true := by
  unfold Dev.deliver
  dsimp only
  split
  · exact h
  · split
    · exact h
    · split
      · exact wf_dataAct _ _ _ _ _ _ _ h
      · split
        · exact h
        · split
          · split
            · split <;> exact h
            · exact h
          · exact h

theorem wf_initMem (init : List (Nat × Byte)) : Memory.wf (initMem init) = true := by
  have key : ∀ (xs : List (Nat × Byte)) (m : LaneMem), Memory.wf m = true →
      Memory.wf (xs.foldl (fun m p => if p.1 < 4194304 then m.putByte p.1 p.2 else m) m) = true := by
    intro xs
    induction xs with
    | nil => intro m h; exact h
    | cons a t ih =>
      intro m h
      refine ih _ ?_
      dsimp only
      split
      · exact Memory.wf_putByte _ _ h
      · exact h
  exact key init {} rfl

theorem wf_powerLoss {m : Mems} (d e : Dev) (h : m.wf = true) : (m.powerLoss d e).wf = true := by
  rw [Mems.wf_iff] at h ⊢
  intro l
  cases l
  · show Memory.wf (if _ then _ else _) = true; split <;> first | rfl | exact h .A
  · show Memory.wf (if _ then _ else _) = true; split <;> first | rfl | exact h .B
  · show Memory.wf (if _ then _ else _) = true; split <;> first | rfl | exact h .C
  · show Memory.wf (if _ then _ else _) = true; split <;> first | rfl | exact h .D

/-! ### Register and memory accesses -/

theorem wf_memRd {m : Mems} (d : Dev) (l : LaneId) (a : Nat) (h : m.wf = true) : (Dev.memRd m d l a).1.wf = true := by
  unfold Dev.memRd
  dsimp only
  split
  · exact h
  · split
    · exact h
    · split <;> exact Mems.wf_readWord _ _ _ _ _ h

theorem wf_memWr {m : Mems} (d : Dev) (l : LaneId) (a w : Nat) (h : m.wf = true) : (Dev.memWr m d l a w).1.wf = true := by
  unfold Dev.memWr
  dsimp only
  split
  · exact h
  · split
    · exact h
    · have hr := Mems.wf_readWord (d.modLane l (fun x => x.beats 9 1)) l 9 (a / 8) .clean h
      split
      · exact wf_put l (fun x => x.store _ _ _) (fun x hx => Memory.wf_store _ _ _ hx) hr
      · exact hr

end Sys2Proof.Machine
end

