-- ==== Sys2Proof/Laws/State.lean ====
section
/-!
SUPPORT. One lemma for each field of each update of the state and of its dies, all true by computation.
-/
namespace Sys2Proof.Machine

/-! ### Lanes, companions and the witness within the part -/

@[simp] theorem Dev.lane_setLane_same (d : Dev) (l : LaneId) (x : Lane) : (d.setLane l x).lane l = x := by cases l <;> rfl

theorem Dev.lane_setLane_ne (d : Dev) {j l : LaneId} (x : Lane) (h : j ≠ l) : (d.setLane l x).lane j = d.lane j := by
  cases l <;> cases j <;> first | rfl | exact absurd rfl h

@[simp] theorem Dev.comp_setLane (d : Dev) (l : LaneId) (x : Lane) (c : CompId) : (d.setLane l x).comp c = d.comp c := by
  cases l <;> cases c <;> rfl

@[simp] theorem Dev.wit_setLane (d : Dev) (l : LaneId) (x : Lane) : (d.setLane l x).wit = d.wit := by cases l <;> rfl
@[simp] theorem Dev.pwr_setLane (d : Dev) (l : LaneId) (x : Lane) : (d.setLane l x).pwr = d.pwr := by cases l <;> rfl
@[simp] theorem Dev.clk_setLane (d : Dev) (l : LaneId) (x : Lane) : (d.setLane l x).clk = d.clk := by cases l <;> rfl

@[simp] theorem Dev.comp_setComp_same (d : Dev) (c : CompId) (x : Comp) : (d.setComp c x).comp c = x := by cases c <;> rfl

theorem Dev.comp_setComp_ne (d : Dev) {b c : CompId} (x : Comp) (h : b ≠ c) : (d.setComp c x).comp b = d.comp b := by
  cases c <;> cases b <;> first | rfl | exact absurd rfl h

@[simp] theorem Dev.lane_setComp (d : Dev) (c : CompId) (x : Comp) (l : LaneId) : (d.setComp c x).lane l = d.lane l := by
  cases c <;> cases l <;> rfl

@[simp] theorem Dev.wit_setComp (d : Dev) (c : CompId) (x : Comp) : (d.setComp c x).wit = d.wit := by cases c <;> rfl
@[simp] theorem Dev.pwr_setComp (d : Dev) (c : CompId) (x : Comp) : (d.setComp c x).pwr = d.pwr := by cases c <;> rfl
@[simp] theorem Dev.clk_setComp (d : Dev) (c : CompId) (x : Comp) : (d.setComp c x).clk = d.clk := by cases c <;> rfl

@[simp] theorem Dev.lane_modLane_same (d : Dev) (l : LaneId) (f : Lane → Lane) : (d.modLane l f).lane l = f (d.lane l) := by
  simp [Dev.modLane]

theorem Dev.lane_modLane_ne (d : Dev) {j l : LaneId} (f : Lane → Lane) (h : j ≠ l) :
    (d.modLane l f).lane j = d.lane j := by
  simp [Dev.modLane, Dev.lane_setLane_ne d _ h]

@[simp] theorem Dev.comp_modLane (d : Dev) (l : LaneId) (f : Lane → Lane) (c : CompId) :
    (d.modLane l f).comp c = d.comp c := by simp [Dev.modLane]
@[simp] theorem Dev.wit_modLane (d : Dev) (l : LaneId) (f : Lane → Lane) : (d.modLane l f).wit = d.wit := by
  simp [Dev.modLane]
@[simp] theorem Dev.pwr_modLane (d : Dev) (l : LaneId) (f : Lane → Lane) : (d.modLane l f).pwr = d.pwr := by
  simp [Dev.modLane]
@[simp] theorem Dev.clk_modLane (d : Dev) (l : LaneId) (f : Lane → Lane) : (d.modLane l f).clk = d.clk := by
  simp [Dev.modLane]

@[simp] theorem Dev.comp_modComp_same (d : Dev) (c : CompId) (f : Comp → Comp) : (d.modComp c f).comp c = f (d.comp c) := by
  simp [Dev.modComp]

theorem Dev.comp_modComp_ne (d : Dev) {b c : CompId} (f : Comp → Comp) (h : b ≠ c) :
    (d.modComp c f).comp b = d.comp b := by
  simp [Dev.modComp, Dev.comp_setComp_ne d _ h]

@[simp] theorem Dev.lane_modComp (d : Dev) (c : CompId) (f : Comp → Comp) (l : LaneId) :
    (d.modComp c f).lane l = d.lane l := by simp [Dev.modComp]
@[simp] theorem Dev.wit_modComp (d : Dev) (c : CompId) (f : Comp → Comp) : (d.modComp c f).wit = d.wit := by
  simp [Dev.modComp]
@[simp] theorem Dev.pwr_modComp (d : Dev) (c : CompId) (f : Comp → Comp) : (d.modComp c f).pwr = d.pwr := by
  simp [Dev.modComp]
@[simp] theorem Dev.clk_modComp (d : Dev) (c : CompId) (f : Comp → Comp) : (d.modComp c f).clk = d.clk := by
  simp [Dev.modComp]

@[simp] theorem Dev.lane_modWit (d : Dev) (f : Wit → Wit) (l : LaneId) : (d.modWit f).lane l = d.lane l := by cases l <;> rfl
@[simp] theorem Dev.comp_modWit (d : Dev) (f : Wit → Wit) (c : CompId) : (d.modWit f).comp c = d.comp c := by cases c <;> rfl
@[simp] theorem Dev.wit_modWit (d : Dev) (f : Wit → Wit) : (d.modWit f).wit = f d.wit := rfl
@[simp] theorem Dev.pwr_modWit (d : Dev) (f : Wit → Wit) : (d.modWit f).pwr = d.pwr := rfl
@[simp] theorem Dev.clk_modWit (d : Dev) (f : Wit → Wit) : (d.modWit f).clk = d.clk := rfl

/-! ### A register context -/

@[simp] theorem Ctx.preg_setPreg_same (c : Ctx) (i : Nat) (p : PReg) : (c.setPreg i p).preg i = p := by
  simp [Ctx.preg, Ctx.setPreg]

theorem Ctx.preg_setPreg_ne (c : Ctx) {j i : Nat} (p : PReg) (h : j ≠ i) : (c.setPreg i p).preg j = c.preg j := by
  simp [Ctx.preg, Ctx.setPreg, Sparse.look_put_ne _ _ h]

@[simp] theorem Ctx.pfile_setPreg (c : Ctx) (i : Nat) (p : PReg) : (c.setPreg i p).pfile = c.pfile := rfl
@[simp] theorem Ctx.pc_setPreg (c : Ctx) (i : Nat) (p : PReg) : (c.setPreg i p).pc = c.pc := rfl
@[simp] theorem Ctx.mirror_setPreg (c : Ctx) (i : Nat) (p : PReg) : (c.setPreg i p).mirror = c.mirror := rfl

@[simp] theorem Ctx.file_goto (c : Ctx) (a : BitVec 22) : (c.goto a).file = c.file := rfl
@[simp] theorem Ctx.pfile_goto (c : Ctx) (a : BitVec 22) : (c.goto a).pfile = c.pfile := rfl
@[simp] theorem Ctx.pc_goto (c : Ctx) (a : BitVec 22) : (c.goto a).pc = a := rfl
@[simp] theorem Ctx.mirror_goto (c : Ctx) (a : BitVec 22) : (c.goto a).mirror = c.mirror := rfl
@[simp] theorem Ctx.rg_goto (c : Ctx) (a : BitVec 22) (r : BitVec 6) : (c.goto a).rg r = c.rg r := rfl
@[simp] theorem Ctx.shadow_goto (c : Ctx) (a : BitVec 22) (r : BitVec 6) : (c.goto a).shadow r = c.shadow r := rfl
@[simp] theorem Ctx.rp_goto (c : Ctx) (a : BitVec 22) (p : BitVec 3) : (c.goto a).rp p = c.rp p := rfl

/-- A primary copy written reads back; a write to g0 is discarded (R38). -/
@[simp] theorem Ctx.rg_wg_same (c : Ctx) (r : BitVec 6) (v : Dword) : (c.wg r v).rg r = if r = 0 then 0 else v := by
  unfold Ctx.wg Ctx.rg
  split
  · rfl
  · show BitVec.truncate 64 ((c.setPreg (c.primIdx r) _).preg (c.primIdx r)).val = v
    rw [Ctx.preg_setPreg_same]
    simp [PReg.of]

/-- A primary copy written leaves those of the other registers. -/
theorem Ctx.rg_wg_ne (c : Ctx) {j r : BitVec 6} (v : Dword) (h : j ≠ r) : (c.wg r v).rg j = c.rg j := by
  unfold Ctx.wg
  split
  · rfl
  · have hn : c.primIdx j ≠ c.primIdx r := by
      have := j.isLt; have := r.isLt
      have : j.toNat ≠ r.toNat := fun e => h (BitVec.eq_of_toNat_eq e)
      unfold Ctx.primIdx; split <;> omega
    show (if j = 0 then 0 else BitVec.truncate 64 ((c.setPreg (c.primIdx r) _).preg (c.primIdx j)).val) = _
    rw [Ctx.preg_setPreg_ne _ _ hn]
    rfl

@[simp] theorem Ctx.shadow_wsh_same (c : Ctx) (r : BitVec 6) (p : PReg) :
    (c.wsh r p).shadow r = if r = 0 then PReg.of 0 0 else p := by
  unfold Ctx.wsh Ctx.shadow; split <;> simp

/-- A predicate written reads back; a write to p0 is discarded. -/
@[simp] theorem Ctx.rp_wp_same (c : Ctx) (p : BitVec 3) (b : Bool) : (c.wp p b).rp p = if p = 0 then true else b := by
  unfold Ctx.wp Ctx.rp
  split
  · rfl
  · have hn : p.toNat ≠ 15 - p.toNat := by omega
    simp [Sparse.look_put_ne _ _ hn]

@[simp] theorem Ctx.file_wp (c : Ctx) (p : BitVec 3) (b : Bool) : (c.wp p b).file = c.file := by unfold Ctx.wp; split <;> rfl
@[simp] theorem Ctx.pc_wp (c : Ctx) (p : BitVec 3) (b : Bool) : (c.wp p b).pc = c.pc := by unfold Ctx.wp; split <;> rfl

/-! ### Chord SRAM of the lanes -/

@[simp] theorem Mems.lane_setLane_same (m : Mems) (l : LaneId) (x : LaneMem) : (m.setLane l x).lane l = x := by
  cases l <;> rfl

theorem Mems.lane_setLane_ne (m : Mems) {j l : LaneId} (x : LaneMem) (h : j ≠ l) :
    (m.setLane l x).lane j = m.lane j := by
  cases l <;> cases j <;> first | rfl | exact absurd rfl h

/-! ### Time -/

@[simp] theorem Dev.clk_elapse (d : Dev) (a b : Nat) : (d.elapse a b).clk = b := rfl
@[simp] theorem Dev.lane_elapse (d : Dev) (a b : Nat) (l : LaneId) : (d.elapse a b).lane l = d.lane l := by cases l <;> rfl
@[simp] theorem Dev.comp_elapse (d : Dev) (a b : Nat) (c : CompId) :
    (d.elapse a b).comp c = (d.comp c).elapse (b - a) := by cases c <;> rfl
@[simp] theorem Dev.wit_elapse (d : Dev) (a b : Nat) : (d.elapse a b).wit = d.wit.elapse a b := rfl
@[simp] theorem Dev.pwr_elapse (d : Dev) (a b : Nat) : (d.elapse a b).pwr = d.pwr := rfl

@[simp] theorem Comp.regs_elapse (c : Comp) (n : Nat) : (c.elapse n).regs = c.regs := by
  unfold Comp.elapse; split <;> rfl
@[simp] theorem Comp.powered_elapse (c : Comp) (n : Nat) : (c.elapse n).powered = c.powered := by
  unfold Comp.elapse; split <;> rfl
@[simp] theorem Comp.running_elapse (c : Comp) (n : Nat) : (c.elapse n).running = c.running := by
  unfold Comp.elapse; split <;> rfl
@[simp] theorem Comp.sw_elapse (c : Comp) (n : Nat) : (c.elapse n).sw = c.sw := by
  unfold Comp.elapse; split <;> rfl
@[simp] theorem Wit.regs_elapse (w : Wit) (a b : Nat) : (w.elapse a b).regs = w.regs := by
  unfold Wit.elapse; split <;> rfl
@[simp] theorem Wit.powered_elapse (w : Wit) (a b : Nat) : (w.elapse a b).powered = w.powered := by
  unfold Wit.elapse; split <;> rfl

@[simp] theorem Comp.rd_elapse (c : Comp) (n : Nat) (f : Fld) : (c.elapse n).rd f = c.rd f := by simp [Comp.rd]
@[simp] theorem Wit.rd_elapse (w : Wit) (a b : Nat) (f : Fld) : (w.elapse a b).rd f = w.rd f := by simp [Wit.rd]

/-- Time never goes back. -/
theorem State.now_le_instant (s : State) (tm : Nat) : s.now ≤ s.instant tm := Nat.le_max_left ..

/-- What a command's effect on the dies leaves: memory and the queue stand, the time is the command's. -/
theorem State.act_spec (s : State) (tm : Nat) (f : Nat → Dev → Dev) :
    s.act tm f = .next { s with now := s.instant tm, dev := f (s.instant tm) (s.dev.elapse s.now (s.instant tm)) } := rfl

theorem State.actR_spec (s : State) (tm : Nat) (f : Nat → Mems → Dev → Dev) :
    s.actR tm f =
      .next { s with now := s.instant tm, dev := f (s.instant tm) s.mems (s.dev.elapse s.now (s.instant tm)) } := rfl

theorem State.actM_spec (s : State) (tm : Nat) (f : Nat → Mems → Dev → Mems × Dev) :
    s.actM tm f = .next { s with now := s.instant tm
                                 mems := (f (s.instant tm) s.mems (s.dev.elapse s.now (s.instant tm))).1
                                 dev := (f (s.instant tm) s.mems (s.dev.elapse s.now (s.instant tm))).2 } := rfl

end Sys2Proof.Machine
end

