-- ==== Sys2Proof/Laws/Regs.lean ====
section
/-!
SUPPORT. Laws of register fields: a field written reads back, cut to its width, and fields of other keys stand.
-/
namespace Sys2Proof.Machine

@[simp] theorem RegMap.get_set_same (m : RegMap) (f : Fld) (v : Nat) :
    (RegMap.set m f v).get f = v % 2 ^ (f.hi + 1 - f.lo) := by simp [RegMap.get, RegMap.set]

theorem RegMap.get_set_ne (m : RegMap) {f g : Fld} (v : Nat) (h : f.key ≠ g.key) : (RegMap.set m g v).get f = RegMap.get m f := by
  simp only [RegMap.get, RegMap.set, Sparse.get]
  by_cases hv : v % 2 ^ (g.hi + 1 - g.lo) = g.reset
  · simp [Sparse.set, hv, Sparse.look_del_ne m h]
  · simp [Sparse.set, hv, Sparse.look_ins _ _ _ _ (Sparse.look_del_same m g.key), Sparse.look_del_ne m h, Ne.symm h]

theorem RegMap.get_addSat_ne (m : RegMap) {f g : Fld} (n : Nat) (h : f.key ≠ g.key) :
    (RegMap.addSat m g n).get f = RegMap.get m f := RegMap.get_set_ne m _ h

@[simp] theorem Lane.rd_wr_same (l : Lane) (f : Fld) (v : Nat) : (l.wr f v).rd f = v % 2 ^ (f.hi + 1 - f.lo) := by
  simp [Lane.rd, Lane.wr]
theorem Lane.rd_wr_ne (l : Lane) {f g : Fld} (v : Nat) (h : f.key ≠ g.key) : (l.wr g v).rd f = l.rd f :=
  RegMap.get_set_ne _ v h
theorem Lane.rd_inc_ne (l : Lane) {f g : Fld} (h : f.key ≠ g.key) : (l.inc g).rd f = l.rd f :=
  RegMap.get_addSat_ne _ 1 h
@[simp] theorem Lane.rd_inc_same (l : Lane) (f : Fld) :
    (l.inc f).rd f = min (l.rd f + 1) f.max % 2 ^ (f.hi + 1 - f.lo) := by
  simp [Lane.rd, Lane.inc, RegMap.addSat]

@[simp] theorem Comp.rd_wr_same (c : Comp) (f : Fld) (v : Nat) : (c.wr f v).rd f = v % 2 ^ (f.hi + 1 - f.lo) := by
  simp [Comp.rd, Comp.wr]
theorem Comp.rd_wr_ne (c : Comp) {f g : Fld} (v : Nat) (h : f.key ≠ g.key) : (c.wr g v).rd f = c.rd f :=
  RegMap.get_set_ne _ v h
theorem Comp.rd_inc_ne (c : Comp) {f g : Fld} (h : f.key ≠ g.key) : (c.inc g).rd f = c.rd f :=
  RegMap.get_addSat_ne _ 1 h
@[simp] theorem Comp.rd_inc_same (c : Comp) (f : Fld) :
    (c.inc f).rd f = min (c.rd f + 1) f.max % 2 ^ (f.hi + 1 - f.lo) := by
  simp [Comp.rd, Comp.inc, RegMap.addSat]

@[simp] theorem Wit.rd_wr_same (w : Wit) (f : Fld) (v : Nat) : (w.wr f v).rd f = v % 2 ^ (f.hi + 1 - f.lo) := by
  simp [Wit.rd, Wit.wr]
theorem Wit.rd_wr_ne (w : Wit) {f g : Fld} (v : Nat) (h : f.key ≠ g.key) : (w.wr g v).rd f = w.rd f :=
  RegMap.get_set_ne _ v h
theorem Wit.rd_inc_ne (w : Wit) {f g : Fld} (h : f.key ≠ g.key) : (w.inc g).rd f = w.rd f :=
  RegMap.get_addSat_ne _ 1 h

@[simp] theorem Dev.comp_wrL (d : Dev) (l : LaneId) (f : Fld) (v : Nat) (c : CompId) : (d.wrL l f v).comp c = d.comp c := by
  simp [Dev.wrL]
@[simp] theorem Dev.wit_wrL (d : Dev) (l : LaneId) (f : Fld) (v : Nat) : (d.wrL l f v).wit = d.wit := by simp [Dev.wrL]
@[simp] theorem Dev.pwr_wrL (d : Dev) (l : LaneId) (f : Fld) (v : Nat) : (d.wrL l f v).pwr = d.pwr := by simp [Dev.wrL]
@[simp] theorem Dev.clk_wrL (d : Dev) (l : LaneId) (f : Fld) (v : Nat) : (d.wrL l f v).clk = d.clk := by simp [Dev.wrL]
@[simp] theorem Dev.lane_wrL_same (d : Dev) (l : LaneId) (f : Fld) (v : Nat) :
    (d.wrL l f v).lane l = (d.lane l).wr f v := by simp [Dev.wrL]
theorem Dev.lane_wrL_ne (d : Dev) {j l : LaneId} (f : Fld) (v : Nat) (h : j ≠ l) : (d.wrL l f v).lane j = d.lane j :=
  Dev.lane_modLane_ne d _ h

@[simp] theorem Dev.lane_wrC (d : Dev) (c : CompId) (f : Fld) (v : Nat) (l : LaneId) : (d.wrC c f v).lane l = d.lane l := by
  simp [Dev.wrC]
@[simp] theorem Dev.wit_wrC (d : Dev) (c : CompId) (f : Fld) (v : Nat) : (d.wrC c f v).wit = d.wit := by simp [Dev.wrC]
@[simp] theorem Dev.pwr_wrC (d : Dev) (c : CompId) (f : Fld) (v : Nat) : (d.wrC c f v).pwr = d.pwr := by simp [Dev.wrC]
@[simp] theorem Dev.clk_wrC (d : Dev) (c : CompId) (f : Fld) (v : Nat) : (d.wrC c f v).clk = d.clk := by simp [Dev.wrC]
@[simp] theorem Dev.comp_wrC_same (d : Dev) (c : CompId) (f : Fld) (v : Nat) :
    (d.wrC c f v).comp c = (d.comp c).wr f v := by simp [Dev.wrC]
theorem Dev.comp_wrC_ne (d : Dev) {b c : CompId} (f : Fld) (v : Nat) (h : b ≠ c) : (d.wrC c f v).comp b = d.comp b :=
  Dev.comp_modComp_ne d _ h

/-- A function applied for each element keeps what each application keeps. -/
theorem Dev.each_keeps {A B : Type} (g : Dev → B) (f : Dev → A → Dev) (h : ∀ d a, g (f d a) = g d) (xs : List A) :
    ∀ d : Dev, g (d.each xs f) = g d := by
  induction xs with
  | nil => intro d; rfl
  | cons a t ih => intro d; exact (ih (f d a)).trans (h d a)

end Sys2Proof.Machine
end

