-- ==== Sys2Proof/Laws/Quiet.lean ====
section
/-!
SUPPORT. What raising an event and letting the part settle can do: nothing outside the recorder, the event registers, the
rings' held items and the holding-brake outputs (`Dev.Like`).
-/
namespace Sys2Proof.Machine

/-! ### Lanes -/

/-- Two lanes are alike apart from events and settling. -/
def Lane.Alike (x y : Lane) : Prop := x.body = y.body ∧ ∀ f : Fld, f.quiet = true → x.rd f = y.rd f

theorem Lane.Alike.refl (x : Lane) : x.Alike x := ⟨rfl, fun _ _ => rfl⟩
theorem Lane.Alike.symm {x y : Lane} (h : x.Alike y) : y.Alike x := ⟨h.1.symm, fun f hf => (h.2 f hf).symm⟩
theorem Lane.Alike.trans {x y z : Lane} (h : x.Alike y) (k : y.Alike z) : x.Alike z :=
  ⟨h.1.trans k.1, fun f hf => (h.2 f hf).trans (k.2 f hf)⟩

theorem Lane.alike_wr (x : Lane) {g : Fld} (v : Nat) (hg : g.quiet = false) : (x.wr g v).Alike x :=
  ⟨rfl, fun f hf => Lane.rd_wr_ne x v (by
    intro h
    rw [Fld.quiet, h] at hf
    rw [Fld.quiet] at hg
    rw [hg] at hf
    exact absurd hf (by decide))⟩

theorem Lane.alike_inc (x : Lane) {g : Fld} (hg : g.quiet = false) : (x.inc g).Alike x := Lane.alike_wr x _ hg

theorem Lane.alike_bbx (x : Lane) (r : Recorder) : Lane.Alike { x with bbx := r } x := ⟨rfl, fun _ _ => rfl⟩
theorem Lane.alike_ring (x : Lane) (r : RingEng) : Lane.Alike { x with ring := r } x := ⟨rfl, fun _ _ => rfl⟩

theorem Lane.alike_foldl {A : Type} (f : Lane → A → Lane) (h : ∀ x a, (f x a).Alike x) (xs : List A) :
    ∀ x, (xs.foldl f x).Alike x := by
  induction xs with
  | nil => intro x; exact .refl x
  | cons a t ih => intro x; exact (ih (f x a)).trans (h x a)

theorem quiet_rate (n : Nat) : (Reg.BBX_DROP.RATE (n % 4)).quiet = false := by
  have : n % 4 < 4 := Nat.mod_lt _ (by decide)
  generalize n % 4 = k at this
  match k, this with
  | 0, _ => rfl
  | 1, _ => rfl
  | 2, _ => rfl
  | 3, _ => rfl

theorem quiet_full (n : Nat) : (Reg.BBX_DROP.FULL (n % 4)).quiet = false := by
  have : n % 4 < 4 := Nat.mod_lt _ (by decide)
  generalize n % 4 = k at this
  match k, this with
  | 0, _ => rfl
  | 1, _ => rfl
  | 2, _ => rfl
  | 3, _ => rfl

theorem quiet_cnt (n : Nat) : (Reg.EVT_CNT.COUNT (n % 4)).quiet = false := by
  have : n % 4 < 4 := Nat.mod_lt _ (by decide)
  generalize n % 4 = k at this
  match k, this with
  | 0, _ => rfl
  | 1, _ => rfl
  | 2, _ => rfl
  | 3, _ => rfl

theorem Lane.alike_ringLoses (x : Lane) (k n : Nat) (hk : k < 3) : (x.ringLoses k n).Alike x := by
  match k, hk with
  | 0, _ => exact Lane.alike_wr x _ rfl
  | 1, _ => exact Lane.alike_wr x _ rfl
  | 2, _ => exact Lane.alike_wr x _ rfl

theorem Lane.alike_holdEvt (x : Lane) (k : Nat) (e : Evt) (hk : k < 3) : (x.holdEvt k e).Alike x := by
  unfold Lane.holdEvt
  dsimp only
  split <;> split <;> first
    | exact (Lane.alike_bbx _ _).trans (Lane.alike_ringLoses x k 1 hk)
    | exact Lane.alike_bbx _ _

theorem Lane.alike_rateEvt (x : Lane) (k : Nat) (hk : k < 3) : (x.rateEvt k).Alike x := by
  unfold Lane.rateEvt
  dsimp only
  split <;> exact (Lane.alike_bbx _ _).trans (Lane.alike_ringLoses x k 1 hk)

theorem Lane.alike_holdLog (x : Lane) (r : JRec) : (x.holdLog r).Alike x := by
  unfold Lane.holdLog
  dsimp only
  split
  · exact (Lane.alike_bbx _ _).trans (Lane.alike_ringLoses x 1 1 (by decide))
  · exact Lane.alike_bbx _ _

theorem Lane.alike_journalEvt (x : Lane) (t : Nat) (e : Evt) : (x.journalEvt t e).Alike x := Lane.alike_bbx _ _

theorem Lane.alike_fabEvt (x : Lane) (e : Evt) : (x.fabEvt e).Alike x := by
  unfold Lane.fabEvt
  split
  · exact Lane.alike_bbx _ _
  · exact (Lane.alike_inc _ (quiet_full _)).trans (Lane.alike_bbx _ _)

theorem Lane.alike_fabStat (x : Lane) : x.fabStat.Alike x := Lane.alike_wr _ _ rfl

/-- A fold over numbers of a range stays in the range. -/
theorem foldl_range {p : Nat → Prop} (f : Option Nat → Nat → Option Nat)
    (hf : ∀ a k n, p k → (∀ m, a = some m → p m) → f a k = some n → p n) (xs : List Nat) :
    ∀ a, (∀ n ∈ xs, p n) → (∀ n, a = some n → p n) → ∀ n, xs.foldl f a = some n → p n := by
  induction xs with
  | nil => intro a _ ha n hn; exact ha n hn
  | cons x t ih =>
    intro a hx ha n hn
    exact ih _ (fun n hn => hx n (by simp [hn])) (fun m hm => hf a x m (hx x (by simp)) ha hm) n hn

theorem Recorder.freezePick_range (r : Recorder) {k : Nat} (h : r.freezePick = some k) : 1 ≤ k ∧ k ≤ 4 := by
  have mem : ∀ {n : Nat}, n ∈ [2, 3, 4] → 1 ≤ n ∧ n ≤ 4 := by
    intro n hn
    simp at hn
    omega
  unfold Recorder.freezePick at h
  dsimp only at h
  split at h
  · cases h; decide
  · split at h
    · rename_i j t hj
      have hm := (List.mem_filter.1 (hj ▸ List.mem_cons_self : j ∈ List.filter _ [2, 3, 4])).1
      cases h
      exact mem hm
    · refine foldl_range (p := fun n => 1 ≤ n ∧ n ≤ 4) _ ?_ _ none (fun n hn => mem (List.mem_filter.1 hn).1)
        (fun n hn => by cases hn) k h
      intro a j n hj ha hn
      cases a with
      | none => cases hn; exact hj
      | some b =>
        dsimp only at hn
        split at hn <;> cases hn
        · exact hj
        · exact ha _ rfl

theorem Lane.alike_freeze (x : Lane) (t : Nat) (m : RegMap) (e : Evt) : (x.freeze t m e).Alike x := by
  unfold Lane.freeze
  split
  · exact .refl x
  · next k hk =>
    have hr := Recorder.freezePick_range _ hk
    have hc : (Reg.BBX_CAP_STAT.STATE (k - 1)).quiet = false ∧ (Reg.BBX_CAP_STAT.FIRST (k - 1)).quiet = false := by
      have : k = 1 ∨ k = 2 ∨ k = 3 ∨ k = 4 := by omega
      rcases this with rfl | rfl | rfl | rfl <;> exact ⟨rfl, rfl⟩
    exact (Lane.alike_wr _ _ hc.2).trans ((Lane.alike_wr _ _ hc.1).trans ((Lane.alike_wr _ _ rfl).trans
      ((Lane.alike_wr _ _ rfl).trans ((Lane.alike_wr _ _ rfl).trans (Lane.alike_bbx _ _)))))

/-- A change under a condition. -/
theorem Lane.alike_ite {p : Prop} [Decidable p] {x y z : Lane} (h : p → x.Alike z) (k : ¬p → y.Alike z) :
    (if p then x else y).Alike z := by
  split
  · exact h ‹_›
  · exact k ‹_›

theorem Lane.alike_note (x : Lane) (e : Evt) : (x.note e).Alike x := Lane.alike_bbx _ _

theorem Lane.alike_spend (x : Lane) (e : Evt) : (x.spend e).Alike x :=
  Lane.alike_ite (fun _ => .refl _) (fun _ => Lane.alike_ite (fun _ => Lane.alike_bbx _ _) (fun _ =>
    Lane.alike_inc _ (quiet_rate _)))

theorem Lane.alike_toJournal (x : Lane) (t : Nat) (e : Evt) (a : Bool) : (x.toJournal t e a).Alike x :=
  Lane.alike_ite (fun _ => .refl _) (fun _ => Lane.alike_ite (fun _ => Lane.alike_journalEvt _ _ _) (fun _ =>
    Lane.alike_bbx _ _))

theorem Lane.alike_toRings (x : Lane) (e : Evt) (a : Bool) : (x.toRings e a).Alike x := by
  have hk : (if e.sev = sevTrace then 2 else 0) < 3 := by split <;> decide
  exact Lane.alike_ite (fun _ => Lane.alike_holdEvt _ _ _ hk) (fun _ => Lane.alike_rateEvt _ _ hk)

theorem Lane.alike_toFabric (x : Lane) (e : Evt) (a : Bool) : (x.toFabric e a).Alike x :=
  Lane.alike_ite (fun _ => Lane.alike_ite (fun _ => (Lane.alike_fabStat _).trans (Lane.alike_fabEvt _ _)) (fun _ =>
    Lane.alike_bbx _ _)) (fun _ => .refl _)

theorem Lane.alike_pass (x : Lane) (t : Nat) (m : RegMap) (e : Evt) : (x.pass t m e).Alike x := by
  have h := (Lane.alike_toFabric ((((x.note e).spend e).toJournal t e (x.admits e)).toRings e (x.admits e)) e (x.admits e)).trans
    ((Lane.alike_toRings _ _ _).trans ((Lane.alike_toJournal _ _ _ _).trans ((Lane.alike_spend _ _).trans
      (Lane.alike_note _ _))))
  exact Lane.alike_ite (fun _ => (Lane.alike_freeze _ _ _ _).trans h) (fun _ => h)

theorem Lane.alike_closeGroups (x : Lane) (t : Nat) (m : RegMap) (n : Nat) : (x.closeGroups t m n).Alike x := by
  unfold Lane.closeGroups
  refine (Lane.alike_wr _ _ rfl).trans ?_
  refine (Lane.alike_foldl _ (fun y g => ?_) _ _).trans (Lane.alike_bbx _ _)
  exact Lane.alike_pass _ _ _ _

theorem Lane.alike_coalesce (x : Lane) (t : Nat) (m : RegMap) (e : Evt) : (x.coalesce t m e).Alike x := by
  unfold Lane.coalesce
  dsimp only
  split
  · exact Lane.alike_bbx _ _
  · refine (Lane.alike_pass _ _ _ _).trans ((Lane.alike_wr _ _ rfl).trans ?_)
    exact Lane.alike_ite (fun _ => Lane.alike_bbx _ _) (fun _ => .refl _)

theorem Lane.alike_evtRegs (x : Lane) (e : Evt) : (x.evtRegs e).Alike x := by
  have step : ∀ y : Lane, ∀ i v, i < 4 → (y.wr (Reg.EVT_LAST.WORD i) v).Alike y := by
    intro y i v hi
    match i, hi with
    | 0, _ => exact Lane.alike_wr _ _ rfl
    | 1, _ => exact Lane.alike_wr _ _ rfl
    | 2, _ => exact Lane.alike_wr _ _ rfl
    | 3, _ => exact Lane.alike_wr _ _ rfl
  have h : Lane.Alike ([0, 1, 2, 3].foldl (fun l i => l.wr (Reg.EVT_LAST.WORD i) (leNat e.bytes / 2 ^ (32 * i)))
      (((x.wr Reg.EVT_STAT.LAST_ID e.id).wr Reg.EVT_STAT.LAST_SEV e.sev).inc (Reg.EVT_CNT.COUNT (e.sev % 4)))) x :=
    (step _ 3 _ (by decide)).trans ((step _ 2 _ (by decide)).trans ((step _ 1 _ (by decide)).trans
      ((step _ 0 _ (by decide)).trans ((Lane.alike_inc _ (quiet_cnt _)).trans
        ((Lane.alike_wr _ _ rfl).trans (Lane.alike_wr _ _ rfl))))))
  refine Lane.alike_ite (fun hid => (Lane.alike_wr _ _ ?_).trans h) (fun _ => h)
  have h4 : e.id / 32 < 4 := by omega
  have hb : e.id % 32 < 32 := Nat.mod_lt _ (by decide)
  generalize e.id / 32 = a at h4
  generalize e.id % 32 = b at hb
  have hkey : (Reg.EVT_SEEN.SEEN a b).key / 32 = 0x40001040 + 4 * a := by
    show ((0x40001040 + 4 * a) * 32 + b) / 32 = _
    omega
  simp only [Fld.quiet, hkey]
  have : 0x40001000 ≤ 0x40001040 + 4 * a ∧ 0x40001040 + 4 * a < 0x40002000 := by omega
  simp [this]

/-- A field written in two lanes alike leaves them alike. -/
theorem RegMap.get_set_congr (m n : RegMap) (f g : Fld) (v : Nat) (h : RegMap.get m f = RegMap.get n f) :
    (RegMap.set m g v).get f = (RegMap.set n g v).get f := by
  by_cases k : f.key = g.key
  · simp only [RegMap.get, RegMap.set, Sparse.get, Sparse.set, k]
    split
    · simp
    · simp [Sparse.look_ins _ _ _ _ (Sparse.look_del_same m g.key), Sparse.look_ins _ _ _ _ (Sparse.look_del_same n g.key)]
  · rw [RegMap.get_set_ne m v k, RegMap.get_set_ne n v k, h]

theorem Lane.Alike.wr {x y : Lane} (h : x.Alike y) (g : Fld) (v : Nat) : (x.wr g v).Alike (y.wr g v) :=
  ⟨h.1, fun f hf => RegMap.get_set_congr _ _ f g v (h.2 f hf)⟩

/-! ### Companions and the witness -/

/-- Two companions are alike apart from events and settling. -/
def Comp.Alike (x y : Comp) : Prop := x.body = y.body ∧ ∀ f : Fld, f.quietC = true → x.rd f = y.rd f

theorem Comp.Alike.refl (x : Comp) : x.Alike x := ⟨rfl, fun _ _ => rfl⟩
theorem Comp.Alike.symm {x y : Comp} (h : x.Alike y) : y.Alike x := ⟨h.1.symm, fun f hf => (h.2 f hf).symm⟩
theorem Comp.Alike.trans {x y z : Comp} (h : x.Alike y) (k : y.Alike z) : x.Alike z :=
  ⟨h.1.trans k.1, fun f hf => (h.2 f hf).trans (k.2 f hf)⟩

theorem Comp.alike_wr (x : Comp) {g : Fld} (v : Nat) (hg : g.quietC = false) : (x.wr g v).Alike x :=
  ⟨rfl, fun f hf => Comp.rd_wr_ne x v (by
    intro h
    rw [Fld.quietC, h] at hf
    rw [Fld.quietC] at hg
    rw [hg] at hf
    exact absurd hf (by decide))⟩

theorem Comp.Alike.wr {x y : Comp} (h : x.Alike y) (g : Fld) (v : Nat) : (x.wr g v).Alike (y.wr g v) :=
  ⟨h.1, fun f hf => RegMap.get_set_congr _ _ f g v (h.2 f hf)⟩

/-- Two witness states are alike apart from settling. -/
def Wit.Alike (x y : Wit) : Prop := x.body = y.body ∧ ∀ f : Fld, f.quietW = true → x.rd f = y.rd f

theorem Wit.Alike.refl (x : Wit) : x.Alike x := ⟨rfl, fun _ _ => rfl⟩

theorem Wit.alike_wr (x : Wit) {g : Fld} (v : Nat) (hg : g.quietW = false) : (x.wr g v).Alike x :=
  ⟨rfl, fun f hf => Wit.rd_wr_ne x v (by
    intro h
    rw [Fld.quietW, h] at hf
    rw [Fld.quietW] at hg
    rw [hg] at hf
    exact absurd hf (by decide))⟩

theorem Wit.Alike.wr {x y : Wit} (h : x.Alike y) (g : Fld) (v : Nat) : (x.wr g v).Alike (y.wr g v) :=
  ⟨h.1, fun f hf => RegMap.get_set_congr _ _ f g v (h.2 f hf)⟩

/-! ### The part -/

theorem Dev.Like.refl (d : Dev) : d.Like d :=
  ⟨rfl, fun _ => rfl, fun _ _ _ => rfl, fun _ => rfl, fun _ _ _ => rfl, rfl, fun _ _ => rfl, rfl⟩

theorem Dev.Like.symm {d e : Dev} (h : d.Like e) : e.Like d :=
  ⟨h.clk.symm, fun l => (h.lane l).symm, fun l f q => (h.lreg l f q).symm, fun c => (h.comp c).symm,
    fun c f q => (h.creg c f q).symm, h.wit.symm, fun f q => (h.wreg f q).symm, h.pwr.symm⟩

theorem Dev.Like.trans {d e g : Dev} (h : d.Like e) (k : e.Like g) : d.Like g :=
  ⟨h.clk.trans k.clk, fun l => (h.lane l).trans (k.lane l), fun l f q => (h.lreg l f q).trans (k.lreg l f q),
    fun c => (h.comp c).trans (k.comp c), fun c f q => (h.creg c f q).trans (k.creg c f q), h.wit.trans k.wit,
    fun f q => (h.wreg f q).trans (k.wreg f q), h.pwr.trans k.pwr⟩

theorem Dev.Like.ofLanes {d e : Dev} (h : ∀ l, (d.lane l).Alike (e.lane l)) (c : ∀ c, (d.comp c).Alike (e.comp c))
    (w : d.wit.Alike e.wit) (t : d.clk = e.clk) (p : d.pwr.body = e.pwr.body) : d.Like e :=
  ⟨t, fun l => (h l).1, fun l => (h l).2, fun x => (c x).1, fun x => (c x).2, w.1, w.2, p⟩

theorem Dev.Like.ofLane {d e : Dev} (h : d.Like e) (l : LaneId) : (d.lane l).Alike (e.lane l) := ⟨h.lane l, h.lreg l⟩
theorem Dev.Like.ofComp {d e : Dev} (h : d.Like e) (c : CompId) : (d.comp c).Alike (e.comp c) := ⟨h.comp c, h.creg c⟩

/-- A lane replaced by one alike. -/
theorem Dev.like_setLane (d : Dev) (l : LaneId) {x : Lane} (h : x.Alike (d.lane l)) : (d.setLane l x).Like d := by
  refine .ofLanes (fun j => ?_) (fun c => ?_) ?_ ?_ ?_
  · by_cases e : j = l
    · subst e; simpa using h
    · rw [Dev.lane_setLane_ne d x e]; exact .refl _
  · rw [Dev.comp_setLane]; exact .refl _
  · rw [Dev.wit_setLane]; exact .refl _
  · simp
  · simp

theorem Dev.like_modLane (d : Dev) (l : LaneId) (f : Lane → Lane) (h : (f (d.lane l)).Alike (d.lane l)) :
    (d.modLane l f).Like d := Dev.like_setLane d l h

theorem Dev.like_setComp (d : Dev) (c : CompId) {x : Comp} (h : x.Alike (d.comp c)) : (d.setComp c x).Like d := by
  refine .ofLanes (fun j => ?_) (fun b => ?_) ?_ ?_ ?_
  · rw [Dev.lane_setComp]; exact .refl _
  · by_cases e : b = c
    · subst e; simpa using h
    · rw [Dev.comp_setComp_ne d x e]; exact .refl _
  · rw [Dev.wit_setComp]; exact .refl _
  · simp
  · simp

theorem Dev.like_modComp (d : Dev) (c : CompId) (f : Comp → Comp) (h : (f (d.comp c)).Alike (d.comp c)) :
    (d.modComp c f).Like d := Dev.like_setComp d c h

theorem Dev.like_modWit (d : Dev) (f : Wit → Wit) (h : (f d.wit).Alike d.wit) : (d.modWit f).Like d :=
  .ofLanes (fun l => by rw [Dev.lane_modWit]; exact .refl _) (fun c => by rw [Dev.comp_modWit]; exact .refl _) h rfl rfl

theorem Dev.like_pwr (d : Dev) (p : Power) (h : p.body = d.pwr.body) : Dev.Like { d with pwr := p } d :=
  .ofLanes (fun l => by cases l <;> exact .refl _) (fun c => by cases c <;> exact .refl _) (.refl _) rfl h

theorem Dev.like_each {A : Type} (f : Dev → A → Dev) (xs : List A) (h : ∀ d a, a ∈ xs → (f d a).Like d) :
    ∀ d : Dev, (d.each xs f).Like d := by
  induction xs with
  | nil => intro d; exact .refl d
  | cons a t ih =>
    intro d
    exact (ih (fun d b hb => h d b (by simp [hb])) (f d a)).trans (h d a (by simp))

theorem Dev.like_ite {p : Prop} [Decidable p] {x y z : Dev} (h : p → x.Like z) (k : ¬p → y.Like z) :
    (if p then x else y).Like z := by
  split
  · exact h ‹_›
  · exact k ‹_›

/-- A field written in two parts alike leaves them alike. -/
theorem Dev.Like.modLane {d e : Dev} (h : d.Like e) (l : LaneId) (f g : Lane → Lane)
    (hf : (f (d.lane l)).Alike (g (e.lane l))) : (d.modLane l f).Like (e.modLane l g) := by
  refine .ofLanes (fun j => ?_) (fun c => ?_) ?_ ?_ ?_
  · by_cases k : j = l
    · subst k; simpa using hf
    · rw [Dev.lane_modLane_ne d f k, Dev.lane_modLane_ne e g k]; exact h.ofLane j
  · simpa using h.ofComp c
  · simpa using ⟨h.wit, h.wreg⟩
  · simpa using h.clk
  · simpa using h.pwr

theorem Dev.Like.modComp {d e : Dev} (h : d.Like e) (c : CompId) (f g : Comp → Comp)
    (hf : (f (d.comp c)).Alike (g (e.comp c))) : (d.modComp c f).Like (e.modComp c g) := by
  refine .ofLanes (fun j => ?_) (fun b => ?_) ?_ ?_ ?_
  · simpa using h.ofLane j
  · by_cases k : b = c
    · subst k; simpa using hf
    · rw [Dev.comp_modComp_ne d f k, Dev.comp_modComp_ne e g k]; exact h.ofComp b
  · simpa using ⟨h.wit, h.wreg⟩
  · simpa using h.clk
  · simpa using h.pwr

theorem Dev.Like.modWit {d e : Dev} (h : d.Like e) (f g : Wit → Wit) (hf : (f d.wit).Alike (g e.wit)) :
    (d.modWit f).Like (e.modWit g) :=
  .ofLanes (fun l => by simpa using h.ofLane l) (fun c => by simpa using h.ofComp c) hf h.clk h.pwr

theorem Dev.Like.wrL {d e : Dev} (h : d.Like e) (l : LaneId) (f : Fld) (v : Nat) : (d.wrL l f v).Like (e.wrL l f v) :=
  h.modLane l _ _ ((h.ofLane l).wr f v)

theorem Dev.Like.wrC {d e : Dev} (h : d.Like e) (c : CompId) (f : Fld) (v : Nat) : (d.wrC c f v).Like (e.wrC c f v) :=
  h.modComp c _ _ ((h.ofComp c).wr f v)

/-! ### Events -/

theorem Dev.like_setPower (d : Dev) (st : Nat) : (d.setPower st).Like d :=
  (Dev.like_each _ _ (fun d l _ => Dev.like_modLane d l _ (Lane.alike_wr _ _ rfl)) _).trans (Dev.like_pwr d _ rfl)

theorem Dev.like_wakeDoze (d : Dev) (src addr : Nat) : (d.wakeDoze src addr).Like d := by
  refine Dev.like_ite (fun _ => ?_) (fun _ => .refl _)
  refine (Dev.like_each _ _ (fun e c _ => Dev.like_modComp e c _ ⟨rfl, fun _ _ => rfl⟩) _).trans ?_
  refine (Dev.like_each _ _ (fun e l _ => Dev.like_modLane e l _ ?_) _).trans (Dev.like_setPower d 0)
  exact (Lane.alike_wr _ _ rfl).trans (Lane.alike_wr _ _ rfl)

/-- Recording an event changes nothing outside the records. -/
theorem Dev.like_record (d : Dev) (l : LaneId) (e : Evt) : (d.record l e).Like d := by
  refine Dev.like_ite (fun _ => ?_) (fun _ => .refl _)
  have h := Dev.like_setLane d l ((Lane.alike_coalesce _ d.clk (d.compRegs l) e).trans
    ((Lane.alike_closeGroups _ d.clk (d.compRegs l) (d.laneTime l).1).trans (Lane.alike_evtRegs (d.lane l) e)))
  exact Dev.like_ite (fun _ => (Dev.like_wakeDoze _ 6 0).trans h) (fun _ => h)

theorem Dev.like_raise (d : Dev) (l : LaneId) (id sev data : Nat) : (d.raise l id sev data).Like d :=
  Dev.like_record _ _ _

theorem Dev.like_raiseC (d : Dev) (c : CompId) (b : Bool) (id sev data : Nat) : (d.raiseC c b id sev data).Like d := by
  unfold Dev.raiseC
  dsimp only
  split
  · exact Dev.like_record _ _ _
  · split
    · exact Dev.like_setComp d c ((Comp.alike_wr _ _ rfl).trans ⟨rfl, fun _ _ => rfl⟩)
    · exact Dev.like_setComp d c ((Comp.alike_wr _ _ rfl).trans ⟨rfl, fun _ _ => rfl⟩)

theorem Dev.like_raiseW (d : Dev) (id sev data : Nat) : (d.raiseW id sev data).Like d := by
  unfold Dev.raiseW
  split
  · exact Dev.like_raise _ _ _ _ _
  · exact .refl _

theorem Dev.like_raiseAll (d : Dev) (id sev data : Nat) : (d.raiseAll id sev data).Like d :=
  Dev.like_each _ _ (fun e l _ => Dev.like_raise e l id sev data) d

/-! ### Settling -/

theorem Dev.like_noteGates (d : Dev) (c : CompId) (b : Bool) : (d.noteGates c b).Like d := by
  unfold Dev.noteGates
  exact Dev.like_modComp d c _ (by cases b <;> exact ⟨rfl, fun _ _ => rfl⟩)

theorem Dev.like_settleOut (d : Dev) (c : CompId) (j : Nat) (hj : j < 2) : (d.settleOut c j).Like d := by
  unfold Dev.settleOut
  refine Dev.like_modComp d c _ ?_
  match j, hj with
  | 0, _ => exact (Comp.alike_wr _ _ rfl).trans ((Comp.alike_wr _ _ rfl).trans ⟨rfl, fun _ _ => rfl⟩)
  | 1, _ => exact (Comp.alike_wr _ _ rfl).trans ((Comp.alike_wr _ _ rfl).trans ⟨rfl, fun _ _ => rfl⟩)

theorem Dev.like_settleHold (d : Dev) (c : CompId) : (d.settleHold c).Like d := by
  unfold Dev.settleHold
  dsimp only
  have h := fun v => Dev.like_modComp d c (fun x => x.wr Reg.CMPS_SW.HOLD v) (Comp.alike_wr _ v rfl)
  refine Dev.like_ite (fun _ => (Dev.like_modWit _ _ ?_).trans (h _)) (fun _ => h _)
  cases c <;> exact Wit.alike_wr _ _ rfl

theorem Dev.like_settleComp (d : Dev) (c : CompId) : (d.settleComp c).Like d :=
  Dev.like_ite (fun _ => (Dev.like_settleHold _ c).trans ((Dev.like_settleOut _ c 1 (by decide)).trans
    ((Dev.like_settleOut _ c 0 (by decide)).trans ((Dev.like_noteGates _ c true).trans (Dev.like_noteGates d c false)))))
    (fun _ => .refl _)

theorem Lane.alike_abandon (x : Lane) : x.abandon.Alike x :=
  Lane.alike_ite (fun _ => .refl _) (fun _ => (Lane.alike_wr _ _ rfl).trans (Lane.alike_ring _ _))

theorem Dev.like_dropPower (d : Dev) (l : LaneId) : (d.dropPower l).Like d := by
  unfold Dev.dropPower
  refine Dev.like_ite (fun _ => ?_) (fun _ => Dev.like_pwr d _ rfl)
  exact (Dev.like_modLane _ l _ ((Lane.alike_wr _ _ rfl).trans (Lane.alike_wr _ _ rfl))).trans (Dev.like_pwr d _ rfl)

theorem Dev.like_serveLane (d : Dev) (l : LaneId) (on : Bool) : (d.serveLane l on).Like d :=
  Dev.like_ite (fun _ => .refl _) (fun _ =>
    (Dev.like_modLane _ l _ ((Lane.alike_wr _ _ rfl).trans ((Lane.alike_wr _ _ rfl).trans (Lane.alike_ring _ _)))).trans (Dev.like_dropPower d l))

theorem Dev.like_serving (d : Dev) : d.serving.Like d := by
  unfold Dev.serving
  exact Dev.like_each _ _ (fun e l _ => (Dev.like_serveLane _ l _).trans (Dev.like_modLane e l _ (Lane.alike_abandon _))) d

/-- Settling changes nothing outside the gates' instants, the holding-brake outputs and the rings. -/
theorem Dev.like_settle (d : Dev) : d.settle.Like d :=
  (Dev.like_serving _).trans (Dev.like_each _ _ (fun e c _ => Dev.like_settleComp e c) d)

end Sys2Proof.Machine
end

