-- ==== Sys2Proof/Laws/Chord.lean ====
section
/-!
SUPPORT. What an instruction of the Chord engine can do: its fetch, its guard, and what each kind of outcome leaves.
-/
namespace Sys2Proof.Machine

/-! ### A beat changes nothing but its count -/

@[simp] theorem Lane.ctxAt_beats (x : Lane) (r n : Nat) (sl : Slot) : (x.beats r n).ctxAt sl = x.ctxAt sl := rfl
@[simp] theorem Lane.eng_beats (x : Lane) (r n : Nat) : (x.beats r n).eng = x.eng := rfl

/-- A grant count lies at no field of another register block. -/
theorem Lane.rd_beats (x : Lane) (r n : Nat) {f : Fld} (h : f.key ≠ (Reg.ARB_GRANT.COUNT r).key) :
    (x.beats r n).rd f = x.rd f := RegMap.get_addSat_ne _ n h

@[simp] theorem State.lane_fetched_ctx (s : State) (q : Issue) (sl : Slot) :
    ((s.fetched q).lane q.lane).ctxAt sl = (s.dev.lane q.lane).ctxAt sl := by simp [State.fetched]

theorem Lane.isSplit_beats (x : Lane) (n : Nat) : (x.beats 2 n).isSplit = x.isSplit := by
  simp only [Lane.isSplit, Lane.flag]
  rw [Lane.rd_beats x 2 n (by decide)]

theorem State.lane_fetched_split (s : State) (q : Issue) :
    ((s.fetched q).lane q.lane).isSplit = (s.dev.lane q.lane).isSplit := by
  simp [State.fetched, Lane.isSplit_beats]

/-! ### Fetch, issues and guard -/

/-- The fetch of an instruction that issues: one beat, clean. -/
theorem fetch_issues {s : State} {q : Issue} {w : Issuer} (h : s.issues q w) :
    Dev.fetch s.mems s.dev q.lane w q.fetch = (s.mems, s.fetched q, 0) := by
  obtain ⟨-, hf, hp, ho, -⟩ := h
  simp only [State.ctx] at hf hp ho
  unfold Dev.fetch
  simp only [hf, hp, Bool.not_true, Bool.false_eq_true, if_false]
  unfold Dev.readWord
  simp only [ho]
  rfl

/-- An issue that nothing strikes asks for what the instruction says, or nothing where its guard is false. -/
theorem Work.primary_out (k : Work) {q : Issue} (hq : q.strikes = []) (i : IssueId) (r : Nat) (c : Ctx) :
    (k.primary q i r c).out = if !k.guarded || c.guard q.pg q.pn then k.body r c else .skip := by
  simp only [Work.primary, strikeOn, hq, List.find?_nil]

/-- The part after the issues of an instruction agree: a fallback of the shadow is counted (R113), in checked mode. -/
def State.issued (s : State) (q : Issue) (w : Issuer) (o : Out) : Dev :=
  if (s.dev.lane q.lane).isSplit = false ∧ o.fellBack = true then (s.fetched q).rangeEvent q.lane w else s.fetched q

/-- An instruction whose issues agree does what its outcome says. -/
theorem issue_spec {s : State} {q : Issue} {w : Issuer} {k : Work} (h : s.issues q w) (ha : s.agrees q w k) :
    let o := if !k.guarded || (s.ctx q w).guard q.pg q.pn then k.body w.rot (s.ctx q w) else .skip
    Dev.issue s.mems s.dev q k = Dev.perform s.mems (s.issued q w o) q w o := by
  obtain ⟨-, -, -, -, hs, hh, hp⟩ := id h
  dsimp only
  unfold Dev.issue
  rw [h.1]
  have hit : s.dev.hit q.lane w q = s.dev := by simp [Dev.hit, hh, hp]
  simp only [hit, fetch_issues h, if_true]
  unfold Dev.execute Dev.issues
  dsimp only
  rw [State.lane_fetched_ctx, State.lane_fetched_split, Work.primary_out k hs]
  unfold State.issued
  rcases hb : (s.dev.lane q.lane).isSplit
  · have hm : k.mismatch q w.rot (s.ctx q w) = none := ha.resolve_left (by simp [hb])
    have hm' : k.mismatch q w.rot ((s.dev.lane q.lane).ctxAt w.slot) = none := hm
    simp only [hm', Bool.false_eq_true, if_false, true_and]
    rfl
  · simp only [if_true, Bool.true_eq_false, false_and, if_false]
    rfl

/-- An instruction whose guard holds, or that has none, with an outcome that did not fall back. -/
theorem chord_runs {s : State} {q : Issue} {w : Issuer} {k : Work} (h : s.issues q w) (ha : s.agrees q w k)
    (g : k.guarded = false ∨ (s.ctx q w).guard q.pg q.pn = true) {o : Out} (hb : k.body w.rot (s.ctx q w) = o)
    (hf : o.fellBack = false) :
    chord q k s = .next { s with mems := (Dev.perform s.mems (s.fetched q) q w o).1
                                 dev := (Dev.perform s.mems (s.fetched q) q w o).2 } := by
  have hg : (!k.guarded || (s.ctx q w).guard q.pg q.pn) = true := by rcases g with g | g <;> simp [g]
  simp only [chord, issue_spec h ha, hg, if_true, hb, State.issued, hf, Bool.false_eq_true, and_false, if_false]

/-- A guarded instruction whose guard does not hold goes on and does nothing else. -/
theorem chord_skips {s : State} {q : Issue} {w : Issuer} {k : Work} (h : s.issues q w) (ha : s.agrees q w k)
    (hk : k.guarded = true) (g : (s.ctx q w).guard q.pg q.pn = false) :
    chord q k s = .next { s with dev := (s.fetched q).advance q.lane w } := by
  simp only [chord, issue_spec h ha, hk, g, Bool.not_true, Bool.or_false, Bool.false_eq_true, if_false, State.issued, Out.fellBack,
    and_false]
  rfl

/-! ### Outcomes -/

/-- Flags without NV and DZ never trap. -/
theorem Lane.fpTraps_none (x : Lane) (n : Nat) {f : Flags} (h : f.nv = false) (k : f.dz = false) : x.fpTraps n f = false := by
  simp [Lane.fpTraps, h, k]

/-- A register result that does not trap is written back. -/
theorem perform_int {s : State} {q : Issue} {w : Issuer} (rd : BitVec 6) (v : Dword) (f : Flags)
    (h : ((s.fetched q).lane q.lane).fpTraps w.task f = false) :
    Dev.perform s.mems (s.fetched q) q w (.int rd v f) = (s.mems, (s.gives q w rd v f).dev) := by
  simp only [Dev.perform, h, Bool.false_eq_true, if_false, State.gives, State.retired, State.lane_fetched_ctx,
    State.lane_fetched_split]
  rfl

/-- An instruction whose outcome is a register result with no flag that can trap. -/
theorem chord_int {s : State} {q : Issue} {w : Issuer} {k : Work} (h : s.issues q w) (ha : s.agrees q w k)
    (g : k.guarded = false ∨ (s.ctx q w).guard q.pg q.pn = true) {rd : BitVec 6} {v : Dword} {f : Flags}
    (hb : k.body w.rot (s.ctx q w) = .int rd v f) (hn : f.nv = false) (hd : f.dz = false) :
    chord q k s = .next (s.gives q w rd v f) := by
  rw [chord_runs h ha g hb rfl, perform_int _ _ _ (Lane.fpTraps_none _ _ hn hd)]
  rfl

/-- An instruction whose outcome is an exception. -/
theorem chord_exc {s : State} {q : Issue} {w : Issuer} {k : Work} (h : s.issues q w) (ha : s.agrees q w k)
    (g : k.guarded = false ∨ (s.ctx q w).guard q.pg q.pn = true) {code trap : Nat}
    (hb : k.body w.rot (s.ctx q w) = .exc code trap) : chord q k s = .next (s.excepted q w code trap) := by
  rw [chord_runs h ha g hb rfl]
  rfl

end Sys2Proof.Machine
end

