-- ==== Sys2Proof/Laws/PerInstr.lean ====
section
/-!
SUPPORT. One lemma for each command about its syntax: a command has an instruction word only where it issues on a lane
(R39).
-/
namespace Sys2Proof.Laws

/-- A command that has an instruction word has issue fields: it issues on a lane, under a guard. -/
def Encodes.Statement (i : Instr) : Prop :=
  (encodeChord i).isSome = true → (chordIssue i).isSome = true

theorem Encodes.addi (q : Issue) (rd ra : BitVec 6) (imm : BitVec 10) : Encodes.Statement (.addi q rd ra imm) := fun _ => rfl
theorem Encodes.andi (q : Issue) (rd ra : BitVec 6) (imm : BitVec 10) : Encodes.Statement (.andi q rd ra imm) := fun _ => rfl
theorem Encodes.ori (q : Issue) (rd ra : BitVec 6) (imm : BitVec 10) : Encodes.Statement (.ori q rd ra imm) := fun _ => rfl
theorem Encodes.xori (q : Issue) (rd ra : BitVec 6) (imm : BitVec 10) : Encodes.Statement (.xori q rd ra imm) := fun _ => rfl
theorem Encodes.slli (q : Issue) (rd ra : BitVec 6) (sh : BitVec 6) : Encodes.Statement (.slli q rd ra sh) := fun _ => rfl
theorem Encodes.srli (q : Issue) (rd ra : BitVec 6) (sh : BitVec 6) : Encodes.Statement (.srli q rd ra sh) := fun _ => rfl
theorem Encodes.srai (q : Issue) (rd ra : BitVec 6) (sh : BitVec 6) : Encodes.Statement (.srai q rd ra sh) := fun _ => rfl
theorem Encodes.muli (q : Issue) (rd ra : BitVec 6) (imm : BitVec 10) : Encodes.Statement (.muli q rd ra imm) := fun _ => rfl
theorem Encodes.movz (q : Issue) (rd : BitVec 6) (hw : BitVec 2) (imm : BitVec 16) : Encodes.Statement (.movz q rd hw imm) := fun _ => rfl
theorem Encodes.movk (q : Issue) (rd : BitVec 6) (hw : BitVec 2) (imm : BitVec 16) : Encodes.Statement (.movk q rd hw imm) := fun _ => rfl
theorem Encodes.add (q : Issue) (rd ra rb : BitVec 6) : Encodes.Statement (.add q rd ra rb) := fun _ => rfl
theorem Encodes.sub (q : Issue) (rd ra rb : BitVec 6) : Encodes.Statement (.sub q rd ra rb) := fun _ => rfl
theorem Encodes.and (q : Issue) (rd ra rb : BitVec 6) : Encodes.Statement (.and q rd ra rb) := fun _ => rfl
theorem Encodes.or (q : Issue) (rd ra rb : BitVec 6) : Encodes.Statement (.or q rd ra rb) := fun _ => rfl
theorem Encodes.xor (q : Issue) (rd ra rb : BitVec 6) : Encodes.Statement (.xor q rd ra rb) := fun _ => rfl
theorem Encodes.andn (q : Issue) (rd ra rb : BitVec 6) : Encodes.Statement (.andn q rd ra rb) := fun _ => rfl
theorem Encodes.sll (q : Issue) (rd ra rb : BitVec 6) : Encodes.Statement (.sll q rd ra rb) := fun _ => rfl
theorem Encodes.srl (q : Issue) (rd ra rb : BitVec 6) : Encodes.Statement (.srl q rd ra rb) := fun _ => rfl
theorem Encodes.sra (q : Issue) (rd ra rb : BitVec 6) : Encodes.Statement (.sra q rd ra rb) := fun _ => rfl
theorem Encodes.mul (q : Issue) (rd ra rb : BitVec 6) : Encodes.Statement (.mul q rd ra rb) := fun _ => rfl
theorem Encodes.mulhs (q : Issue) (rd ra rb : BitVec 6) : Encodes.Statement (.mulhs q rd ra rb) := fun _ => rfl
theorem Encodes.mulhu (q : Issue) (rd ra rb : BitVec 6) : Encodes.Statement (.mulhu q rd ra rb) := fun _ => rfl
theorem Encodes.min (q : Issue) (rd ra rb : BitVec 6) : Encodes.Statement (.min q rd ra rb) := fun _ => rfl
theorem Encodes.max (q : Issue) (rd ra rb : BitVec 6) : Encodes.Statement (.max q rd ra rb) := fun _ => rfl
theorem Encodes.minu (q : Issue) (rd ra rb : BitVec 6) : Encodes.Statement (.minu q rd ra rb) := fun _ => rfl
theorem Encodes.maxu (q : Issue) (rd ra rb : BitVec 6) : Encodes.Statement (.maxu q rd ra rb) := fun _ => rfl
theorem Encodes.div (q : Issue) (rd ra rb : BitVec 6) : Encodes.Statement (.div q rd ra rb) := fun _ => rfl
theorem Encodes.divu (q : Issue) (rd ra rb : BitVec 6) : Encodes.Statement (.divu q rd ra rb) := fun _ => rfl
theorem Encodes.rem (q : Issue) (rd ra rb : BitVec 6) : Encodes.Statement (.rem q rd ra rb) := fun _ => rfl
theorem Encodes.remu (q : Issue) (rd ra rb : BitVec 6) : Encodes.Statement (.remu q rd ra rb) := fun _ => rfl
theorem Encodes.abs (q : Issue) (rd ra : BitVec 6) : Encodes.Statement (.abs q rd ra) := fun _ => rfl
theorem Encodes.neg (q : Issue) (rd ra : BitVec 6) : Encodes.Statement (.neg q rd ra) := fun _ => rfl
theorem Encodes.clz (q : Issue) (rd ra : BitVec 6) : Encodes.Statement (.clz q rd ra) := fun _ => rfl
theorem Encodes.popc (q : Issue) (rd ra : BitVec 6) : Encodes.Statement (.popc q rd ra) := fun _ => rfl
theorem Encodes.sextw (q : Issue) (rd ra : BitVec 6) : Encodes.Statement (.sextw q rd ra) := fun _ => rfl
theorem Encodes.zextw (q : Issue) (rd ra : BitVec 6) : Encodes.Statement (.zextw q rd ra) := fun _ => rfl
theorem Encodes.satw (q : Issue) (rd ra : BitVec 6) : Encodes.Statement (.satw q rd ra) := fun _ => rfl
theorem Encodes.sath (q : Issue) (rd ra : BitVec 6) : Encodes.Statement (.sath q rd ra) := fun _ => rfl
theorem Encodes.cmp (q : Issue) (pd : BitVec 3) (c : Cond) (ra rb : BitVec 6) : Encodes.Statement (.cmp q pd c ra rb) := fun _ => rfl
theorem Encodes.cmpi (q : Issue) (pd : BitVec 3) (c : Cond) (ra : BitVec 6) (imm : BitVec 10) : Encodes.Statement (.cmpi q pd c ra imm) := fun _ => rfl
theorem Encodes.plog (q : Issue) (pd : BitVec 3) (f : PFunc) (pa pb : BitVec 3) : Encodes.Statement (.plog q pd f pa pb) := fun _ => rfl
theorem Encodes.qadd (q : Issue) (rd ra rb : BitVec 6) : Encodes.Statement (.qadd q rd ra rb) := fun _ => rfl
theorem Encodes.qsub (q : Issue) (rd ra rb : BitVec 6) : Encodes.Statement (.qsub q rd ra rb) := fun _ => rfl
theorem Encodes.qmul15 (q : Issue) (rd ra rb : BitVec 6) : Encodes.Statement (.qmul15 q rd ra rb) := fun _ => rfl
theorem Encodes.qmul31 (q : Issue) (rd ra rb : BitVec 6) : Encodes.Statement (.qmul31 q rd ra rb) := fun _ => rfl
theorem Encodes.qmac31 (q : Issue) (rd ra rb : BitVec 6) : Encodes.Statement (.qmac31 q rd ra rb) := fun _ => rfl
theorem Encodes.qmsu31 (q : Issue) (rd ra rb : BitVec 6) : Encodes.Statement (.qmsu31 q rd ra rb) := fun _ => rfl
theorem Encodes.qabs (q : Issue) (rd ra rb : BitVec 6) : Encodes.Statement (.qabs q rd ra rb) := fun _ => rfl
theorem Encodes.qneg (q : Issue) (rd ra rb : BitVec 6) : Encodes.Statement (.qneg q rd ra rb) := fun _ => rfl
theorem Encodes.qshl (q : Issue) (rd ra rb : BitVec 6) : Encodes.Statement (.qshl q rd ra rb) := fun _ => rfl
theorem Encodes.qrsr (q : Issue) (rd ra rb : BitVec 6) : Encodes.Statement (.qrsr q rd ra rb) := fun _ => rfl
theorem Encodes.qlim (q : Issue) (rd ra rb : BitVec 6) : Encodes.Statement (.qlim q rd ra rb) := fun _ => rfl
theorem Encodes.fadd (q : Issue) (rd ra rb : BitVec 6) : Encodes.Statement (.fadd q rd ra rb) := fun _ => rfl
theorem Encodes.fsub (q : Issue) (rd ra rb : BitVec 6) : Encodes.Statement (.fsub q rd ra rb) := fun _ => rfl
theorem Encodes.fmul (q : Issue) (rd ra rb : BitVec 6) : Encodes.Statement (.fmul q rd ra rb) := fun _ => rfl
theorem Encodes.fdiv (q : Issue) (rd ra rb : BitVec 6) : Encodes.Statement (.fdiv q rd ra rb) := fun _ => rfl
theorem Encodes.fsqrt (q : Issue) (rd ra : BitVec 6) : Encodes.Statement (.fsqrt q rd ra) := fun _ => rfl
theorem Encodes.fmin (q : Issue) (rd ra rb : BitVec 6) : Encodes.Statement (.fmin q rd ra rb) := fun _ => rfl
theorem Encodes.fmax (q : Issue) (rd ra rb : BitVec 6) : Encodes.Statement (.fmax q rd ra rb) := fun _ => rfl
theorem Encodes.fabs (q : Issue) (rd ra rb : BitVec 6) : Encodes.Statement (.fabs q rd ra rb) := fun _ => rfl
theorem Encodes.fneg (q : Issue) (rd ra rb : BitVec 6) : Encodes.Statement (.fneg q rd ra rb) := fun _ => rfl
theorem Encodes.fmac (q : Issue) (rd ra rb : BitVec 6) : Encodes.Statement (.fmac q rd ra rb) := fun _ => rfl
theorem Encodes.fmsc (q : Issue) (rd ra rb : BitVec 6) : Encodes.Statement (.fmsc q rd ra rb) := fun _ => rfl
theorem Encodes.fcvtws (q : Issue) (rd ra rb : BitVec 6) : Encodes.Statement (.fcvtws q rd ra rb) := fun _ => rfl
theorem Encodes.fcvtsw (q : Issue) (rd ra rb : BitVec 6) : Encodes.Statement (.fcvtsw q rd ra rb) := fun _ => rfl
theorem Encodes.fcvtqs (q : Issue) (rd ra rb : BitVec 6) : Encodes.Statement (.fcvtqs q rd ra rb) := fun _ => rfl
theorem Encodes.fcvtsq (q : Issue) (rd ra rb : BitVec 6) : Encodes.Statement (.fcvtsq q rd ra rb) := fun _ => rfl
theorem Encodes.fclass (q : Issue) (rd ra rb : BitVec 6) : Encodes.Statement (.fclass q rd ra rb) := fun _ => rfl
theorem Encodes.fcmp (q : Issue) (pd : BitVec 3) (c : FCond) (ra rb : BitVec 6) : Encodes.Statement (.fcmp q pd c ra rb) := fun _ => rfl
theorem Encodes.sincos (q : Issue) (rd ra : BitVec 6) : Encodes.Statement (.sincos q rd ra) := fun _ => rfl
theorem Encodes.atan2 (q : Issue) (rd ra rb : BitVec 6) : Encodes.Statement (.atan2 q rd ra rb) := fun _ => rfl
theorem Encodes.clarke (q : Issue) (rd ra rb : BitVec 6) : Encodes.Statement (.clarke q rd ra rb) := fun _ => rfl
theorem Encodes.park (q : Issue) (rd ra rb : BitVec 6) : Encodes.Statement (.park q rd ra rb) := fun _ => rfl
theorem Encodes.ipark (q : Issue) (rd ra rb : BitVec 6) : Encodes.Statement (.ipark q rd ra rb) := fun _ => rfl
theorem Encodes.svm (q : Issue) (rd ra : BitVec 6) : Encodes.Statement (.svm q rd ra) := fun _ => rfl
theorem Encodes.ld (q : Issue) (rd ra : BitVec 6) (off : BitVec 10) : Encodes.Statement (.ld q rd ra off) := fun _ => rfl
theorem Encodes.lw (q : Issue) (rd ra : BitVec 6) (off : BitVec 10) : Encodes.Statement (.lw q rd ra off) := fun _ => rfl
theorem Encodes.lwu (q : Issue) (rd ra : BitVec 6) (off : BitVec 10) : Encodes.Statement (.lwu q rd ra off) := fun _ => rfl
theorem Encodes.lh (q : Issue) (rd ra : BitVec 6) (off : BitVec 10) : Encodes.Statement (.lh q rd ra off) := fun _ => rfl
theorem Encodes.lhu (q : Issue) (rd ra : BitVec 6) (off : BitVec 10) : Encodes.Statement (.lhu q rd ra off) := fun _ => rfl
theorem Encodes.lb (q : Issue) (rd ra : BitVec 6) (off : BitVec 10) : Encodes.Statement (.lb q rd ra off) := fun _ => rfl
theorem Encodes.lbu (q : Issue) (rd ra : BitVec 6) (off : BitVec 10) : Encodes.Statement (.lbu q rd ra off) := fun _ => rfl
theorem Encodes.sd (q : Issue) (rs ra : BitVec 6) (off : BitVec 10) : Encodes.Statement (.sd q rs ra off) := fun _ => rfl
theorem Encodes.sw (q : Issue) (rs ra : BitVec 6) (off : BitVec 10) : Encodes.Statement (.sw q rs ra off) := fun _ => rfl
theorem Encodes.sh (q : Issue) (rs ra : BitVec 6) (off : BitVec 10) : Encodes.Statement (.sh q rs ra off) := fun _ => rfl
theorem Encodes.sb (q : Issue) (rs ra : BitVec 6) (off : BitVec 10) : Encodes.Statement (.sb q rs ra off) := fun _ => rfl
theorem Encodes.br (q : Issue) (off : BitVec 22) : Encodes.Statement (.br q off) := fun _ => rfl
theorem Encodes.call (q : Issue) (off : BitVec 22) : Encodes.Statement (.call q off) := fun _ => rfl
theorem Encodes.jr (q : Issue) (ra : BitVec 6) : Encodes.Statement (.jr q ra) := fun _ => rfl
theorem Encodes.seal (q : Issue) (tm : Nat) : Encodes.Statement (.seal q tm) := fun _ => rfl
theorem Encodes.lkb (q : Issue) (g : BitVec 3) : Encodes.Statement (.lkb q g) := fun _ => rfl
theorem Encodes.lke (q : Issue) : Encodes.Statement (.lke q) := fun _ => rfl
theorem Encodes.trap (q : Issue) (code : BitVec 8) : Encodes.Statement (.trap q code) := fun _ => rfl
theorem Encodes.illegalEncoding (q : Issue) (word : BitVec 32) : Encodes.Statement (.illegalEncoding q word) := fun _ => rfl
theorem Encodes.periodicInjection (tm : Nat) (l : LaneId) (pass : Bool) : Encodes.Statement (.periodicInjection tm l pass) := fun h => absurd h Bool.false_ne_true
theorem Encodes.activation (tm : Nat) (c : CompId) (b : Bool) : Encodes.Statement (.activation tm c b) := fun h => absurd h Bool.false_ne_true
theorem Encodes.sampleBlockStored (tm : Nat) (c : CompId) (b : Bool) : Encodes.Statement (.sampleBlockStored tm c b) := fun h => absurd h Bool.false_ne_true
theorem Encodes.release (tm : Nat) (l : LaneId) : Encodes.Statement (.release tm l) := fun h => absurd h Bool.false_ne_true
theorem Encodes.overrun (tm : Nat) (l : LaneId) (task : Nat) : Encodes.Statement (.overrun tm l task) := fun h => absurd h Bool.false_ne_true
theorem Encodes.candidateStaged (tm : Nat) (l : LaneId) (k : Nat) : Encodes.Statement (.candidateStaged tm l k) := fun h => absurd h Bool.false_ne_true
theorem Encodes.stagingDeadline (tm : Nat) (l : LaneId) : Encodes.Statement (.stagingDeadline tm l) := fun h => absurd h Bool.false_ne_true
theorem Encodes.depthReevaluation (tm : Nat) (l : LaneId) : Encodes.Statement (.depthReevaluation tm l) := fun h => absurd h Bool.false_ne_true
theorem Encodes.setpointFrame (tm : Nat) (c : CompId) (f : RxFrame) : Encodes.Statement (.setpointFrame tm c f) := fun h => absurd h Bool.false_ne_true
theorem Encodes.setpointMiss (tm : Nat) (c : CompId) : Encodes.Statement (.setpointMiss tm c) := fun h => absurd h Bool.false_ne_true
theorem Encodes.pwmCentre (tm : Nat) (c : CompId) (b : Bool) (o : CentreObs) : Encodes.Statement (.pwmCentre tm c b o) := fun h => absurd h Bool.false_ne_true
theorem Encodes.pwmReload (tm : Nat) (c : CompId) (b : Bool) : Encodes.Statement (.pwmReload tm c b) := fun h => absurd h Bool.false_ne_true
theorem Encodes.desat (tm : Nat) (c : CompId) (b : Bool) (x : VdsTrip) : Encodes.Statement (.desat tm c b x) := fun h => absurd h Bool.false_ne_true
theorem Encodes.hwOc (tm : Nat) (c : CompId) (b : Bool) (fast : List Int) : Encodes.Statement (.hwOc tm c b fast) := fun h => absurd h Bool.false_ne_true
theorem Encodes.currentLimit (tm : Nat) (c : CompId) (b : Bool) (fast : List Int) : Encodes.Statement (.currentLimit tm c b fast) := fun h => absurd h Bool.false_ne_true
theorem Encodes.latchedFaultClear (tm : Nat) (c : CompId) (b : Bool) : Encodes.Statement (.latchedFaultClear tm c b) := fun h => absurd h Bool.false_ne_true
theorem Encodes.drvFaultClear (tm : Nat) (c : CompId) (b : Bool) (desat hwoc : Bool) : Encodes.Statement (.drvFaultClear tm c b desat hwoc) := fun h => absurd h Bool.false_ne_true
theorem Encodes.vdrvUndervoltage (tm : Nat) (c : CompId) : Encodes.Statement (.vdrvUndervoltage tm c) := fun h => absurd h Bool.false_ne_true
theorem Encodes.vbrOutOfLimits (tm : Nat) (c : CompId) (b : Bool) (above : Bool) : Encodes.Statement (.vbrOutOfLimits tm c b above) := fun h => absurd h Bool.false_ne_true
theorem Encodes.gateTimeout (tm : Nat) (c : CompId) (b : Bool) (drv : Nat) : Encodes.Statement (.gateTimeout tm c b drv) := fun h => absurd h Bool.false_ne_true
theorem Encodes.holdExpiry (tm : Nat) (c : CompId) : Encodes.Statement (.holdExpiry tm c) := fun h => absurd h Bool.false_ne_true
theorem Encodes.switchOpen (tm : Nat) (c : CompId) : Encodes.Statement (.switchOpen tm c) := fun h => absurd h Bool.false_ne_true
theorem Encodes.switchSpare (tm : Nat) (c : CompId) : Encodes.Statement (.switchSpare tm c) := fun h => absurd h Bool.false_ne_true
theorem Encodes.joinEnd (tm : Nat) (c : CompId) (b : Bool) : Encodes.Statement (.joinEnd tm c b) := fun h => absurd h Bool.false_ne_true
theorem Encodes.switchHandshakeResume (tm : Nat) (c : CompId) : Encodes.Statement (.switchHandshakeResume tm c) := fun h => absurd h Bool.false_ne_true
theorem Encodes.modulatorFail (tm : Nat) (c : CompId) (m : Nat) : Encodes.Statement (.modulatorFail tm c m) := fun h => absurd h Bool.false_ne_true
theorem Encodes.spareSettled (tm : Nat) (c : CompId) (sp : Nat) : Encodes.Statement (.spareSettled tm c sp) := fun h => absurd h Bool.false_ne_true
theorem Encodes.sumCheckFail (tm : Nat) (c : CompId) (b : Bool) (sp : Nat) : Encodes.Statement (.sumCheckFail tm c b sp) := fun h => absurd h Bool.false_ne_true
theorem Encodes.spareShadowRotate (tm : Nat) (c : CompId) (sp ch : Nat) : Encodes.Statement (.spareShadowRotate tm c sp ch) := fun h => absurd h Bool.false_ne_true
theorem Encodes.tempDisagree (tm : Nat) (c : CompId) (t0 t1 : Int) : Encodes.Statement (.tempDisagree tm c t0 t1) := fun h => absurd h Bool.false_ne_true
theorem Encodes.bridgeSensorOpen (tm : Nat) (c : CompId) (sensor : Nat) : Encodes.Statement (.bridgeSensorOpen tm c sensor) := fun h => absurd h Bool.false_ne_true
theorem Encodes.sentMessage (tm : Nat) (c : CompId) (n : Nat) (m : SentPulses) : Encodes.Statement (.sentMessage tm c n m) := fun h => absurd h Bool.false_ne_true
theorem Encodes.sentStale (tm : Nat) (c : CompId) (n : Nat) : Encodes.Statement (.sentStale tm c n) := fun h => absurd h Bool.false_ne_true
theorem Encodes.signalWarning (tm : Nat) (c : CompId) (k : Nat) : Encodes.Statement (.signalWarning tm c k) := fun h => absurd h Bool.false_ne_true
theorem Encodes.trackCheckStart (tm : Nat) (c : CompId) (k : Nat) : Encodes.Statement (.trackCheckStart tm c k) := fun h => absurd h Bool.false_ne_true
theorem Encodes.trackCheckEnd (tm : Nat) (c : CompId) (k : Nat) (b : Bool) : Encodes.Statement (.trackCheckEnd tm c k b) := fun h => absurd h Bool.false_ne_true
theorem Encodes.converterShadowStep (tm : Nat) (c : CompId) (k : Nat) : Encodes.Statement (.converterShadowStep tm c k) := fun h => absurd h Bool.false_ne_true
theorem Encodes.abzEdge (tm : Nat) (c : CompId) (diff : Bool) (x : AbzIn) : Encodes.Statement (.abzEdge tm c diff x) := fun h => absurd h Bool.false_ne_true
theorem Encodes.indexEdge (tm : Nat) (x : IndexIn) : Encodes.Statement (.indexEdge tm x) := fun h => absurd h Bool.false_ne_true
theorem Encodes.indexMissing (tm : Nat) (c : CompId) (b : Bool) : Encodes.Statement (.indexMissing tm c b) := fun h => absurd h Bool.false_ne_true
theorem Encodes.probeEdge (tm : Nat) (c : CompId) (p : Nat) (rising : Bool) (x : PrbIn) : Encodes.Statement (.probeEdge tm c p rising x) := fun h => absurd h Bool.false_ne_true
theorem Encodes.speedWindowEnd (tm : Nat) (c : CompId) (b : Bool) : Encodes.Statement (.speedWindowEnd tm c b) := fun h => absurd h Bool.false_ne_true
theorem Encodes.plausibilityFail (tm : Nat) (c : CompId) (b : Bool) : Encodes.Statement (.plausibilityFail tm c b) := fun h => absurd h Bool.false_ne_true
theorem Encodes.sioTick (tm : Nat) (c : CompId) (closedA closedB : Nat) : Encodes.Statement (.sioTick tm c closedA closedB) := fun h => absurd h Bool.false_ne_true
theorem Encodes.pullInEnd (tm : Nat) (c : CompId) (j : Nat) : Encodes.Statement (.pullInEnd tm c j) := fun h => absurd h Bool.false_ne_true
theorem Encodes.darkTestStart (tm : Nat) (c : CompId) (j : Nat) : Encodes.Statement (.darkTestStart tm c j) := fun h => absurd h Bool.false_ne_true
theorem Encodes.darkTestEnd (tm : Nat) (c : CompId) (j : Nat) (pass : Bool) : Encodes.Statement (.darkTestEnd tm c j pass) := fun h => absurd h Bool.false_ne_true
theorem Encodes.sbcOvercurrent (tm : Nat) (c : CompId) (j : Nat) (cur : Nat) : Encodes.Statement (.sbcOvercurrent tm c j cur) := fun h => absurd h Bool.false_ne_true
theorem Encodes.sbcFaultDetect (tm : Nat) (c : CompId) (j : Nat) (kind : Nat) (cur : Nat) : Encodes.Statement (.sbcFaultDetect tm c j kind cur) := fun h => absurd h Bool.false_ne_true
theorem Encodes.sbcSupplyLoss (tm : Nat) (c : CompId) (low : Bool) : Encodes.Statement (.sbcSupplyLoss tm c low) := fun h => absurd h Bool.false_ne_true
theorem Encodes.cycleStart (tm : Nat) (c : CompId) : Encodes.Statement (.cycleStart tm c) := fun h => absurd h Bool.false_ne_true
theorem Encodes.txSlot (tm : Nat) (c : CompId) (slot : Nat) (items : List TxItem) : Encodes.Statement (.txSlot tm c slot items) := fun h => absurd h Bool.false_ne_true
theorem Encodes.ttDataReceive (tm : Nat) (c : CompId) (f : RxFrame) (ptrBad : Bool) : Encodes.Statement (.ttDataReceive tm c f ptrBad) := fun h => absurd h Bool.false_ne_true
theorem Encodes.ttNullReceive (tm : Nat) (c : CompId) (f : RxFrame) : Encodes.Statement (.ttNullReceive tm c f) := fun h => absurd h Bool.false_ne_true
theorem Encodes.syncReceive (tm : Nat) (c : CompId) (f : RxFrame) : Encodes.Statement (.syncReceive tm c f) := fun h => absurd h Bool.false_ne_true
theorem Encodes.coldstartReceive (tm : Nat) (c : CompId) (f : RxFrame) : Encodes.Statement (.coldstartReceive tm c f) := fun h => absurd h Bool.false_ne_true
theorem Encodes.slewEnd (tm : Nat) (c : CompId) : Encodes.Statement (.slewEnd tm c) := fun h => absurd h Bool.false_ne_true
theorem Encodes.claimReceive (tm : Nat) (c : CompId) (f : RxFrame) : Encodes.Statement (.claimReceive tm c f) := fun h => absurd h Bool.false_ne_true
theorem Encodes.syncCorrection (tm : Nat) (c : CompId) : Encodes.Statement (.syncCorrection tm c) := fun h => absurd h Bool.false_ne_true
theorem Encodes.etSegmentStart (tm : Nat) (c : CompId) : Encodes.Statement (.etSegmentStart tm c) := fun h => absurd h Bool.false_ne_true
theorem Encodes.listenTimeout (tm : Nat) (c : CompId) : Encodes.Statement (.listenTimeout tm c) := fun h => absurd h Bool.false_ne_true
theorem Encodes.corruptedReception (tm : Nat) (c : CompId) (netY fcsErr : Bool) : Encodes.Statement (.corruptedReception tm c netY fcsErr) := fun h => absurd h Bool.false_ne_true
theorem Encodes.backoffEnd (tm : Nat) (c : CompId) : Encodes.Statement (.backoffEnd tm c) := fun h => absurd h Bool.false_ne_true
theorem Encodes.coldstartHoldoffEnd (tm : Nat) (c : CompId) : Encodes.Statement (.coldstartHoldoffEnd tm c) := fun h => absurd h Bool.false_ne_true
theorem Encodes.membershipDecision (tm : Nat) (c : CompId) : Encodes.Statement (.membershipDecision tm c) := fun h => absurd h Bool.false_ne_true
theorem Encodes.claimBackoffEnd (tm : Nat) (c : CompId) (k : Nat) : Encodes.Statement (.claimBackoffEnd tm c k) := fun h => absurd h Bool.false_ne_true
theorem Encodes.phyLinkChange (tm : Nat) (c : CompId) (netY : Bool) (up : Bool) : Encodes.Statement (.phyLinkChange tm c netY up) := fun h => absurd h Bool.false_ne_true
theorem Encodes.heartbeatSend (tm : Nat) (l : LaneId) : Encodes.Statement (.heartbeatSend tm l) := fun h => absurd h Bool.false_ne_true
theorem Encodes.heartbeatReceive (tm : Nat) (rx : Option LaneId) (h : Heartbeat) (crcOk : Bool) : Encodes.Statement (.heartbeatReceive tm rx h crcOk) := fun h => absurd h Bool.false_ne_true
theorem Encodes.beaconSend (tm : Nat) : Encodes.Statement (.beaconSend tm) := fun h => absurd h Bool.false_ne_true
theorem Encodes.beaconReceive (tm : Nat) (l : LaneId) (pathY : Bool) (w : Beacon) (crcOk : Bool) : Encodes.Statement (.beaconReceive tm l pathY w crcOk) := fun h => absurd h Bool.false_ne_true
theorem Encodes.statusWordReceive (tm : Nat) (l : LaneId) (w : StatusWord) (crcOk : Bool) : Encodes.Statement (.statusWordReceive tm l w crcOk) := fun h => absurd h Bool.false_ne_true
theorem Encodes.companionReport (tm : Nat) (c : CompId) (kind : CompReport) : Encodes.Statement (.companionReport tm c kind) := fun h => absurd h Bool.false_ne_true
theorem Encodes.pathFail (tm : Nat) (l : LaneId) (w : PathId) : Encodes.Statement (.pathFail tm l w) := fun h => absurd h Bool.false_ne_true
theorem Encodes.pathRecover (tm : Nat) (l : LaneId) (w : PathId) : Encodes.Statement (.pathRecover tm l w) := fun h => absurd h Bool.false_ne_true
theorem Encodes.laneSilent (tm : Nat) (l : LaneId) : Encodes.Statement (.laneSilent tm l) := fun h => absurd h Bool.false_ne_true
theorem Encodes.voteEvaluate (tm : Nat) (key : Nat) : Encodes.Statement (.voteEvaluate tm key) := fun h => absurd h Bool.false_ne_true
theorem Encodes.witnesslessEntry (tm : Nat) (l : LaneId) : Encodes.Statement (.witnesslessEntry tm l) := fun h => absurd h Bool.false_ne_true
theorem Encodes.unlinkedEntry (tm : Nat) (l peer : LaneId) : Encodes.Statement (.unlinkedEntry tm l peer) := fun h => absurd h Bool.false_ne_true
theorem Encodes.suspectTimeout (tm : Nat) (l : LaneId) : Encodes.Statement (.suspectTimeout tm l) := fun h => absurd h Bool.false_ne_true
theorem Encodes.journalRecordReceive (tm : Nat) (l : LaneId) (r : JRec) : Encodes.Statement (.journalRecordReceive tm l r) := fun h => absurd h Bool.false_ne_true
theorem Encodes.laneDSupplyGood (x : DSupply) : Encodes.Statement (.laneDSupplyGood x) := fun h => absurd h Bool.false_ne_true
theorem Encodes.imageLoaded (tm : Nat) (ok : Bool) (img : Setup) : Encodes.Statement (.imageLoaded tm ok img) := fun h => absurd h Bool.false_ne_true
theorem Encodes.stateCopyReceive (tm : Nat) (part : Option Nat) (crcOk : Bool) : Encodes.Statement (.stateCopyReceive tm part crcOk) := fun h => absurd h Bool.false_ne_true
theorem Encodes.bringInDeadline (tm : Nat) (step : Nat) : Encodes.Statement (.bringInDeadline tm step) := fun h => absurd h Bool.false_ne_true
theorem Encodes.proofWakeEnd (tm : Nat) (failStep : Nat) (aborted : Bool) : Encodes.Statement (.proofWakeEnd tm failStep aborted) := fun h => absurd h Bool.false_ne_true
theorem Encodes.rcaPoll (tm : Nat) (l : LaneId) : Encodes.Statement (.rcaPoll tm l) := fun h => absurd h Bool.false_ne_true
theorem Encodes.rwpReadRsp (tm : Nat) (c : CompId) (f : RxFrame) : Encodes.Statement (.rwpReadRsp tm c f) := fun h => absurd h Bool.false_ne_true
theorem Encodes.ringGenRewrite (tm : Nat) (l : LaneId) (r : Nat) : Encodes.Statement (.ringGenRewrite tm l r) := fun h => absurd h Bool.false_ne_true
theorem Encodes.rwpWriteAck (tm : Nat) (c : CompId) (f : RxFrame) : Encodes.Statement (.rwpWriteAck tm c f) := fun h => absurd h Bool.false_ne_true
theorem Encodes.rwpErrorRsp (tm : Nat) (c : CompId) (f : RxFrame) : Encodes.Statement (.rwpErrorRsp tm c f) := fun h => absurd h Bool.false_ne_true
theorem Encodes.rwpResend (tm : Nat) (l : LaneId) : Encodes.Statement (.rwpResend tm l) := fun h => absurd h Bool.false_ne_true
theorem Encodes.hostLost (tm : Nat) (l : LaneId) : Encodes.Statement (.hostLost tm l) := fun h => absurd h Bool.false_ne_true
theorem Encodes.wakeDbReceive (tm : Nat) (c : CompId) (f : RxFrame) : Encodes.Statement (.wakeDbReceive tm c f) := fun h => absurd h Bool.false_ne_true
theorem Encodes.nop (tm : Nat) (l : LaneId) : Encodes.Statement (.nop tm l) := fun h => absurd h Bool.false_ne_true
theorem Encodes.appDrive (tm : Nat) (l : LaneId) : Encodes.Statement (.appDrive tm l) := fun h => absurd h Bool.false_ne_true
theorem Encodes.appSafe (tm : Nat) (l : LaneId) : Encodes.Statement (.appSafe tm l) := fun h => absurd h Bool.false_ne_true
theorem Encodes.appConfig (tm : Nat) (l : LaneId) : Encodes.Statement (.appConfig tm l) := fun h => absurd h Bool.false_ne_true
theorem Encodes.readRegs (tm : Nat) (l : LaneId) : Encodes.Statement (.readRegs tm l) := fun h => absurd h Bool.false_ne_true
theorem Encodes.clearCapsule (tm : Nat) (l : LaneId) : Encodes.Statement (.clearCapsule tm l) := fun h => absurd h Bool.false_ne_true
theorem Encodes.flushRing (tm : Nat) (l : LaneId) : Encodes.Statement (.flushRing tm l) := fun h => absurd h Bool.false_ne_true
theorem Encodes.powerReq (tm : Nat) (l : LaneId) : Encodes.Statement (.powerReq tm l) := fun h => absurd h Bool.false_ne_true
theorem Encodes.appForwardReceive (tm : Nat) (l : LaneId) : Encodes.Statement (.appForwardReceive tm l) := fun h => absurd h Bool.false_ne_true
theorem Encodes.appApply (tm : Nat) (l : LaneId) : Encodes.Statement (.appApply tm l) := fun h => absurd h Bool.false_ne_true
theorem Encodes.appTimeout (tm : Nat) (l : LaneId) : Encodes.Statement (.appTimeout tm l) := fun h => absurd h Bool.false_ne_true
theorem Encodes.scrubRead (tm : Nat) (l : LaneId) (g : Nat) (e : Ecc) : Encodes.Statement (.scrubRead tm l g e) := fun h => absurd h Bool.false_ne_true
theorem Encodes.repairCopyDone (tm : Nat) (l : LaneId) (g : Nat) : Encodes.Statement (.repairCopyDone tm l g) := fun h => absurd h Bool.false_ne_true
theorem Encodes.arbHoldTimeout (tm : Nat) (l : LaneId) (g : Nat) : Encodes.Statement (.arbHoldTimeout tm l g) := fun h => absurd h Bool.false_ne_true
theorem Encodes.fqIdleTimeout (tm : Nat) (c : CompId) (n : Nat) : Encodes.Statement (.fqIdleTimeout tm c n) := fun h => absurd h Bool.false_ne_true
theorem Encodes.fqFlush (tm : Nat) (l : LaneId) (w : Nat) : Encodes.Statement (.fqFlush tm l w) := fun h => absurd h Bool.false_ne_true
theorem Encodes.fqFlushTakeEffect (tm : Nat) (c : CompId) (n : Nat) : Encodes.Statement (.fqFlushTakeEffect tm c n) := fun h => absurd h Bool.false_ne_true
theorem Encodes.fqGapMarkerWrite (tm : Nat) (c : CompId) (n : Nat) : Encodes.Statement (.fqGapMarkerWrite tm c n) := fun h => absurd h Bool.false_ne_true
theorem Encodes.fqRxDeliver (tm : Nat) (c : CompId) (n : Nat) (ptrBad : Bool) : Encodes.Statement (.fqRxDeliver tm c n ptrBad) := fun h => absurd h Bool.false_ne_true
theorem Encodes.powerVoteRequest (tm : Nat) (l : LaneId) : Encodes.Statement (.powerVoteRequest tm l) := fun h => absurd h Bool.false_ne_true
theorem Encodes.powerVoteAnswer (tm : Nat) (v : Nat) : Encodes.Statement (.powerVoteAnswer tm v) := fun h => absurd h Bool.false_ne_true
theorem Encodes.powerVoteTimeout (tm : Nat) : Encodes.Statement (.powerVoteTimeout tm) := fun h => absurd h Bool.false_ne_true
theorem Encodes.retentionEdgeEntry (tm : Nat) : Encodes.Statement (.retentionEdgeEntry tm) := fun h => absurd h Bool.false_ne_true
theorem Encodes.wakeTelegramEnd (tm : Nat) (bits : List Bool) : Encodes.Statement (.wakeTelegramEnd tm bits) := fun h => absurd h Bool.false_ne_true
theorem Encodes.timebaseLock (tm : Nat) (c : CompId) : Encodes.Statement (.timebaseLock tm c) := fun h => absurd h Bool.false_ne_true
theorem Encodes.retentionEdgeWake (tm : Nat) : Encodes.Statement (.retentionEdgeWake tm) := fun h => absurd h Bool.false_ne_true
theorem Encodes.padRelease (tm : Nat) (l : LaneId) (n : Nat) : Encodes.Statement (.padRelease tm l n) := fun h => absurd h Bool.false_ne_true
theorem Encodes.crystalFail (tm : Nat) (c : CompId) : Encodes.Statement (.crystalFail tm c) := fun h => absurd h Bool.false_ne_true
theorem Encodes.retentionOscFail (tm : Nat) : Encodes.Statement (.retentionOscFail tm) := fun h => absurd h Bool.false_ne_true
theorem Encodes.witnessPowerOn (tm : Nat) : Encodes.Statement (.witnessPowerOn tm) := fun h => absurd h Bool.false_ne_true
theorem Encodes.supplyGood (tm : Nat) (l : LaneId) (fuseOk : Bool) : Encodes.Statement (.supplyGood tm l fuseOk) := fun h => absurd h Bool.false_ne_true
theorem Encodes.bootComplete (tm : Nat) (l : LaneId) (o : BootObs) : Encodes.Statement (.bootComplete tm l o) := fun h => absurd h Bool.false_ne_true
theorem Encodes.setupLock (tm : Nat) (l : LaneId) : Encodes.Statement (.setupLock tm l) := fun h => absurd h Bool.false_ne_true
theorem Encodes.vaultImageWriteDone (tm : Nat) : Encodes.Statement (.vaultImageWriteDone tm) := fun h => absurd h Bool.false_ne_true
theorem Encodes.calibComplete (tm : Nat) (l : LaneId) (r : CalibRes) : Encodes.Statement (.calibComplete tm l r) := fun h => absurd h Bool.false_ne_true
theorem Encodes.companionCalibCommand (tm : Nat) (c : CompId) (r : CalibRes) : Encodes.Statement (.companionCalibCommand tm c r) := fun h => absurd h Bool.false_ne_true
theorem Encodes.memoryBistComplete (tm : Nat) (l : LaneId) (faults : List BistFault) : Encodes.Statement (.memoryBistComplete tm l faults) := fun h => absurd h Bool.false_ne_true
theorem Encodes.memoryInitComplete (tm : Nat) (l : LaneId) : Encodes.Statement (.memoryInitComplete tm l) := fun h => absurd h Bool.false_ne_true
theorem Encodes.logicBistSlotGrant (tm : Nat) : Encodes.Statement (.logicBistSlotGrant tm) := fun h => absurd h Bool.false_ne_true
theorem Encodes.logicBistComplete (tm : Nat) (l : LaneId) (x : BistRes) (meas : List Nat) :
    Encodes.Statement (.logicBistComplete tm l x meas) := fun h => absurd h Bool.false_ne_true
theorem Encodes.injectionTestComplete (tm : Nat) (l : LaneId) (pass : Bool) (bitNo : Nat) (hupOk : Bool) : Encodes.Statement (.injectionTestComplete tm l pass bitNo hupOk) := fun h => absurd h Bool.false_ne_true
theorem Encodes.startDeadline (tm : Nat) (l : LaneId) : Encodes.Statement (.startDeadline tm l) := fun h => absurd h Bool.false_ne_true
theorem Encodes.hupChargeCheck (tm : Nat) (l : LaneId) (hupOk : Bool) : Encodes.Statement (.hupChargeCheck tm l hupOk) := fun h => absurd h Bool.false_ne_true
theorem Encodes.hupLow (tm : Nat) (l : LaneId) : Encodes.Statement (.hupLow tm l) := fun h => absurd h Bool.false_ne_true
theorem Encodes.startDecision (tm : Nat) : Encodes.Statement (.startDecision tm) := fun h => absurd h Bool.false_ne_true
theorem Encodes.deviceReady (tm : Nat) : Encodes.Statement (.deviceReady tm) := fun h => absurd h Bool.false_ne_true
theorem Encodes.firstActiveEntry (tm : Nat) : Encodes.Statement (.firstActiveEntry tm) := fun h => absurd h Bool.false_ne_true
theorem Encodes.startCntClear (tm : Nat) (l : LaneId) : Encodes.Statement (.startCntClear tm l) := fun h => absurd h Bool.false_ne_true
theorem Encodes.supplyLoss (tm : Nat) (l : LaneId) (back : Bool) : Encodes.Statement (.supplyLoss tm l back) := fun h => absurd h Bool.false_ne_true
theorem Encodes.companionSupplyLoss (tm : Nat) (c : CompId) : Encodes.Statement (.companionSupplyLoss tm c) := fun h => absurd h Bool.false_ne_true
theorem Encodes.witnessSupplyLoss (tm : Nat) : Encodes.Statement (.witnessSupplyLoss tm) := fun h => absurd h Bool.false_ne_true
theorem Encodes.laneOvertemp (tm : Nat) (l : LaneId) : Encodes.Statement (.laneOvertemp tm l) := fun h => absurd h Bool.false_ne_true
theorem Encodes.companionOvertemp (tm : Nat) (c : CompId) : Encodes.Statement (.companionOvertemp tm c) := fun h => absurd h Bool.false_ne_true
theorem Encodes.coalesceWindowEnd (tm : Nat) (l : LaneId) : Encodes.Statement (.coalesceWindowEnd tm l) := fun h => absurd h Bool.false_ne_true
theorem Encodes.tokenRefill (tm : Nat) (l : LaneId) : Encodes.Statement (.tokenRefill tm l) := fun h => absurd h Bool.false_ne_true
theorem Encodes.postWindowEnd (tm : Nat) (l : LaneId) : Encodes.Statement (.postWindowEnd tm l) := fun h => absurd h Bool.false_ne_true
theorem Encodes.capsuleCommitDone (tm : Nat) (l : LaneId) : Encodes.Statement (.capsuleCommitDone tm l) := fun h => absurd h Bool.false_ne_true
theorem Encodes.journalPageWrite (tm : Nat) (l : LaneId) (bad : Bool) : Encodes.Statement (.journalPageWrite tm l bad) := fun h => absurd h Bool.false_ne_true
theorem Encodes.summaryAck (tm : Nat) (l : LaneId) (k : Nat) : Encodes.Statement (.summaryAck tm l k) := fun h => absurd h Bool.false_ne_true
theorem Encodes.clearCapsuleForward (tm : Nat) (l : LaneId) : Encodes.Statement (.clearCapsuleForward tm l) := fun h => absurd h Bool.false_ne_true
theorem Encodes.refreshStep (tm : Nat) (l : LaneId) (x : MramRead) (bad : Bool) : Encodes.Statement (.refreshStep tm l x bad) := fun h => absurd h Bool.false_ne_true
theorem Encodes.wearRecordWrite (tm : Nat) (l : LaneId) (bad : Bool) : Encodes.Statement (.wearRecordWrite tm l bad) := fun h => absurd h Bool.false_ne_true
theorem Encodes.serviceClockHour (tm : Nat) (l : LaneId) : Encodes.Statement (.serviceClockHour tm l) := fun h => absurd h Bool.false_ne_true
theorem Encodes.xlkWireFail (tm : Nat) (l : LaneId) (link : Nat) : Encodes.Statement (.xlkWireFail tm l link) := fun h => absurd h Bool.false_ne_true
theorem Encodes.certSubmit (tm : Nat) (l : LaneId) : Encodes.Statement (.certSubmit tm l) := fun h => absurd h Bool.false_ne_true
theorem Encodes.certVerifyDone (tm : Nat) (l : LaneId) (sigOk : Bool) : Encodes.Statement (.certVerifyDone tm l sigOk) := fun h => absurd h Bool.false_ne_true
theorem Encodes.rotProgram (tm : Nat) (l : LaneId) (w : Nat) : Encodes.Statement (.rotProgram tm l w) := fun h => absurd h Bool.false_ne_true
theorem Encodes.imgDataWrite (tm : Nat) (l : LaneId) (w : Nat) : Encodes.Statement (.imgDataWrite tm l w) := fun h => absurd h Bool.false_ne_true
theorem Encodes.dbgReq (tm : Nat) (l : LaneId) : Encodes.Statement (.dbgReq tm l) := fun h => absurd h Bool.false_ne_true
theorem Encodes.dbgSubmit (tm : Nat) (l : LaneId) (sigOk : Bool) : Encodes.Statement (.dbgSubmit tm l sigOk) := fun h => absurd h Bool.false_ne_true
theorem Encodes.dbgEnd (tm : Nat) (l : LaneId) : Encodes.Statement (.dbgEnd tm l) := fun h => absurd h Bool.false_ne_true
theorem Encodes.dbgSessionTimeout (tm : Nat) (l : LaneId) : Encodes.Statement (.dbgSessionTimeout tm l) := fun h => absurd h Bool.false_ne_true
theorem Encodes.keyWrite (tm : Nat) (l : LaneId) (w : Nat) : Encodes.Statement (.keyWrite tm l w) := fun h => absurd h Bool.false_ne_true
theorem Encodes.keyErase (tm : Nat) (l : LaneId) (w : Nat) : Encodes.Statement (.keyErase tm l w) := fun h => absurd h Bool.false_ne_true
theorem Encodes.tapReset (tm : Nat) (l : LaneId) : Encodes.Statement (.tapReset tm l) := fun h => absurd h Bool.false_ne_true
theorem Encodes.extest (tm : Nat) (l : LaneId) : Encodes.Statement (.extest tm l) := fun h => absurd h Bool.false_ne_true
theorem Encodes.samplePreload (tm : Nat) (l : LaneId) (preload : Nat) : Encodes.Statement (.samplePreload tm l preload) := fun h => absurd h Bool.false_ne_true
theorem Encodes.idcode (tm : Nat) (l : LaneId) : Encodes.Statement (.idcode tm l) := fun h => absurd h Bool.false_ne_true
theorem Encodes.bypass (tm : Nat) (l : LaneId) : Encodes.Statement (.bypass tm l) := fun h => absurd h Bool.false_ne_true
theorem Encodes.privateTest (tm : Nat) (l : LaneId) (v : Nat) : Encodes.Statement (.privateTest tm l v) := fun h => absurd h Bool.false_ne_true
theorem Encodes.spiRead (tm : Nat) (l : LaneId) (addr : Nat) : Encodes.Statement (.spiRead tm l addr) := fun h => absurd h Bool.false_ne_true
theorem Encodes.spiWrite (tm : Nat) (l : LaneId) (addr w : Nat) : Encodes.Statement (.spiWrite tm l addr w) := fun h => absurd h Bool.false_ne_true
theorem Encodes.registerWrite (tm : Nat) (l : LaneId) (acc : Accessor) (addr w : Nat) : Encodes.Statement (.registerWrite tm l acc addr w) := fun h => absurd h Bool.false_ne_true
theorem Encodes.loReadLatch (tm : Nat) (l : LaneId) (acc : Accessor) (addr : Nat) : Encodes.Statement (.loReadLatch tm l acc addr) := fun h => absurd h Bool.false_ne_true
theorem Encodes.companionRegisterAccess (tm : Nat) (l : LaneId) (acc : Accessor) (addr : Nat) (wr : Option Nat) (moved acked : Bool) : Encodes.Statement (.companionRegisterAccess tm l acc addr wr moved acked) := fun h => absurd h Bool.false_ne_true
theorem Encodes.crosslinkTimeout (tm : Nat) (l : LaneId) : Encodes.Statement (.crosslinkTimeout tm l) := fun h => absurd h Bool.false_ne_true
theorem Encodes.slackMinClr (tm : Nat) (l : LaneId) (acc : Accessor) (n : Nat) : Encodes.Statement (.slackMinClr tm l acc n) := fun h => absurd h Bool.false_ne_true
theorem Encodes.maxwaitClr (tm : Nat) (l : LaneId) (acc : Accessor) (n : Nat) : Encodes.Statement (.maxwaitClr tm l acc n) := fun h => absurd h Bool.false_ne_true
theorem Encodes.arbPrioWrite (tm : Nat) (l : LaneId) (acc : Accessor) (w : Nat) : Encodes.Statement (.arbPrioWrite tm l acc w) := fun h => absurd h Bool.false_ne_true
theorem Encodes.positionSample (tm : Nat) (c : CompId) (k : Nat) (x : PairObs) : Encodes.Statement (.positionSample tm c k x) := fun h => absurd h Bool.false_ne_true
theorem Encodes.driveSupplyReturn (tm : Nat) (c : CompId) (vdrv vbr1 vbr2 : Bool) : Encodes.Statement (.driveSupplyReturn tm c vdrv vbr1 vbr2) := fun h => absurd h Bool.false_ne_true
theorem Encodes.companionTempReturn (tm : Nat) (c : CompId) : Encodes.Statement (.companionTempReturn tm c) := fun h => absurd h Bool.false_ne_true
theorem Encodes.supervisorFault (tm : Nat) (l : LaneId) : Encodes.Statement (.supervisorFault tm l) := fun h => absurd h Bool.false_ne_true
theorem Encodes.lanePortFail (tm : Nat) (l : LaneId) : Encodes.Statement (.lanePortFail tm l) := fun h => absurd h Bool.false_ne_true
theorem Encodes.companionLockTimeout (tm : Nat) (l : LaneId) : Encodes.Statement (.companionLockTimeout tm l) := fun h => absurd h Bool.false_ne_true

end Sys2Proof.Laws
end

