-- ==== Sys2Proof/Tests/Slice0.lean ====
section
/-!
SUPPORT. Tests of one step or one operation each: premises of the statements met in concrete states, ill-formed commands refused,
instruction words, and the spec's worked examples.
-/
namespace Sys2Proof.Tests
open Sys2Proof Sys2Proof.Machine
set_option Elab.async false
set_option linter.unusedSimpArgs false

/-! ### States to test on -/
/-- A register map with fields written. -/
def regs (fs : List (Fld × Nat)) (m : RegMap := []) : RegMap := fs.foldl (fun m f => RegMap.set m f.1 f.2) m

/-- Partition `k`, enabled, of a kind, 4 KiB at `base` × 4,096, for task 0. -/
def part0 (k kind base : Nat) : List (Fld × Nat) :=
  [(Reg.CHE_PART_ATTR.EN k, 1), (Reg.CHE_PART_ATTR.KIND k, kind), (Reg.CHE_PART_ATTR.TASKS k 0, 1), (Reg.CHE_PART_BASE.BASE k,
    base)]

/-- A lane in ACTIVE, in PRODUCTION, that sees lanes A to C ACTIVE; task 0 enabled on bridge B1 with a partition of each of the
kinds CODE, STATE, INPUT and OUTPUT. -/
def upLane : Lane :=
  { powered := true, st := .active
    regs := regs ([(Reg.LCTL_STATUS.STATE, 5), (Reg.RDN_STAT.LSTATE 0, 5), (Reg.RDN_STAT.LSTATE 1, 5), (Reg.RDN_STAT.LSTATE 2,
      5),
      (Reg.RDN_STAT.DL, 1), (Reg.JLF_START_STAT.PHASE, 5), (Reg.LCS_STATE.STATE, 3), (Reg.CHE_TASK_CFG.EN 0, 1),
      (Reg.CHE_TASK_CFG.PRIO 0, 3), (Reg.CHE_TASK_BUDGET.BUDGET 0, 1000)] ++ part0 0 0 0 ++ part0 1 3 1 ++ part0 2 5 2 ++
      part0 3 6 3) }

/-- A companion in operation, its pads released, both PWM units enabled. -/
def upComp : Comp :=
  { powered := true, running := true, ticks := 1000000, pads := 0, calRun := true
    regs := regs [(Reg.PWM_CFG.EN 0, 1), (Reg.PWM_CFG.EN 1, 1)] }

/-- The witness in operation, lane A appointed. -/
def upWit : Wit :=
  { powered := true, release := true, retRun := true, retMark := false, fltW := false, decided := true, readyAt := some 0
    regs := regs [(Reg.WIT_STAT.LSTATE 0, 5), (Reg.WIT_STAT.LSTATE 1, 5), (Reg.WIT_STAT.LSTATE 2, 5), (Reg.WIT_STAT.DL, 1),
      (Reg.WIT_STAT.MASTER_VALID, 1)] }

/-- The part in operation: lanes A to C ACTIVE, their companions, the witness. -/
def up : Dev := { lA := upLane, lB := upLane, lC := upLane, cA := upComp, cB := upComp, cC := upComp, wit := upWit, pwr := { state := 0 } }

/-- The state at instant `t` in which the dies are `d`. -/
def stage (t : Nat) (d : Dev) : State := { now := t, mems := {}, dev := d, pending := [] }

/-- `up` with lane A changed, with companion CA changed, with the witness changed. -/
def upA (f : Lane → Lane) : Dev := up.modLane .A f
def upCA (f : Comp → Comp) : Dev := up.modComp .CA f
def upW (f : Wit → Wit) : Dev := up.modWit f

/-- A lane, a companion, the witness with register fields written. -/
def lset (fs : List (Fld × Nat)) (x : Lane) : Lane := { x with regs := regs fs x.regs }
def cset (fs : List (Fld × Nat)) (x : Comp) : Comp := { x with regs := regs fs x.regs }
def wset (fs : List (Fld × Nat)) (x : Wit) : Wit := { x with regs := regs fs x.regs }

/-- An activation of task 0 at `t`. -/
def run0 (t : Nat) : Run := { task := 0, tA := t, idx := 0, key := t }

/-- A block that enables its bridge. -/
def onBlock : OutBlock :=
  { dutyU := 1000, dutyV := 2000, dutyW := 3000, enable := true, iLimit := 500, sbcReq := 0, fabOut := [7] }

/-- Bridge B1 of CA drives. -/
def drives (x : Comp) : Comp := x.modBridge false (fun y => { y with live := onBlock, gatesOffAt := none, iCap := 300 })

/-- A schedule entry of 400 ticks: direction, role, node, payload length, and the rest. -/
def entry (dir role node pay low : Nat)
  : Nat := dir * 2 ^ 62 + role * 2 ^ 59 + node * 2 ^ 48 + 400 * 2 ^ 35 + pay * 2 ^ 26 + low

/-- Seven slots: setpoint, TX DATA, TX SYNC, TX STATUS, RX DATA to queue 1, RX SYNC, SPARE. -/
def table : List (Nat × Nat) :=
  [(0, entry 2 2 40 12 0), (1, entry 1 0 0 60 0), (2, entry 1 1 0 32 0), (3, entry 1 2 0 32 0), (4, entry 2 0 41 60 4),
    (5, entry 2 3 42 32 0), (6, entry 3 0 44 0 2)]

/-- The node of companion CA at the start of cycle 10, cycles of 1 ms, both links up, in a phase. -/
def fabUp (phase : Nat) (fl : Lane → Lane) (fc : Comp → Comp) : Dev :=
  (upCA (fun x => fc { x with
      regs := regs [(Reg.JMC_CFG.ETYPE, 0x88B5), (Reg.JMC_CFG.PI, 10), (Reg.JMC_CFG.ACTION_OFS, 100), (Reg.JMC_ADDR.CLUSTER, 1),
        (Reg.JMC_ADDR.DA_LOW, 7), (Reg.PHY_CFG.EN 0, 1), (Reg.PHY_CFG.EN 1, 1), (Reg.PHY_CFG.SPEED 0, 1),
          (Reg.PHY_CFG.SPEED 1, 1),
        (Reg.PHY_STAT.LINK 0, 1), (Reg.PHY_STAT.LINK 1, 1), (Reg.FQ_CFG.EN 1, 1), (Reg.JMC_GUARD.BLOCKED, 0),
        (Reg.JMC_GUARD.CAUSE, 0)] x.regs
      lower := { x.lower with table := table, legal := [3] } })).modLane .A (fun x => fl { x with
        regs := regs [(Reg.JLF_CYCLE.CYCLE_US, 1000), (Reg.JLF_CYCLE.NSLOTS, 7), (Reg.JLF_ET.ET_LEN, 100), (Reg.JLF_ET.ET_MAX,
          4),
          (Reg.JLF_START.CS_EN, 1), (Reg.JLF_SCHED.ID, 77), (Reg.JSY_CFG.SYNC_MIN, 1), (Reg.JSY_CFG.LOSS_N, 2),
          (Reg.JSY_CFG.OFS_LIM, 100), (Reg.JSY_CFG.RATE_LIM, 100), (Reg.JLF_START_STAT.PHASE, phase)] x.regs
        start := { x.start with img := some { laneRegs := [], compRegs := [], nodes := [50, 51, 52], tables := [], init := []
                                              svn := 0, digest := 0 } }
        fab := { x.fab with cycle := 10 } })

/-- A group frame from a node for slot `i` of cycle `n` of that table, on network Y or X. -/
def frameOf (kind node i n : Nat) (netY : Bool) (pay : List Byte) : RxFrame :=
  let x := (fabUp 5 id id).cA
  { netY := netY, sof32 := (n * 100000 + 400 * i + 100) * 32, phyErr := false
    bytes := x.frameBytes (groupAddr 7) kind false netY node i n pay }

/-- Its header as the MAC passes it on. -/
def hdrOf (kind node i n : Nat) (netY : Bool) (pay : List Byte) : Hdr :=
  { kind := kind, auth := false, keyId := 0, node := node, slot := i, cycle := n
    raw := jaloftHeader kind false netY 0 node i n pay.length, payload := pay, tag := [] }

/-- What the front end reads at a centre. -/
def centreObs : CentreObs :=
  { iU := 5, iV := 6, iW := -11, s0 := 5, s1 := 900, vBr := 2000, vU := [1], vV := [2], vW := [3, 5], brs0 := (0, 1000)
    brs1 := (0, 1000), aux := [1, 2, 3, 4], vref := 4096, t0 := 400, t1 := 410 }

/-- A command of class 3 with a value. -/
def setpoint (cls v : Nat) : List Byte := leBytes 1 cls ++ [0, 1, 2] ++ beBytes 8 v

/-- A heartbeat of a lane on path Y or X that shows a state. -/
def beat (l : LaneId) (y : Bool) (state : Nat) : Heartbeat :=
  { lane := l, pathY := y, state := state, nonCheck := false, witless := false, unlinked := false, master := false
    service := false, xferRdy := false, seq := 9, depth := 0, dl := 1, key := 5, digest := 6, heardX := 0, heardY := 0,
      accuse := 0
    lost := 0, sib := 0, sibValid := false, sibCycle := 0, jseq := 0, image := 0, evid := false, evidCnt := 0, lstate := 0x555
    cause := 7 }

/-- A journal record. -/
def jrec (n : Nat) : JRec :=
  { jseq := n, step := 1, status := 1, by_ := 0, byWit := true, target := 0, time := 5, arg := 7, epoch := 0 }

/-- Lane A serves the host's rings, of 8 entries each, in the ET segment of cycle 10. -/
def ringUp (f : Lane → Lane) : Dev :=
  fabUp 5 (fun x => f (lset [(Reg.RNG_CFG.EN, 1), (Reg.RNG_CFG.CADENCE, 0), (Reg.RNG_STAT.SERVING, 1), (Reg.RWP_CFG.HOST_NODE,
    60), (Reg.RWP_CFG.MAX_OUT, 2),
      (Reg.RWP_CFG.MAX_RETRY, 1), (Reg.RWP_CFG.HOST_TMO, 1), (Reg.RNG_CFG.APPLY_LEAD, 20), (Reg.RNG_SIZE.LOG 0, 3),
      (Reg.RNG_SIZE.LOG 4, 3), (Reg.RNG_SIZE.LOG 5, 3), (Reg.RNG_SIZE.LOG 6, 3), (Reg.RNG_SIZE.LOG 7, 3),
      (Reg.RDN_STAT.MASTER_VALID, 1)] x))
    (fun x => { x with ticks := 1003000 })

/-- A command descriptor with an opcode, flags, CMD_SEQ 3 and arguments. -/
def desc (op flags : Nat) (args : List Byte) : List Byte :=
  leBytes 1 op ++ leBytes 1 flags ++ [0, 0] ++ leBytes 4 3 ++ [1, 2, 3, 4, 5, 6, 7, 8] ++ args ++ List.replicate
    (48 - args.length) 0

/-- That descriptor as a fetched command of CMDQ 0. -/
def cmdOf (op flags : Nat) (args : List Byte) : Cmd := { ring := 0, gen := 0, idx := 0, raw := desc op flags args }

/-- An ET frame of a kind from node 60 with a payload, in the ET segment of cycle 10 on network X. -/
def etFrame (kind : Nat) (pay : List Byte) : RxFrame :=
  { netY := false, sof32 := 1003100 * 32, phyErr := false
    bytes := (fabUp 5 id id).cA.frameBytes (groupAddr 7) kind false false 60 0xFFFF 10 pay }

/-- An RWP payload (R307). -/
def rwpPay (op tag addr len : Nat) (data : List Byte) : List Byte :=
  [BitVec.ofNat 8 op, BitVec.ofNat 8 tag, 0, 0] ++ beBytes 8 addr ++ beBytes 2 len ++ [0, 0] ++ data

/-- A lane in a state of its start, released by a witness that has power, its attempt begun at instant 5. -/
def starting (st : LaneSt) (f : Lane → Lane) : Dev :=
  let l := f { upLane with
    st := st, start := { tS := some 5, tS0 := some 5 }, rdn :=
      { beacon := some { seq := 1, dl := 0, master := 0, masterValid := false, lstate := 0, jseq := 0 } }
    fuses := { life := 3 } }
  { lA := l, cA := { upComp with calRun := false }
    wit := (({ upWit with decided := false, readyAt := none, release := true }).wr Reg.WIT_VAULT.CERT 0), pwr :=
      { state := 0 } }

/-- An image with one idle slot and every other register at its reset value. -/
def image0 : Setup :=
  { laneRegs := [(0x40008000, 250 * 2 ^ 20 + 2 ^ 8)], compRegs := [], nodes := [50, 51, 52]
    tables := [[400 * 2 ^ 35], [400 * 2 ^ 35], [400 * 2 ^ 35]], init := [(64, 9)], svn := 0, digest := 12 }

/-- What a BOOT without a fault finds. -/
def goodBoot : BootObs :=
  { supOk := true, mramOk := true, certSig := true, sigA := true, hashA := true, sigB := false, hashB := false, imgA := image0
    imgB := image0 }

/-- What a CALIB without a fault finds. -/
def goodCalib : CalibRes :=
  { segs := [], ofs := [0, 0, 0, 0, 0, 0, 0, 0], gain := [0, 0, 0, 0, 0, 0, 0, 0], sar := [], brs := [], t0 := 400, t1 := 400
    conv := [], pairs := [(500000, 0), (0, 500000), (300000, 400000)], done := true }

/-! ### The Chord engine: states that the statements speak of -/

/-- An issue on lane A in half 0, under guard p0, every read clean. -/
def issueA : Issue :=
  { lane := .A, half1 := false, pg := 0, pn := false, fetch := .clean, data := .clean, strikes := [], hits := [], phits := []
    late := false, contend := [] }

/-- The activation of task 0 that runs in `running`, and the candidate run of bank 2 in `candidate`. -/
def runA : Issuer := { slot := .half false, task := 0, rot := 0 }
def bankA : Issuer := { slot := .bank 2, task := 0, rot := 0 }

/-- A context at address 64 with `a`, `b` and `c` in g1 to g3, both copies of each, and p1. -/
def ctxOf (a b c : Dword) (p1 : Bool) : Ctx :=
  (((({ pc := 64 } : Ctx).both false 1 a (anCode 0 a)).both false 2 b (anCode 0 b)).both false 3 c (anCode 0 c)).wp 1 p1

/-- Lane A runs task 0 at address 64, with `a`, `b` and `c` in g1 to g3, p1 set, and no FP_TRAP enabled. -/
def running (a b c : Dword) (f : Lane → Lane := id) : State :=
  stage 5 (upA (fun x => f ((lset [(Reg.CHE_TASK_CFG.TRAP_NV 0, 0), (Reg.CHE_TASK_CFG.TRAP_DZ 0, 0)] x).modEng (fun e =>
    { e with h0 := { e.h0 with run := some (run0 999000)
                               ctx := ctxOf a b c true } }))))

/-- A candidate run of task 0 in bank 2 with the same registers, in an open window. -/
def candidate (a b c : Dword) : State :=
  stage 5 (upA (fun x => (lset [(Reg.CHE_TASK_CFG.SPEC 0, 1)] x).modEng (fun e =>
    { e with winOpen := true, deadline := 2000000
             banks := Sparse.set {} [] 2 { empty := false, started := true, ctx := ctxOf a b c false } })))

/-- The value of a general register of the run after an instruction; none where the instruction gives no next state. -/
def after (o : Host.Outcome State Fault Refusal) (r : BitVec 6) : Option Dword :=
  match o with
  | .next t => some ((t.ctx issueA runA).rg r)
  | _ => none

/-! ### Premises of the statements about the queue, words and the engine -/

theorem test_meets_queue :
    (∃ c cs, (stage 5 up).pending = [] ∧ { stage 5 up with pending := [.add issueA 3 1 2] }.pending = c :: cs) ∧
    (∃ t, exec (.add issueA 3 1 2) (running 1 2 3) = .next t) ∧
    (stage 5 up).sound ∧ (∃ t, step { stage 5 up with pending := [.lke issueA] } = .next t) :=
  ⟨⟨_, _, rfl, rfl⟩, ⟨_, rfl⟩, by unfold State.sound; decide, ⟨_, rfl⟩⟩

theorem test_meets_DecodeEncode :
    (Instr.trap issueA 255).wf = true ∧ chordIssue (.trap issueA 255) = some issueA ∧
    (encodeChord (.trap issueA 255)).isSome = true := by decide +kernel

theorem test_meets_runs : (running 1 2 3).runs issueA runA := by
  unfold State.runs State.issues; decide +kernel

theorem test_meets_runs_bank : (candidate 1 2 3).runs { issueA with lane := .A } bankA := by
  unfold State.runs State.issues; decide +kernel

/-- The issues of instructions of every class agree in a run whose copies agree: codes, dual and mirrored forms, the quarter
turn, scaled and plain arithmetic, addresses and branches (R110). -/
theorem test_meets_agrees : ∀ s ∈ [running 0x3FC00000 0x40100000 0x8000, running 0x8000000000000000 0xFFFFFFFFFFFFFFFF 7],
    ∀ k ∈ [workAdd 3 1 2, workSub 3 1 2, workMul 3 1 2, workAnd 3 1 2, workSll 3 1 2, workMin 3 1 2, workDiv 3 1 2, workAbs 3 1,
      workClz 3 1, workSatw 3 1, workCmp 2 .lt 1 2, workCmp 2 .tst 1 2, workPlog 2 .pand 1 1, workQmul31 3 1 2, workQadd 3 1 2,
      workFadd 3 1 2, workFmul 3 1 2, workFcvtws 3 1 2, workFcmp 2 .flt 1 2, workPark 3 1 2, workSincos 3 1, workMovz 3 1 5,
      workLd 3 1 1, workSb 3 1 1, workBr 4, workJr 1, workLke, workSeal, workIllegal], s.agrees issueA runA k := by
  unfold State.agrees; decide +kernel

theorem plays_all {s : State} {q : Issue} {w : Issuer} {l : List Instr} (hr : s.runs q w)
    (h : ∀ i ∈ l, (workOf i).isSome = true ∧ ∀ k ∈ (workOf i).toList, s.agrees q w k) : ∀ i ∈ l, s.plays q w i := by
  intro i hi
  obtain ⟨h1, h2⟩ := h i hi
  obtain ⟨k, hk⟩ := Option.isSome_iff_exists.mp h1
  exact ⟨hr, k, hk, h2 k (by simp [hk])⟩

/-- Every form with a register or predicate result runs to its effect in one state, with a divisor other than 0 and no trap
enabled: the premises of RegisterWriteBack and of the result statements together. -/
theorem test_meets_RegisterWriteBack :
    let s := running 0x3FC00000 0x40100000 0x8000
    (∀ i ∈ [Instr.addi issueA 3 1 (-1), .andi issueA 3 1 5, .ori issueA 3 1 5, .xori issueA 3 1 5, .muli issueA 3 1 5,
        .slli issueA 3 1 63, .srli issueA 3 1 1, .srai issueA 3 1 1, .movz issueA 3 3 5, .movk issueA 3 3 5, .add issueA 3 1 2,
        .sub issueA 3 1 2, .and issueA 3 1 2, .or issueA 3 1 2, .xor issueA 3 1 2, .andn issueA 3 1 2, .sll issueA 3 1 2,
        .srl issueA 3 1 2, .sra issueA 3 1 2, .mul issueA 3 1 2, .mulhs issueA 3 1 2, .mulhu issueA 3 1 2, .min issueA 3 1 2,
        .max issueA 3 1 2, .minu issueA 3 1 2, .maxu issueA 3 1 2, .div issueA 3 1 2, .divu issueA 3 1 2, .rem issueA 3 1 2,
        .remu issueA 3 1 2, .abs issueA 3 1, .neg issueA 3 1, .clz issueA 3 1, .popc issueA 3 1, .sextw issueA 3 1,
        .zextw issueA 3 1, .satw issueA 3 1, .sath issueA 3 1], s.plays issueA runA i) ∧
    (∀ i ∈ [Instr.qadd issueA 3 1 2, .qsub issueA 3 1 2, .qmul15 issueA 3 1 2, .qmul31 issueA 3 1 2, .qmac31 issueA 3 1 2,
        .qmsu31 issueA 3 1 2, .qabs issueA 3 1 2, .qneg issueA 3 1 2, .qshl issueA 3 1 2, .qrsr issueA 3 1 2,
        .qlim issueA 3 1 2, .cmp issueA 2 .lt 1 2, .cmpi issueA 2 .eq 1 5, .plog issueA 2 .pand 1 1], s.plays issueA runA i) ∧
    (∀ i ∈ [Instr.fadd issueA 3 1 2, .fsub issueA 3 1 2, .fmul issueA 3 1 2, .fdiv issueA 3 1 2, .fsqrt issueA 3 1,
        .fmin issueA 3 1 2, .fmax issueA 3 1 2, .fabs issueA 3 1 2, .fneg issueA 3 1 2, .fmac issueA 3 1 2, .fmsc issueA 3 1 2,
        .fcvtws issueA 3 1 2, .fcvtsw issueA 3 1 2, .fcvtqs issueA 3 1 2, .fcvtsq issueA 3 1 2, .fclass issueA 3 1 2,
        .fcmp issueA 2 .flt 1 2], s.plays issueA runA i) ∧
    (∀ i ∈ [Instr.sincos issueA 3 1, .atan2 issueA 3 1 2, .clarke issueA 3 1 2, .park issueA 3 1 2, .ipark issueA 3 1 2,
        .svm issueA 3 1], s.plays issueA runA i) ∧
    (s.ctx issueA runA).rg 2 ≠ 0 ∧ (s.dev.lane .A).flag (Reg.CHE_TASK_CFG.TRAP_NV 0) = false ∧
    (s.dev.lane .A).flag (Reg.CHE_TASK_CFG.TRAP_DZ 0) = false := by
  refine ⟨plays_all ?_ ?_, plays_all ?_ ?_, plays_all ?_ ?_, plays_all ?_ ?_, ?_, ?_, ?_⟩ <;>
    first | (unfold State.runs State.issues; decide +kernel) | (unfold State.agrees; decide +kernel) | decide +kernel

/-- A one-operand INTX function with a non-zero rb, and function 0xF, are words of no instruction. -/
theorem test_meets_UnaryResults :
    let s := running 5 6 7
    s.issues issueA runA ∧ s.agrees issueA runA workIllegal ∧ decodeChord issueA 0 (wordR 0x01 issueA 3 1 2 4) = none ∧
    decodeChord issueA 0 (wordR 0x01 issueA 3 1 0 15) = none := by
  unfold State.issues State.agrees; decide +kernel

/-- A flipped bit of the AN shadow of g2 is a RESIDUE event, and one of its primary copy REGSTORE; without a strike neither
changes the result, and with the spare slice a struck primary issue loses (R115 to R117). -/
theorem test_mismatch :
    let c := ctxOf 5 7 0 false
    let k := workAdd 3 1 2
    ((k.mismatch issueA 0 (c.hitReg (125, 8))).map (·.kind) = some .residue) ∧
    ((k.mismatch issueA 0 (c.hitReg (2, 8))).map (·.kind) = some .regstore) ∧
    (k.resolve issueA 0 (c.hitReg (2, 8)) true).out = .int 3 12 {} ∧
    (let q := { issueA with strikes := [{ issue := .prim, dec := 0, res := 4, prd := false, flg := 0, adr := 0, dat := 0 }] }
     k.mismatch q 0 c = some { kind := .result, bit := some 2 } ∧ (k.resolve q 0 c true).out = .int 3 12 {} ∧
     (k.resolve q 0 c true).loser = some 0 ∧ (k.resolve q 0 c false).out = .int 3 12 {}) := by decide +kernel

theorem test_meets_GuardOff :
    (running 1 2 3).issues { issueA with pg := 2 } runA ∧ ((running 1 2 3).ctx { issueA with pg := 2 } runA).guard 2 false = false ∧
    chordIssue (.lke { issueA with pg := 2 }) = some { issueA with pg := 2 } := by
  unfold State.issues; decide +kernel

theorem test_meets_DivisionResults :
    (((running 1 2 3).ctx issueA runA).rg 2 ≠ 0 ∧ (running 1 2 3).runs issueA runA) ∧
    (((running 1 0 3).ctx issueA runA).rg 2 = 0 ∧ (running 1 0 3).runs issueA runA) := by
  unfold State.runs State.issues; decide +kernel

/-- A sum and a compare that set no flag whose trap is enabled, with both traps enabled and with none. -/
theorem test_meets_Float : ∀ en ∈ [0, 1],
    (let s := running 0x3F800000 0x40000000 0 (lset [(Reg.CHE_TASK_CFG.TRAP_NV 0, en), (Reg.CHE_TASK_CFG.TRAP_DZ 0, en)])
     let a := f32 ((s.ctx issueA runA).rg 1)
     let b := f32 ((s.ctx issueA runA).rg 2)
     s.runs issueA runA ∧ (s.dev.lane .A).flag (Reg.CHE_TASK_CFG.TRAP_NV 0) = (en == 1) ∧
     ((fAdd a b).2.nv || (fAdd a b).2.dz || (fCmp .flt a b).2.nv || (fToI32 a 0).2.nv) = false) := by
  unfold State.runs State.issues; decide +kernel

/-- A signalling NaN with the trap of NV enabled, and 1 ÷ 0 with the trap of DZ enabled. -/
theorem test_meets_FloatTraps :
    (let s := running 0x7F800001 0x3F800000 0 (lset [(Reg.CHE_TASK_CFG.TRAP_NV 0, 1)])
     s.runs issueA runA ∧ (fAdd (f32 ((s.ctx issueA runA).rg 1)) (f32 ((s.ctx issueA runA).rg 2))).2.nv = true ∧
     (s.dev.lane .A).flag (Reg.CHE_TASK_CFG.TRAP_NV 0) = true) ∧
    (let s := running 0x3F800000 0 0 (lset [(Reg.CHE_TASK_CFG.TRAP_DZ 0, 1)])
     s.runs issueA runA ∧ (fDiv (f32 ((s.ctx issueA runA).rg 1)) (f32 ((s.ctx issueA runA).rg 2))).2.dz = true ∧
     (s.dev.lane .A).flag (Reg.CHE_TASK_CFG.TRAP_DZ 0) = true) := by
  unfold State.runs State.issues; decide +kernel

/-- The last doubleword and the last byte of the STATE partition. -/
theorem test_meets_LoadResults :
    let s := running 8184 8191 0
    s.granted issueA runA false (effAddr (s.ctx issueA runA) 1 0 8) 8 ((s.dev.lane .A).mayLoad 0 8184) ∧
    s.granted issueA runA false (effAddr (s.ctx issueA runA) 2 0 1) 1 ((s.dev.lane .A).mayLoad 0 8191) ∧
    (s.mems.lane .A).outcome (8191 / 8) .clean = none := by
  unfold State.granted; decide +kernel

theorem test_meets_StoreResults :
    let s := running 4096 8190 0
    s.granted issueA runA false (effAddr (s.ctx issueA runA) 1 0 8) 8 ((s.dev.lane .A).mayStore 0 4096) ∧
    s.granted issueA runA false (effAddr (s.ctx issueA runA) 2 0 2) 2 ((s.dev.lane .A).mayStore 0 8190) ∧
    (s.mems.lane .A).outcome (8190 / 8) .clean = none := by
  unfold State.granted; decide +kernel

theorem test_meets_CandidateStores :
    let s := candidate 8184 0 0
    let a := effAddr (s.ctx issueA bankA) 1 0 8
    a % 8 = 0 ∧ (s.dev.lane .A).mayStore 0 a = true ∧ (s.dev.lane .A).permitted 1 (groupOf (a / 8)) = true ∧
    (Sparse.get ({} : Bank) (s.dev.lane .A).eng.banks 2).sbuf.length < 64 := by decide +kernel

/-- A misaligned address, one of no partition, the 17th access of a locked sequence, and a group that the mask excludes. -/
theorem test_meets_AccessExceptions :
    (let s := running 4097 0 0
     effAddr (s.ctx issueA runA) 1 0 8 % 8 ≠ 0) ∧
    (let s := running 0x9000 0 0
     effAddr (s.ctx issueA runA) 1 0 8 % 8 = 0 ∧ (s.dev.lane .A).mayLoad 0 0x9000 = false) ∧
    (let s := running 4096 0 0 (fun x => x.modEng (fun e => { e with h0 := { e.h0 with locks := [0], beats := 16 } }))
     s.runs issueA runA ∧ (s.dev.lane .A).mayLoad 0 4096 = true ∧ ((s.dev.lane .A).eng.half false).locks ≠ [] ∧
     16 ≤ ((s.dev.lane .A).eng.half false).beats) ∧
    (let s := running 4096 0 0 (lset [(Reg.ARB_GRP_REQ.PERMIT 0 1, 0)])
     s.runs issueA runA ∧ (s.dev.lane .A).mayLoad 0 4096 = true ∧ (s.dev.lane .A).permitted 1 (groupOf (4096 / 8)) = false) := by
  unfold State.runs State.issues; decide +kernel

/-- Targets at both ends of the CODE partition, just past each end, and a register target that is no multiple of 4. -/
theorem test_meets_BranchResults :
    let s := running 4092 4096 2
    let x := s.dev.lane .A
    x.mayFetch 0 0 = true ∧ x.mayFetch 0 4092 = true ∧ x.mayFetch 0 4096 = false ∧
    ((s.ctx issueA runA).rg 1).toNat % 4 = 0 ∧ ((s.ctx issueA runA).rg 2).toNat % 4 = 0 ∧
    ((s.ctx issueA runA).rg 3).toNat % 4 ≠ 0 := by decide +kernel

theorem test_meets_LockResults :
    let h := fun ls => ((running 1 2 3 (fun x => x.modEng (fun e => { e with h0 := { e.h0 with locks := ls } }))).dev.lane .A).eng
    (∀ k ∈ ((h []).half false).locks, k < 0) ∧ (∀ k ∈ ((h [0, 6]).half false).locks, k < 7) ∧ 6 ∈ ((h [0, 6]).half false).locks ∧
    (5 ∉ ((h [0, 6]).half false).locks ∧ ∃ k ∈ ((h [0, 6]).half false).locks, 5 < k) ∧
    ((h [0, 6]).half false).ready = [] ∧ ((h [0, 6]).half true).ready = [] := by decide +kernel

/-- Seals at the last instant of the budget and one tick later, and a candidate's seal. -/
theorem test_meets_SealResults :
    (let s := running 1 2 3
     ((s.dev.lane .A).eng.half false).run = some (run0 999000) ∧ s.dev.adopted .A = some .CA ∧
     (({ s with now := s.instant 5, dev := s.upTo 5 } : State).fetched issueA).laneTime .A = (999000 + 1000, false)) ∧
    (let s := { running 1 2 3 with dev := (running 1 2 3).dev.modComp .CA (fun x => { x with ticks := 1000001 }) }
     s.runs issueA runA ∧ (({ s with now := s.instant 5, dev := s.upTo 5 } : State).fetched issueA).laneTime .A = (1000001, false)) ∧
    (candidate 1 2 3).runs issueA bankA ∧ bankA.slot = .bank 2 := by
  unfold State.runs State.issues; decide +kernel

theorem test_meets_SealRecords :
    upLane.hasOutput 0 = true ∧ upLane.hasOutput 1 = false ∧ (run0 5).task < 16 := by decide +kernel

theorem test_meets_TrapAndIllegal : decodeChord issueA 0 0xFFFFFFFF = none ∧ (running 1 2 3).issues issueA runA := by
  unfold State.issues; decide +kernel

theorem test_meets_ExceptionEffect :
    (upLane.powered = true ∧ upLane.flag (Reg.CHE_OVR_CNT.CONSEC 0) = false ∧ (upLane.eng.half false).ready = []) ∧
    bankA.slot = .bank 2 ∧ runA.slot = .half false := by decide +kernel

/-! ### Premises of the statements about events

For each statement, one conjunct for each of its clauses: the clause's command and premise, then a state and operands that meet
it. -/

/-- The premise of a clause holds in a state at the instant of its command. -/
abbrev Meets (tm : Nat) (_ : Instr) (pre : Dev → Prop) (s : State) : Prop := pre (s.upTo tm)
abbrev MeetsM (tm : Nat) (_ : Instr) (pre : Mems → Dev → Prop) (s : State) : Prop := pre s.mems (s.upTo tm)

theorem forall_lane (p : LaneId → Prop) : (∀ l, p l) ↔ p .A ∧ p .B ∧ p .C ∧ p .D :=
  ⟨fun h => ⟨h _, h _, h _, h _⟩, fun h l => by cases l <;> simp only [h]⟩

theorem forall_comp (p : CompId → Prop) : (∀ c, p c) ↔ p .CA ∧ p .CB ∧ p .CC :=
  ⟨fun h => ⟨h _, h _, h _⟩, fun h c => by cases c <;> simp only [h]⟩

theorem test_meets_ActivationEvents :
    ((fun tm c b l => MeetsM tm (.activation tm c b)
    (fun _ u => let x := u.comp c
      x.powered = true ∧ (x.bridge b).actDone = false ∧ (x.bridge b).lastC + x.actOfs b ≤ x.tcorr ∧ u.driver c = some l)
    (stage 5 (upCA (fun x => x.modBridge false (fun y => { y with actDone := false, lastC := 999000 }))))) 5 .CA false .A) ∧
    ((fun tm c b l r => MeetsM tm (.sampleBlockStored tm c b)
    (fun _ u => let e := (u.lane l).eng
      u.driver c = some l ∧ ((u.lane l).partsOf r.task 5).isEmpty = false ∧
      (e.h0.ready ++ e.h1.ready).filter (fun r => r.waits && (u.lane l).rd (Reg.CHE_TASK_CFG.SRC r.task) == bit b) = [r] ∧
      (∀ q ∈ e.h0.run.toList ++ e.h1.run.toList, q.waits = false) ∧ ∀ g < 8, (u.lane l).permitted 6 g = true)
    (stage 5 (upA (fun x => x.modEng (fun e =>
      { e with h0 := { e.h0 with ready := [{ run0 999000 with waits := true }] } }))))) 5 .CA false .A
      { run0 999000 with waits := true }) ∧
    ((fun tm l c r rest => Meets tm (.release tm l)
    (fun u => (u.lane l).eng.outbox = r :: rest ∧ u.adopted l = some c ∧ (u.comp c).powered = true ∧ u.driver c = some l ∧
        (u.lane l).tapBlocks = false)
    (stage 5 (upA (fun x => x.modEng (fun e =>
      { e with outbox := [{ bridge := 0, task := 0, tA := 999000, tSeal := 999500, key := 999000, out := onBlock }] }))))) 5 .A .CA { bridge := 0, task := 0, tA := 999000, tSeal := 999500, key := 999000, out := onBlock } []) ∧
    ((fun tm l c r rest => Meets tm (.release tm l)
    (fun u => (u.lane l).eng.outbox = r :: rest ∧ u.adopted l = some c ∧
        (u.driver c ≠ some l ∨ (u.lane l).tapBlocks = true))
    (stage 5 ((upA (fun x => x.modEng (fun e =>
      { e with outbox := [{ bridge := 0, task := 0, tA := 999000, tSeal := 999500, key := 999000, out := onBlock }] }))).modComp .CA (fun x => { x with quarP := true })))) 5 .A .CA { bridge := 0, task := 0, tA := 999000, tSeal := 999500, key := 999000, out := onBlock } []) := by
  refine ⟨?_, ?_, ?_, ?_⟩ <;> decide +kernel

theorem test_meets_BudgetAndDepth :
    ((fun tm l n r rs => (n < 16) ∧ Meets tm (.overrun tm l n)
    (fun u => (u.lane l).eng.liveRuns n = r :: rs ∧ (u.lane l).powered = true ∧
      r.tA + (u.lane l).rd (Reg.CHE_TASK_BUDGET.BUDGET n) ≤ (u.laneTime l).1 ∧
      (u.lane l).flag (Reg.CHE_OVR_CNT.CONSEC n) = false)
    (stage 5 (upA (fun x => x.modEng (fun e => { e with h0 := { e.h0 with run := some (run0 999000) } }))))) 5 .A 0
      (run0 999000) []) ∧
    ((fun tm l => Meets tm (.depthReevaluation tm l)
    (fun u => 64 ≤ (u.lane l).eng.wCount)
    (stage 5 (upA (fun x => (lset [(Reg.CHE_SPEC_CFG.MAX_DEPTH, 4), (Reg.CHE_SPEC_STAT.PROPOSED, 1)] x).modEng (fun e =>
      { e with wCount := 64, wSlack := some 900000 }))))) 5 .A) := by
  refine ⟨?_, ?_⟩ <;> decide +kernel

theorem test_meets_StagingAndInjection :
    ((fun tm l c n k => Meets tm (.candidateStaged tm l k)
    (fun u => let b := Sparse.get ({} : Bank) (u.lane l).eng.banks k
      u.adopted l = some c ∧ (u.lane l).specTask = some n ∧ k < 4 ∧ b.empty = false ∧ b.sealed = true ∧ b.staged = false ∧
      (u.lane l).eng.winOpen = true ∧ (u.comp c).tcorr ≤ (u.lane l).eng.deadline)
    (stage 5 (upA (fun x => (lset [(Reg.CHE_TASK_CFG.SPEC 0, 1)] x).modEng (fun e =>
      { e with winOpen := true, deadline := 1000000, banks := Sparse.set {} [] 1 { empty := false, sealed := true } })))))
      5 .A .CA 0 1) ∧
    ((fun tm l => Meets tm (.stagingDeadline tm l)
    (fun u => (u.lane l).eng.winOpen = true ∧ (u.lane l).eng.deadline ≤ (u.laneTime l).1)
    (stage 5 (upA (fun x => x.modEng (fun e =>
      { e with winOpen := true, deadline := 1000000, banks := Sparse.set {} (Sparse.set {} [] 1 { empty := false, sealed := true }) 2 { empty := false, staged := true } }))))) 5 .A) ∧
    ((fun tm l => Meets tm (.periodicInjection tm l true)
    (fun u => let x := u.lane l
      x.powered = true ∧ x.flag Reg.CHX_CFG.INJ_EN = true ∧ x.isSplit = false ∧ x.eng.h0.run = none ∧ x.eng.inRun = false ∧
      0 < x.rd Reg.CHX_CFG.INJ_PERIOD ∧ x.rd Reg.CHX_CFG.INJ_PERIOD ≤ x.eng.injCnt)
    (stage 5 (upA (fun x => (lset [(Reg.CHX_CFG.INJ_EN, 1), (Reg.CHX_CFG.INJ_PERIOD, 3)] x).modEng (fun e =>
      { e with injCnt := 3, injNext := 63 }))))) 5 .A) ∧
    ((fun tm l => Meets tm (.periodicInjection tm l false)
    (fun u => let x := u.lane l
      x.powered = true ∧ x.flag Reg.CHX_CFG.INJ_EN = true ∧ x.isSplit = false ∧ x.eng.h0.run = none ∧ x.eng.inRun = false ∧
      0 < x.rd Reg.CHX_CFG.INJ_PERIOD ∧ x.rd Reg.CHX_CFG.INJ_PERIOD ≤ x.eng.injCnt)
    (stage 5 (upA (fun x => (lset [(Reg.CHX_CFG.INJ_EN, 1), (Reg.CHX_CFG.INJ_PERIOD, 3)] x).modEng (fun e =>
      { e with injCnt := 3, injNext := 63 }))))) 5 .A) := by
  refine ⟨?_, ?_, ?_, ?_⟩ <;> decide +kernel

theorem test_meets_CentresAndReloads :
    ((fun tm c b o tC => Meets tm (.pwmCentre tm c b o)
    (fun u => (u.comp c).centreAt b (u.comp c).tcorr = some tC ∧ u.pwmRuns c b = true ∧ ((u.comp c).bridge b).lastC < tC)
    (stage 5 (upCA (fun x =>
      { x.modBridge false (fun y => { y with limNow := true }) with lower := { x.lower with slew := 200 } })))) 5 .CA false
      centreObs 1000000) ∧
    ((fun tm c b pt => Meets tm (.pwmReload tm c b)
    (fun u => (u.comp c).reloadPoint b (u.comp c).tcorr = some pt ∧ u.pwmRuns c b = true ∧
      ((u.comp c).bridge b).reloadAt < pt)
    (stage 5 (upCA (fun x => x.modBridge false (fun y => { y with held := onBlock, fresh := true, meantFor := 995000 })))))
      5 .CA false 1000000) := by
  refine ⟨?_, ?_⟩ <;> decide +kernel

theorem test_meets_BridgeFaults :
    ((fun tm c b drv vds => Meets tm (.desat tm c b ⟨drv, vds⟩)
    (fun u => u.vdsChecked c b drv = true ∧ drv < 6 ∧ (u.comp c).rd (Reg.GDV_CFG.VDS_TH (bit b)) * 100 < vds ∧
      (((u.comp c).bridge b).recentFaults (u.comp c).tcorr).length < 2)
    (stage 5 (upCA drives))) 5 .CA false 3 70000) ∧
    ((fun tm c b fast => Meets tm (.hwOc tm c b fast)
    (fun u => (u.comp c).powered = true ∧ (u.comp c).flag (Reg.GDV_STAT.HWOC (bit b)) = false ∧
      (u.comp c).lockedOut b = false ∧
      (∃ p < 3, (u.comp c).rd (Reg.GDV_CFG.HW_OC (bit b)) * 16 < ((u.comp c).fastOf b fast p).natAbs) ∧
      (((u.comp c).bridge b).recentFaults (u.comp c).tcorr).length < 2)
    (stage 5 (upCA drives))) 5 .CA false [-32768, 0, 0]) ∧
    ((fun tm c b fast => Meets tm (.hwOc tm c b fast)
    (fun u => (u.comp c).powered = true ∧ (u.comp c).flag (Reg.GDV_STAT.HWOC (bit b)) = false ∧
      (u.comp c).lockedOut b = false ∧
      (∃ p < 3, (u.comp c).rd (Reg.GDV_CFG.HW_OC (bit b)) * 16 < ((u.comp c).fastOf b fast p).natAbs) ∧
      2 ≤ (((u.comp c).bridge b).recentFaults (u.comp c).tcorr).length ∧
      (u.comp c).flag (Reg.PWM_CFG.EN (bit !b)) = true ∧ (u.comp c).lockedOut (!b) = false)
    (stage 1000 (upCA (fun x => (drives x).modBridge false (fun y => { y with faults := [999500, 999000] }))))) 1000 .CA false [0, -32768, 0]) ∧
    ((fun tm c b fast => Meets tm (.currentLimit tm c b fast)
    (fun u => u.driving c b = true ∧
      ∃ p < 3, min ((u.comp c).bridge b).live.iLimit ((u.comp c).bridge b).iCap * 16 < ((u.comp c).fastOf b fast p).natAbs)
    (stage 5 (upCA drives))) 5 .CA false [0, -301, 0]) ∧
    ((fun tm c b => Meets tm (.latchedFaultClear tm c b)
    (fun u => (u.comp c).powered = true ∧ (u.comp c).lockedOut b = false ∧ (u.driver c).isSome = true ∧
      (u.mayClear c b .desat = true ∨ u.mayClear c b .hwoc = true))
    (stage 1000005 (upCA (fun x => (cset [(Reg.GDV_STAT.DESAT 0, 1)] x).modBridge false (fun y => { y with setDesat := 5 }))))) 1000005 .CA false) ∧
    ((fun tm c b desat hwoc => Meets tm (.drvFaultClear tm c b desat hwoc)
    (fun u => (u.comp c).powered = true ∧ ((desat && u.mayClear c b .desat) || (hwoc && u.mayClear c b .hwoc)) = true)
    (stage 1000005 (upCA (fun x => (cset [(Reg.GDV_STAT.HWOC 1, 1), (Reg.GDV_STAT.DESAT 1, 1)] x).modBridge true (fun y =>
      { y with setHwoc := 5, setDesat := 6 }))))) 1000005 .CA true false true) ∧
    ((fun tm c b desat hwoc => Meets tm (.drvFaultClear tm c b desat hwoc)
    (fun u => ((desat && u.mayClear c b .desat) || (hwoc && u.mayClear c b .hwoc)) = false)
    (stage 1000004 (upCA (fun x => (cset [(Reg.GDV_STAT.HWOC 1, 1)] x).modBridge true (fun y => { y with setHwoc := 5 }))))) 1000004 .CA true false true) ∧
    ((fun tm c b drv vds => Meets tm (.desat tm c b ⟨drv, vds⟩)
    (fun u => u.vdsChecked c b drv = false ∨ vds ≤ (u.comp c).rd (Reg.GDV_CFG.VDS_TH (bit b)) * 100)
    (stage 5 (upCA drives))) 5 .CA false 2 70000) ∧
    ((fun tm c b fast => Meets tm (.hwOc tm c b fast)
    (fun u => ∀ p < 3, ((u.comp c).fastOf b fast p).natAbs ≤ (u.comp c).rd (Reg.GDV_CFG.HW_OC (bit b)) * 16)
    (stage 5 (upCA drives))) 5 .CA false [0, 0, 0]) := by
  refine ⟨?_, ?_, ?_, ?_, ?_, ?_, ?_, ?_, ?_⟩ <;> decide +kernel

theorem test_meets_DriveSupplies :
    ((fun tm c => Meets tm (.vdrvUndervoltage tm c)
    (fun u => (u.comp c).powered = true)
    (stage 5 (upCA drives))) 5 .CA) ∧
    ((fun tm c b above => Meets tm (.vbrOutOfLimits tm c b above)
    (fun u => (u.comp c).powered = true)
    (stage 5 (upCA drives))) 5 .CA false true) ∧
    ((fun tm c => Meets tm (.driveSupplyReturn tm c true true true)
    (fun u => (u.comp c).powered = true)
    (stage 5 (upCA (fun x => cset [(Reg.GDV_STAT.VDRV_UV 0, 1), (Reg.GDV_STAT.VBR_OV 0, 1)] (drives x))))) 5 .CA) ∧
    ((fun tm c vdrv v1 v2 => Meets tm (.driveSupplyReturn tm c vdrv v1 v2)
    (fun u => (u.comp c).powered = true)
    (stage 5 (upCA (fun x => cset [(Reg.GDV_STAT.VDRV_UV 0, 1), (Reg.GDV_STAT.VBR_UV 0, 1), (Reg.GDV_STAT.VBR_UV 1, 1)]
      (drives x))))) 5 .CA true false true) ∧
    ((fun tm c b drv => Meets tm (.gateTimeout tm c b drv)
    (fun u => u.gateLate c b drv = true ∧ drv < 6)
    (stage 5 (upCA drives))) 5 .CA false 5) ∧
    ((fun tm c b drv => Meets tm (.gateTimeout tm c b drv)
    (fun u => u.gateLate c b drv = false)
    (stage 5 up)) 5 .CA false 5) := by
  refine ⟨?_, ?_, ?_, ?_, ?_, ?_⟩ <;> decide +kernel

theorem test_meets_HandoverSteps :
    ((fun tm c => Meets tm (.holdExpiry tm c)
    (fun u => let x := u.comp c
      x.powered = true ∧ x.sw = .opened ∧ x.hoRun = true ∧ x.holdExp = false ∧ x.openAt + 2 * x.period false ≤ u.clk)
    (stage 10005 (upCA (fun x => { x with sw := .opened, hoRun := true, openAt := 5 })))) 10005 .CA) ∧
    ((fun tm c r tX => Meets tm (.switchOpen tm c)
    (fun u => let x := u.comp c
      u.wit.bring = some r ∧ r.tX = some tX ∧ r.target = some c ∧ r.opened = false ∧ u.wit.powered = true ∧ x.powered = true ∧
      x.sw = .primary ∧ tX + 30 ≤ x.clkOf u.clk x.b0.lastC)
    (stage 50 ((upCA (fun x => drives (x.modBridge false (fun y => { y with lastC := 1000000 })))).modWit (fun w =>
      { w with bring := some { target := some .CA, tL := 0, masterAt := 0, tX := some 5 } })))) 50 .CA
      ({ target := some .CA, tL := 0, masterAt := 0, tX := some 5 }) 5) ∧
    ((fun tm c r => Meets tm ((Instr.switchOpen tm c, 8)).1
    (fun u => u.wit.bring = some r ∧ r.tX = none ∧ r.target = some c ∧ u.wit.powered = true)
    (stage 50 (upW (fun w => { w with bring := some { target := some .CA, tL := 0, masterAt := 0 } })))) 50 .CA
      ({ target := some .CA, tL := 0, masterAt := 0 })) ∧
    ((fun tm c r => Meets tm (.switchSpare tm c)
    (fun u => let x := u.comp c
      u.wit.bring = some r ∧ r.tX.isSome = true ∧ r.target = some c ∧ r.opened = true ∧ u.wit.powered = true ∧
        x.powered = true ∧
      x.sw = .opened ∧ x.hoRun = true)
    (stage 50 (({ up with lD := { upLane with st := .spareWaking } } : Dev).modComp .CA (fun x =>
      { cset [(Reg.CMPS_SW.POS, 2)] x with sw := .opened, hoRun := true, openAt := 5 }) |>.modWit (fun w =>
      { w with bring := some { target := some .CA, tL := 0, masterAt := 0, tX := some 5, opened := true } })))) 50 .CA
      ({ target := some .CA, tL := 0, masterAt := 0, tX := some 5, opened := true })) ∧
    ((fun tm c b t => Meets tm (.joinEnd tm c b)
    (fun u => let x := u.comp c
      x.powered = true ∧ u.wit.powered = true ∧ (x.bridge b).joining = true ∧ (x.bridge b).joinRel = some t ∧
      x.period b ≠ 0 ∧ (t + 30 ≤ x.nextCentre b t ∨ x.nextCentre b t ≤ x.tcorr))
    (stage 50 (upCA (fun x => x.modBridge false (fun y => { y with joining := true, joinRel := some 999000 })))))
      50 .CA false 999000) ∧
    ((fun tm c => Meets tm (.switchHandshakeResume tm c)
    (fun u => u.wit.powered = true ∧ (u.comp c).powered = true ∧ (u.comp c).handshake = true)
    (stage 50 ((upW (wset [(Reg.WIT_SW.POS 0, 2), (Reg.WIT_SW.QUAR 0, 1)])).modComp .CA (fun x => { x with handshake := true })))) 50 .CA) ∧
    ((fun tm c => Meets tm (.switchHandshakeResume tm c)
    (fun u => (u.comp c).handshake = false)
    (stage 50 up)) 50 .CA) := by
  refine ⟨?_, ?_, ?_, ?_, ?_, ?_, ?_⟩ <;> decide +kernel

theorem test_meets_FrontEndFaults :
    ((fun tm c m sp => (m < 6) ∧ Meets tm (.modulatorFail tm c m)
    (fun u => (u.comp c).powered = true ∧ (u.comp c).modGood m = true ∧ (u.comp c).freeSpare = some sp)
    (stage 50 (upCA (fun x => { x with front := { x.front with calibrated := true } })))) 50 .CA 3 0) ∧
    ((fun tm c m => (m < 6) ∧ Meets tm (.modulatorFail tm c m)
    (fun u => (u.comp c).powered = true ∧ (u.comp c).modGood m = true ∧ (u.comp c).freeSpare = none ∧
      (u.comp c).rd (subFld 0) ≠ m ∧ (u.comp c).rd (subFld 1) ≠ m ∧
      ∀ p < 6, p ≠ m → (u.comp c).server p ≠ none)
    (stage 50 (upCA (cset [(Reg.MFE_STAT.SPARE_FAIL 0, 1), (Reg.MFE_STAT.SPARE_FAIL 1, 1)])))) 50 .CA 3) ∧
    ((fun tm c sp => (sp < 2) ∧ Meets tm (.modulatorFail tm c (6 + sp))
    (fun u => (u.comp c).powered = true ∧ (u.comp c).modGood (6 + sp) = true ∧ (u.comp c).rd (subFld sp) = 15)
    (stage 50 up)) 50 .CA 1) ∧
    ((fun tm c sp => (sp < 2) ∧ Meets tm (.spareSettled tm c sp)
    (fun u => let y := (u.comp c).front.mod (6 + sp)
      (u.comp c).powered = true ∧ y.settling = true ∧ y.since + 5 * (3 * (u.comp c).decim - 2) ≤ u.clk)
    (stage 5000 (upCA (fun x => x.modMod 7 (fun y => { y with settling := true, since := 5 }))))) 5000 .CA 1) ∧
    ((fun tm c b f => Meets tm (.sumCheckFail tm c b f)
    (fun u => (u.comp c).powered = true ∧ 4 ≤ ((u.comp c).bridge b).sumRun ∧ (u.comp c).flag (sumFld b) = false)
    (stage 50 (upCA (fun x => x.modBridge false (fun y => { y with sumRun := 4 }))))) 50 .CA false 1) ∧
    ((fun tm c sp f => (sp < 2) ∧ Meets tm (.spareShadowRotate tm c sp f)
    (fun u => let x := u.comp c
      x.powered = true ∧ x.flag (Reg.MFE_STAT.SPARE_FAIL sp) = false ∧ x.rd (subFld sp) = 15 ∧ x.isolates sp = false ∧
      x.front.calibrated = true ∧ (x.rd (shadowFld sp) = 15 ∨ 256 ≤ Sparse.get 0 x.front.shadowN sp))
    (stage 50 (upCA (fun x => { x with front := { x.front with calibrated := true } })))) 50 .CA 0 5) ∧
    ((fun tm c t0 t1 a => (-880 ≤ t0) ∧ (t0 ≤ 2800) ∧ (-880 ≤ t1) ∧ (t1 ≤ 2800) ∧ Meets tm (.tempDisagree tm c t0 t1)
    (fun u => (u.comp c).powered = true ∧ (u.comp c).front.tempAt = some a ∧ (u.comp c).front.tDis = false)
    (stage 1000050 (upCA (fun x => { x with front := { x.front with tempAt := some 50 } })))) 1000050 .CA (-880) 2800 50) ∧
    ((fun tm c k => (k < 2) ∧ Meets tm (.bridgeSensorOpen tm c k)
    (fun u => (u.comp c).powered = true ∧ (u.comp c).flag (Reg.MFE_VCFG.BRS_EN k) = true ∧
      Sparse.get false (u.comp c).front.brsOpen k = false)
    (stage 50 (upCA (cset [(Reg.MFE_VCFG.BRS_EN 1, 1)])))) 50 .CA 1) ∧
    ((fun tm c t0 t1 => (-880 ≤ t0) ∧ (t0 ≤ 2800) ∧ (-880 ≤ t1) ∧ (t1 ≤ 2800) ∧ ((t0 - t1).natAbs ≤ 96) ∧ Meets tm (.tempDisagree tm c t0 t1)
    (fun u => (u.comp c).powered = true)
    (stage 50 up)) 50 .CA 5 (-91)) ∧
    ((fun tm c t0 t1 => ((t0 < -880 ∨ 2800 < t0)) ∧ ((t1 < -880 ∨ 2800 < t1)) ∧ Meets tm (.tempDisagree tm c t0 t1)
    (fun u => (u.comp c).powered = true ∧ (u.comp c).front.tUnk = false)
    (stage 50 up)) 50 .CA (-881) 2801) := by
  refine ⟨?_, ?_, ?_, ?_, ?_, ?_, ?_, ?_, ?_, ?_⟩ <;> decide +kernel

theorem test_meets_SensorsAndTracks :
    ((fun tm c n m ns => (n < 4) ∧ Meets tm (.sentMessage tm c n m)
    (fun u => let x := u.comp c
      x.powered = true ∧ x.running = true ∧ x.flag (Reg.SNT_CFG.EN n) = true ∧ x.flag (Reg.SNT_CFG.ESM n) = false ∧
      x.sentVerdict n m = .inr ns)
    (stage 50 (upCA (cset [(Reg.SNT_CFG.EN 0, 1), (Reg.SNT_CFG.NIB 0, 3)])))) 50 .CA 0
      { cal := 16800, nibs := [3900, 6300, 5700, 5100, 3900], pause := some 24000 } [1, 9, 7, 5, 1]) ∧
    ((fun tm c n m kind => (n < 4) ∧ (kind < 4) ∧ Meets tm (.sentMessage tm c n m)
    (fun u => let x := u.comp c
      x.powered = true ∧ x.running = true ∧ x.flag (Reg.SNT_CFG.EN n) = true ∧ x.sentVerdict n m = .inl kind)
    (stage 50 (upCA (cset [(Reg.SNT_CFG.EN 0, 1)])))) 50 .CA 0 { cal := 56, nibs := [0, 1, 2, 3, 4], pause := none } 2) ∧
    ((fun tm c n => (n < 4) ∧ Meets tm (.sentStale tm c n)
    (fun u => let x := u.comp c
      x.powered = true ∧ x.flag (Reg.SNT_STAT.VALID n) = true ∧
      (x.sentCh n).lastAt + x.rd (Reg.SNT_CFG.STALE n) * 100000 ≤ u.clk ∧ ∀ b, x.rd (Reg.POS_CFG.ABS (bit b)) ≠ n + 4)
    (stage 900000000 (upCA (cset [(Reg.SNT_STAT.VALID 3, 1)])))) 900000000 .CA 3) ∧
    ((fun tm c k o b => (k < 3) ∧ Meets tm (.positionSample tm c k o)
    (fun u => let x := u.comp c
        let t := x.track k
        x.powered = true ∧ x.running = true ∧ x.flag (Reg.POS_TRK_STAT.FAIL k) = false ∧ x.incIs b k = true ∧
        x.posFault b = false ∧ (x.chan b).started = true ∧ (x.chan b).absMode = false ∧ t.started = true ∧ t.check = none ∧
        t.jump = false ∧ t.badRun < 4 ∧ (angleStep t.angle (lineAngle ((x.track k).correct (x.rd (Reg.POS_TRK_STAT.AMPL k) * 1000) (o.sin, o.cos)))).natAbs ≤ 512)
    (stage 50 (upCA (fun x => ((cset [(Reg.POS_CFG.EN 0, 1), (Reg.POS_CFG.INC 0, 1), (Reg.POS_CFG.DIR 0, 1)] x).modChan false
      (fun p => { p with started := true, pos := 7 })).modTrack 1 (fun t => { t with started := true, angle := 4000 }))))) 50 .CA 1 { sin := 0, cos := 400000, spare := none, extrema := none } false) ∧
    ((fun tm c k => (k < 3) ∧ Meets tm (.signalWarning tm c k)
    (fun u => (u.comp c).powered = true ∧ 16 ≤ ((u.comp c).track k).warnRun ∧ (u.comp c).flag (Reg.POS_TRK_STAT.SIG_WARN k)
      = false)
    (stage 50 (upCA (fun x => ((cset [(Reg.POS_CFG.EN 0, 1), (Reg.POS_CFG.INC 0, 1), (Reg.POS_CFG.DIR 0, 0)] x).modChan false
      (fun p => { p with started := true, pos := 7 })).modTrack 1 (fun t =>
      { t with started := true, angle := 4000, warnRun := 16 }))))) 50 .CA 1) ∧
    ((fun tm c k => (k < 3) ∧ Meets tm (.trackCheckStart tm c k)
    (fun u => let t := (u.comp c).track k
      (u.comp c).powered = true ∧ (u.comp c).flag (Reg.POS_TRK_STAT.FAIL k) = false ∧ t.check = none ∧
      (t.jump = true ∨ 4 ≤ t.badRun))
    (stage 50 (upCA (fun x => ((cset [(Reg.POS_CFG.EN 0, 1), (Reg.POS_CFG.INC 0, 1), (Reg.POS_CFG.DIR 0, 0)] x).modChan false
      (fun p => { p with started := true, pos := 7 })).modTrack 1 (fun t =>
      { t with started := true, angle := 4000, jump := true }))))) 50 .CA 1) ∧
    ((fun tm c k b => (k < 3) ∧ Meets tm (.trackCheckEnd tm c k b)
    (fun u => (u.comp c).powered = true ∧ ((u.comp c).track k).check = some 0)
    (stage 50 (upCA (fun x => ((cset [(Reg.POS_CFG.EN 0, 1), (Reg.POS_CFG.INC 0, 1), (Reg.POS_CFG.DIR 0, 0)] x).modChan false
      (fun p => { p with started := true, pos := 7 })).modTrack 1 (fun t =>
      { t with started := true, angle := 4000, check := some 0 }))))) 50 .CA 1 true) ∧
    ((fun tm c f n => Meets tm (.converterShadowStep tm c f)
    (fun u => let x := u.comp c
      let k := x.rd Reg.POS_SPARE.SHADOW
      x.powered = true ∧ x.sFree = true ∧ (k = 3 ∨ x.front.shadowT + 100000 ≤ u.clk) ∧ x.nextPair (if k = 3 then f + 2 else k) = some n)
    (stage 50 (upCA (fun x => ((cset [(Reg.POS_CFG.EN 0, 1), (Reg.POS_CFG.INC 0, 1), (Reg.POS_CFG.DIR 0, 0)] x).modChan false
      (fun p => { p with started := true, pos := 7 })).modTrack 1 (fun t => { t with started := true, angle := 4000 }))))) 50 .CA 0 1) ∧
    ((fun tm c k o b n => (k < 3) ∧ Meets tm (.positionSample tm c k o)
    (fun u => let x := u.comp c
        x.powered = true ∧ x.running = true ∧ x.flag (Reg.POS_TRK_STAT.FAIL k) = false ∧ x.incIs b k = true ∧
        (x.chan b).absMode = false ∧ (x.track k).check = some (n + 1))
    (stage 50 (upCA (fun x => ((cset [(Reg.POS_CFG.EN 0, 1), (Reg.POS_CFG.INC 0, 1), (Reg.POS_CFG.DIR 0, 1)] x).modChan false
      (fun p => { p with started := true, pos := 7 })).modTrack 1 (fun t => { t with started := true, check := some 64 }))))) 50 .CA 1 { sin := 0, cos := 400000, spare := none, extrema := none } false 63) ∧
    ((fun tm c k o w => (k < 3) ∧ (o.spare = some w) ∧ Meets tm (.positionSample tm c k o)
    (fun u => let x := u.comp c
        x.powered = true ∧ x.running = true ∧ x.flag (Reg.POS_TRK_STAT.FAIL k) = false ∧ (∀ b, x.absIs b k = false) ∧
        x.rd Reg.POS_SPARE.SHADOW = k ∧ (x.track k).check = none ∧ (x.track k).devRun = 63 ∧
        16 < (angleStep (lineAngle ((x.track k).correct (x.rd (Reg.POS_TRK_STAT.AMPL k) * 1000) (o.sin, o.cos))) (lineAngle ((x.track k).correct (x.rd (Reg.POS_TRK_STAT.AMPL k) * 1000) w))).natAbs)
    (stage 50 (upCA (fun x => (cset [(Reg.POS_SPARE.SHADOW, 1)] x).modTrack 1 (fun t => { t with started := true, devRun := 63 }))))) 50 .CA 1 { sin := 0, cos := 400000, spare := some (400000, 0), extrema := none } (400000, 0)) := by
  refine ⟨?_, ?_, ?_, ?_, ?_, ?_, ?_, ?_, ?_, ?_⟩
  · decide +kernel
  · decide +kernel
  · simp only [forall_lane, forall_comp, Bool.forall_bool]; decide +kernel
  · decide +kernel
  · decide +kernel
  · decide +kernel
  · decide +kernel
  · decide +kernel
  · decide +kernel
  · simp only [Bool.forall_bool]; decide +kernel

theorem test_meets_EncoderAndIndex :
    ((fun tm c diff a b stable q => Meets tm (.abzEdge tm c diff ⟨a, b, stable⟩)
    (fun u => let x := u.comp c
      x.abzAccepts diff stable = true ∧ x.incIs q 3 = true ∧ (x.chan q).started = true ∧ x.posFault q = false)
    (stage 50 (upCA (fun x => (cset [(Reg.POS_CFG.EN 0, 1), (Reg.POS_CFG.INC 0, 3), (Reg.POS_CFG.DIR 0, 1),
      (Reg.POS_CFG.LINES 0, 100), (Reg.POS_IDX_CFG.IDX_EN 0, 1), (Reg.POS_IDX_CFG.IDX_DEAD 0, 8),
      (Reg.POS_IDX_CFG.INDEX_TOL 0, 2)] x).modChan false (fun p => { p with started := true, pos := 7 }))))) 50 .CA true true false 100 false) ∧
    ((fun tm c diff stable q => Meets tm (.indexEdge tm ⟨c, diff, stable⟩)
    (fun u => let x := u.comp c
      x.abzAccepts diff stable = true ∧ x.posEn q = true ∧ x.posEn (!q) = false ∧ (x.chan q).started = true ∧ x.posFault q = false ∧
      x.rd (Reg.POS_CFG.INC (bit q)) = 3 ∧ x.cpr q ≠ 0 ∧ x.flag (Reg.POS_IDX_CFG.IDX_EN (bit q)) = true)
    (stage 50 (upCA (fun x => (cset [(Reg.POS_CFG.EN 0, 1), (Reg.POS_CFG.INC 0, 3), (Reg.POS_CFG.DIR 0, 0),
      (Reg.POS_CFG.LINES 0, 100), (Reg.POS_IDX_CFG.IDX_EN 0, 1), (Reg.POS_IDX_CFG.IDX_DEAD 0, 8),
      (Reg.POS_IDX_CFG.INDEX_TOL 0, 2)] x).modChan false (fun p =>
      { p with started := true, pos := 7, homed := false, misRun := 0 }))))) 50 .CA true 100 false) ∧
    ((fun tm c b => Meets tm (.indexMissing tm c b)
    (fun u => let x := u.comp c
      x.powered = true ∧ x.posEn b = true ∧ (x.chan b).homed = true ∧ x.flag (Reg.POS_IDX_CFG.IDX_EN (bit b)) = true ∧
      x.posFault b = false ∧ (x.chan b).misRun < 2 ∧ x.cpr b + x.rd (Reg.POS_IDX_CFG.INDEX_TOL (bit b)) * x.lineK b <
        ((x.chan b).pos - (x.chan b).idxFrom).natAbs)
    (stage 50 (upCA (fun x => (cset [(Reg.POS_CFG.EN 0, 1), (Reg.POS_CFG.INC 0, 3), (Reg.POS_CFG.DIR 0, 0),
      (Reg.POS_CFG.LINES 0, 100), (Reg.POS_IDX_CFG.IDX_EN 0, 1), (Reg.POS_IDX_CFG.IDX_DEAD 0, 8),
      (Reg.POS_IDX_CFG.INDEX_TOL 0, 2)] x).modChan false (fun p => { p with started := true, pos := 409, homed := true })))))
      50 .CA false) ∧
    ((fun tm c p rising edge stable => (p < 2) ∧ Meets tm (.probeEdge tm c p rising ⟨edge, stable⟩)
    (fun u => let x := u.comp c
      x.powered = true ∧ x.running = true ∧ x.rd (Reg.POS_PRB_CFG.FILT p) ≤ stable ∧ x.flag (Reg.POS_PRB_CFG.EN p) = true ∧ hasBit (x.rd (Reg.POS_PRB_CFG.EDGE p)) (if rising then 0 else 1) = true)
    (stage 50 (upCA (fun x => cset [(Reg.POS_PRB_CFG.EN 1, 1), (Reg.POS_PRB_CFG.EDGE 1, 1)] ((fun x => (cset
      [(Reg.POS_CFG.EN 0, 1), (Reg.POS_CFG.INC 0, 3), (Reg.POS_CFG.DIR 0, 0), (Reg.POS_CFG.LINES 0, 100),
      (Reg.POS_IDX_CFG.IDX_EN 0, 1), (Reg.POS_IDX_CFG.IDX_DEAD 0, 8), (Reg.POS_IDX_CFG.INDEX_TOL 0, 2)] x).modChan false
      (fun p => { p with started := true, pos := 9, homed := true, t0 := 990, t1 := 1000, c0 := 3, c1 := 13 })) x))))) 50 .CA 1 true 999 100) ∧
    ((fun tm c b => Meets tm (.speedWindowEnd tm c b)
    (fun u => let x := u.comp c
      x.powered = true ∧ x.posEn b = true ∧ (x.chan b).started = true ∧ 1 ≤ (x.chan b).winN ∧
      x.rd (Reg.POS_SPD_CFG.SPD_N (bit b)) ≤ (x.chan b).winN ∧ (x.chan b).winSw = false ∧ x.posState b ≠ 4 ∧
      (x.chan b).quiet = false ∧ ((x.chan b).countAt (x.chan b).latch - (x.chan b).winPos).natAbs < 2 ^ 31)
    (stage 50 (upCA (fun x => (cset [(Reg.POS_CFG.EN 0, 1), (Reg.POS_CFG.INC 0, 3), (Reg.POS_CFG.DIR 0, 0),
      (Reg.POS_CFG.LINES 0, 100), (Reg.POS_IDX_CFG.IDX_EN 0, 1), (Reg.POS_IDX_CFG.IDX_DEAD 0, 8),
      (Reg.POS_IDX_CFG.INDEX_TOL 0, 2)] x).modChan false (fun p =>
      { p with started := true, pos := 409, homed := true, winN := 2000, winPos := 9, quiet := false }))))) 50 .CA false) ∧
    ((fun tm c b => Meets tm (.plausibilityFail tm c b)
    (fun u => let x := u.comp c
      x.powered = true ∧ x.posEn b = true ∧ 1 ≤ (x.chan b).plausRun ∧
      x.rd (Reg.POS_ABS_CFG.PLAUS_N (bit b)) ≤ (x.chan b).plausRun ∧ x.flag (Reg.POS_STAT.DBT_PLAUS (bit b)) = false)
    (stage 50 (upCA (fun x => (cset [(Reg.POS_CFG.EN 0, 1), (Reg.POS_CFG.INC 0, 3), (Reg.POS_CFG.DIR 0, 0),
      (Reg.POS_CFG.LINES 0, 100), (Reg.POS_IDX_CFG.IDX_EN 0, 1), (Reg.POS_IDX_CFG.IDX_DEAD 0, 8),
      (Reg.POS_IDX_CFG.INDEX_TOL 0, 2)] x).modChan false (fun p => { p with started := true, plausRun := 200 })))))
      50 .CA false) ∧
    ((fun tm c diff a b stable => Meets tm (.abzEdge tm c diff ⟨a, b, stable⟩)
    (fun u => (u.comp c).abzAccepts diff stable = false)
    (stage 50 up)) 50 .CA false true false 100) := by
  refine ⟨?_, ?_, ?_, ?_, ?_, ?_, ?_⟩ <;> decide +kernel

theorem test_meets_SafetyInputsAndBrakes :
    ((fun tm c A B => Meets tm (.sioTick tm c A B)
    (fun u => (u.comp c).powered = true ∧ (u.comp c).running = true ∧ (u.comp c).sioTime < (u.comp c).tcorr / 25000 * 25000)
    (stage 50 (upCA (fun x =>
      { cset [(Reg.SIO_IN_CFG.EN 0, 1), (Reg.SIO_IN_CFG.EN 7, 1), (Reg.SIO_IN_CFG.DT 7, 1), (Reg.SIO_IN_CFG.POL_B 7, 1), (Reg.SIO_IN_CFG.EN 3, 1), (Reg.SIO_IN_CFG.MODE 3, 1), (Reg.SIO_IN_CFG.DT 3, 9)] x with sioTime := 975000, sio := Sparse.set {} [] 7 { t1 := some 900000 } })))) 50 .CA 9 1) ∧
    ((fun tm c j p => (j < 2) ∧ Meets tm (.pullInEnd tm c j)
    (fun u => let x := u.comp c
      x.powered = true ∧ (x.out j).pullAt = some p ∧ p + x.rd (Reg.SBC_CFG.PULL j) * 100000 ≤ u.clk)
    (stage 100050 (upCA (fun x => (cset [(Reg.SBC_CFG.EN 1, 1), (Reg.SBC_CFG.PULL 1, 1), (Reg.SBC_TEST_CFG.DARK_EN, 1)]
      x).modOut 1 (fun o => { o with state := 2, req := 2, pullAt := some 50 }))))) 100050 .CA 1 50) ∧
    ((fun tm c j => (j < 2) ∧ Meets tm (.darkTestStart tm c j)
    (fun u => let x := u.comp c
      x.powered = true ∧ x.flag Reg.SBC_TEST_CFG.DARK_EN = true ∧ (x.out j).state ≠ 0 ∧ (x.out 0).dark = none ∧
      (x.out 1).dark = none ∧ (x.hoRun = false ∨ x.holdExp = true) ∧ (x.out j).darkAt + x.rd Reg.SBC_TEST_CFG.PERIOD * 1000000 ≤ u.clk)
    (stage 900000000000 (upCA (fun x => (cset [(Reg.SBC_CFG.EN 1, 1), (Reg.SBC_CFG.PULL 1, 1), (Reg.SBC_TEST_CFG.DARK_EN, 1)]
      x).modOut 1 (fun o => { o with state := 2, req := 2, chopping := true }))))) 900000000000 .CA 1) ∧
    ((fun tm c j pass side => (j < 2) ∧ (side < 2) ∧ Meets tm (.darkTestEnd tm c j pass)
    (fun u => let x := u.comp c
      x.powered = true ∧ (x.out j).dark = some side ∧ (x.out j).darkAt + x.rd Reg.SBC_TEST_CFG.TEST_US * 100 ≤ u.clk ∧
      x.flag (Reg.SBC_STAT.FAULT j) = false)
    (stage 900000000 (upCA (fun x => (cset [(Reg.SBC_CFG.EN 1, 1), (Reg.SBC_CFG.PULL 1, 1), (Reg.SBC_TEST_CFG.DARK_EN, 1)]
      x).modOut 1 (fun o => { o with state := 2, req := 2, dark := some 1 }))))) 900000000 .CA 1 true 1) ∧
    ((fun tm c j cur => (j < 2) ∧ Meets tm (.sbcOvercurrent tm c j cur)
    (fun u => (u.comp c).powered = true ∧ (u.comp c).flag (Reg.SBC_STAT.FAULT j) = false)
    (stage 50 (upCA (fun x => (cset [(Reg.SBC_CFG.EN 1, 1), (Reg.SBC_CFG.PULL 1, 1), (Reg.SBC_TEST_CFG.DARK_EN, 1)]
      x).modOut 1 (fun o => { o with state := 2, req := 2 }))))) 50 .CA 1 3001) ∧
    ((fun tm c j kind cur => (j < 2) ∧ Meets tm (.sbcFaultDetect tm c j kind cur)
    (fun u => let x := u.comp c
      x.powered = true ∧ x.flag (Reg.SBC_STAT.FAULT j) = false ∧
      (((kind = 1 ∨ kind = 2) ∧ (x.out j).state = 0 ∧ (x.out j).appAt + 100000 ≤ u.clk) ∨
        (kind = 3 ∧ (x.out j).state ≠ 0 ∧ (x.out j).dark ≠ some 0 ∧ (x.out j).onAt + 10000 ≤ u.clk) ∨
        (kind = 4 ∧ (x.out j).state ≠ 0 ∧ (x.out j).dark ≠ some 1 ∧ (x.out j).onAt + 10000 ≤ u.clk) ∨
        (kind = 5 ∧ ((x.out j).state = 1 ∨ (x.out j).chopping = true) ∧ (x.out j).relAt + 1000000 ≤ u.clk ∧
          cur < x.rd (Reg.SBC_CFG.OPEN_TH j) * 10)))
    (stage 100050 (upCA (fun x => (cset [(Reg.SBC_CFG.EN 1, 1), (Reg.SBC_CFG.PULL 1, 1), (Reg.SBC_TEST_CFG.DARK_EN, 1)]
      x).modOut 1 (fun o => { o with state := 0, appAt := 50 }))))) 100050 .CA 1 2 5000) ∧
    ((fun tm c low => Meets tm (.sbcSupplyLoss tm c low)
    (fun u => (u.comp c).powered = true)
    (stage 50 up)) 50 .CA true) := by
  refine ⟨?_, ?_, ?_, ?_, ?_, ?_, ?_⟩ <;> decide +kernel

theorem test_meets_SetpointAnswers :
    ((fun tm c f l h n i => Meets tm (.setpointFrame tm c f)
    (fun u => let b := h.payload ++ List.replicate 12 0
      u.Hears c f l h kTtData ∧ (u.lane l).fphase = phActive ∧ u.inSetpoint c f = true ∧
      (u.acceptTt c l f h).2 = .accepted n i true ∧ u.adopted l = some c ∧
      (u.comp c).lower.legal.contains (beNat (slice b 0 1)) = false)
    (stage 5 (fabUp 5 (id) (id)))) 5 .CA (frameOf 1 40 0 10 false (setpoint 4 0x500000007))  .A  (hdrOf 1 40 0 10 false
      (setpoint 4 0x500000007))  10 0) ∧
    ((fun tm c f l h n i => Meets tm (.setpointFrame tm c f)
    (fun u => let b := h.payload ++ List.replicate 12 0
      u.Hears c f l h kTtData ∧ (u.lane l).fphase = phActive ∧ u.inSetpoint c f = true ∧
      (u.acceptTt c l f h).2 = .accepted n i true ∧ u.adopted l = some c ∧ n = (u.lane l).fab.cycle ∧
      (u.comp c).lower.legal.contains (beNat (slice b 0 1)) = true ∧
      pickCand (u.comp c).lower.candVal (u.comp c).lower.candDepth ((u.lane l).rd Reg.CHE_SPEC_SNAP.SNAP)
        (BitVec.ofNat 64 (beNat (slice b 4 8))) = none)
    (stage 5 (fabUp 5 (id) (id)))) 5 .CA (frameOf 1 40 0 10 false (setpoint 3 0x500000007))  .A  (hdrOf 1 40 0 10 false
      (setpoint 3 0x500000007))  10 0) ∧
    ((fun tm c f l h n i k cv => (k < 4) ∧ Meets tm (.setpointFrame tm c f)
    (fun u => let b := h.payload ++ List.replicate 12 0
      u.Hears c f l h kTtData ∧ (u.lane l).fphase = phActive ∧ u.inSetpoint c f = true ∧
      (u.acceptTt c l f h).2 = .accepted n i true ∧ u.adopted l = some c ∧ n = (u.lane l).fab.cycle ∧
      (u.comp c).lower.legal.contains (beNat (slice b 0 1)) = true ∧
      pickCand (u.comp c).lower.candVal (u.comp c).lower.candDepth ((u.lane l).rd Reg.CHE_SPEC_SNAP.SNAP)
        (BitVec.ofNat 64 (beNat (slice b 4 8))) = some (k, cv))
    (stage 5 (fabUp 5 (lset [(Reg.CHE_SPEC_SNAP.SNAP, 4)]) ((fun x =>
      { x with lower := { x.lower with candVal := [(0, 0x500000005), (2, 0x500000006)], candDepth := 3 } }))))) 5 .CA
      (frameOf 1 40 0 10 false (setpoint 3 0x500000007))  .A  (hdrOf 1 40 0 10 false (setpoint 3 0x500000007))
       10 0 2 0x500000006) ∧
    ((fun tm c l i => Meets tm (.setpointMiss tm c)
    (fun u => u.nodeLane c = some l ∧ (u.comp c).setpointSlot (u.lane l) = some i ∧ (u.lane l).fab.spOver = false ∧
      (u.lane l).fab.cycle * (u.lane l).cycleLen + (u.comp c).slotStart (i + 1) ≤ (u.comp c).tcorr)
    (stage 5 (fabUp 5 (id) (fun x => { x with ticks := 1000400 })))) 5 .CA .A 0) := by
  refine ⟨?_, ?_, ?_, ?_⟩
  · unfold Dev.Hears; decide +kernel
  · unfold Dev.Hears; decide +kernel
  · unfold Dev.Hears; decide +kernel
  · decide +kernel

theorem test_meets_FabricSend :
    ((fun tm c l => Meets tm (.cycleStart tm c)
    (fun u => u.nodeLane c = some l ∧ (u.comp c).running = true ∧ (u.lane l).cycleLen ≠ 0 ∧
      (u.lane l).fab.cycle < (u.comp c).tcorr / (u.lane l).cycleLen ∧ (u.lane l).flag Reg.RDN_STAT.UNLINKED = false)
    (stage 5 (fabUp 5 ((fun x => x.modFab (fun g => { g with cycle := 9, heard := [40, 41] }))) (id)))) 5 .CA .A) ∧
    ((fun tm c l slot items => Meets tm (.txSlot tm c slot items)
    (fun u => u.nodeLane c = some l ∧ slot < (u.lane l).nslots ∧ (u.lane l).fab.txDone.contains slot = false ∧
      entIsTx ((u.comp c).ent slot) = true ∧
      ((u.lane l).fab.cycle * (u.lane l).cycleLen + (u.comp c).action slot) * 32 ≤ (u.comp c).tcorr32 + 32)
    (stage 5 (fabUp 5 (id) (fun x => { x with ticks := 1000100 + 400 * 1 })))) 5 .CA .A 1 []) ∧
    ((fun tm c l e => Meets tm (.etSegmentStart tm c)
    (fun u =>
      let x := u.comp c
      let y := u.lane l
      let start := y.fab.cycle * y.cycleLen + x.etStart y
      u.nodeLane c = some l ∧ y.fphase = phActive ∧ start ≤ x.tcorr ∧ x.tcorr < start + y.rd Reg.JLF_ET.ET_LEN * 100 ∧
      y.flag Reg.RNG_CFG.EN = false ∧ y.fab.etq = [e])
    (stage 5 (fabUp 5 ((fun x => x.modFab (fun g =>
      { g with etq := [{ kind := 7, node := 60, payload := [1,2,3,4,5,6,7,8] }] }))) (fun x => { x with ticks := 1002800 }))))
      5 .CA .A { kind := 7, node := 60, payload := [1,2,3,4,5,6,7,8] }) ∧
    ((fun tm c l => Meets tm (.syncCorrection tm c)
    (fun u => u.nodeLane c = some l ∧ (u.lane l).fab.corrDone = false ∧ (u.lane l).cycleLen ≠ 0 ∧
      (u.lane l).fab.cycle * (u.lane l).cycleLen + (u.comp c).etStart (u.lane l) ≤ (u.comp c).tcorr ∧
      (u.lane l).fphase = phActive)
    (stage 5 (fabUp 5 (id) (fun x => { x with ticks := 1002800 })))) 5 .CA .A) ∧
    ((fun tm c l => Meets tm (.slewEnd tm c)
    (fun u => u.nodeLane c = some l ∧ (u.lane l).fphase = phInteg ∧ (u.lane l).fab.slewing = true ∧
      2 * (u.comp c).lower.slew.natAbs ≤ (u.comp c).rd Reg.JMC_CFG.PI * 32)
    (stage 5 (fabUp 4 ((fun x => x.modFab (fun g => { g with slewing := true }))) ((fun x =>
      { x with lower := { x.lower with slew := 160 } }))))) 5 .CA .A) := by
  refine ⟨?_, ?_, ?_, ?_, ?_⟩ <;> decide +kernel

theorem test_meets_FabricReceive :
    ((fun tm c f bad => Meets tm (Instr.ttDataReceive tm c f bad)
    (fun u => (u.comp c).powered = true ∧ (u.comp c).flag (Reg.PHY_STAT.LINK (bit f.netY)) = true ∧
      (f.bytes.length < 64 ∨ 1518 < f.bytes.length))
    (stage 5 (fabUp 5 (id) (id)))) 5 .CA { netY := true, sof32 := 0, phyErr := false, bytes := [1,2,3] } false) ∧
    ((fun tm c f l h => Meets tm (.ttNullReceive tm c f)
    (fun u => u.Hears c f l h kTtNull ∧ (u.lane l).fphase = phActive)
    (stage 5 (fabUp 5 (id) (id)))) 5 .CA (frameOf 2 41 4 10 false ([]))  .A  (hdrOf 2 41 4 10 false ([])) ) ∧
    ((fun tm c f l h n i => Meets tm (.ttDataReceive tm c f false)
    (fun u => u.Hears c f l h kTtData ∧ (u.lane l).fphase = phActive ∧ u.inSetpoint c f = false ∧
      (u.acceptTt c l f h).2 = .accepted n i true ∧ entIsRx ((u.comp c).ent i) 0 = true ∧
      (u.comp c).fqOn (entRxQueue ((u.comp c).ent i)) = true)
    (stage 5 (fabUp 5 (id) (id)))) 5 .CA (frameOf 1 41 4 10 false ([1,2,3,4,5,6,7,8,9]))  .A  (hdrOf 1 41 4 10 false
      ([1,2,3,4,5,6,7,8,9]))  10 4) ∧
    ((fun tm c f l h n i first => Meets tm (.syncReceive tm c f)
    (fun u => u.Hears c f l h kSync ∧ (u.lane l).fphase = phActive ∧ (u.acceptTt c l f h).2 = .accepted n i first ∧
      entIsRx ((u.comp c).ent i) 3 = true)
    (stage 5 (fabUp 5 (id) (id)))) 5 .CA (frameOf 3 42 5 10 false
      (List.replicate 8 0 ++ beBytes 8 1002100 ++ List.replicate 16 0))  .A  (hdrOf 3 42 5 10 false
      (List.replicate 8 0 ++ beBytes 8 1002100 ++ List.replicate 16 0))  10 5 true) ∧
    ((fun tm c f l h kind => Meets tm ((Instr.syncReceive tm c f, kSync)).1
    (fun u => u.Hears c f l h kind ∧ ((u.lane l).fphase = phListen ∨ (u.lane l).fphase = phBackoff))
    (stage 5 (fabUp 1 (id) (id)))) 5 .CA (frameOf 3 42 5 10 false
      (List.replicate 8 0 ++ beBytes 8 1002100 ++ List.replicate 16 0))  .A  (hdrOf 3 42 5 10 false
      (List.replicate 8 0 ++ beBytes 8 1002100 ++ List.replicate 16 0))  3) ∧
    ((fun tm c f l h => Meets tm (.coldstartReceive tm c f)
    (fun u => u.Hears c f l h kColdstart ∧ (u.lane l).fphase = phCsSend ∧ u.decodable c l h = true)
    (stage 5 (fabUp 2 (id) (id)))) 5 .CA (frameOf 4 42 5 10 false (coldstartRecord 10 1 2 77))  .A  (hdrOf 4 42 5 10 false
      (coldstartRecord 10 1 2 77)) ) ∧
    ((fun tm c l netY fcsErr => Meets tm (.corruptedReception tm c netY fcsErr)
    (fun u => u.nodeLane c = some l ∧ (u.comp c).flag (Reg.PHY_STAT.LINK (bit netY)) = true)
    (stage 5 (fabUp 1 (id) (id)))) 5 .CA .A true true) ∧
    ((fun tm c f l h n i first => Meets tm (.claimReceive tm c f)
    (fun u => u.Hears c f l h kClaim ∧ (u.lane l).fphase = phActive ∧ (u.acceptTt c l f h).2 = .accepted n i first ∧
      entIsSpare ((u.comp c).ent i) = true)
    (stage 5 (fabUp 5 ((fun x => x.modFab (fun g => { g with spares := [(6, { st := .free })] }))) (id)))) 5 .CA
      (frameOf 8 45 6 10 false (claimRecord 0 1 77))  .A  (hdrOf 8 45 6 10 false (claimRecord 0 1 77))  10 6 true) ∧
    ((fun tm c f l h n => Meets tm (.syncReceive tm c f)
    (fun u => u.Hears c f l h kSync ∧ (u.lane l).fphase = phCsSend ∧ u.decodable c l h = true ∧
      (u.comp c).window (u.lane l) f.netY f.sof32 = some (n, h.slot) ∧
      Sparse.look (if f.netY then (u.lane l).fab.devY else (u.lane l).fab.devX) h.slot = none ∧
      (u.comp c).tagOk h (entAuth ((u.comp c).ent h.slot)) n = true)
    (stage 5 (fabUp 2 (id) (id)))) 5 .CA (frameOf 3 42 5 10 false
      (List.replicate 8 0 ++ beBytes 8 1002100 ++ List.replicate 16 0)) .A (hdrOf 3 42 5 10 false
      (List.replicate 8 0 ++ beBytes 8 1002100 ++ List.replicate 16 0)) 10) := by
  refine ⟨?_, ?_, ?_, ?_, ?_, ?_, ?_, ?_, ?_⟩
  · decide +kernel
  · unfold Dev.Hears; decide +kernel
  · unfold Dev.Hears; decide +kernel
  · unfold Dev.Hears; decide +kernel
  · unfold Dev.Hears; decide +kernel
  · unfold Dev.Hears; decide +kernel
  · decide +kernel
  · unfold Dev.Hears; decide +kernel
  · unfold Dev.Hears; decide +kernel

theorem test_meets_FabricStart :
    ((fun tm c l => Meets tm (.listenTimeout tm c)
    (fun u => let y := u.lane l
      u.nodeLane c = some l ∧ y.fphase = phListen ∧ y.flag Reg.JLF_START.CS_EN = true ∧
      y.flag Reg.JLF_START_STAT.CS_FAIL = false ∧ (u.comp c).running = true ∧ y.fab.listenAt + y.listenTicks ≤ (u.comp c).ticks)
    (stage 5 (fabUp 1 (id) (id)))) 5 .CA .A) ∧
    ((fun tm c l slot a0 => Meets tm (.txSlot tm c slot [])
    (fun u =>
      let ap32 := ((u.lane l).fab.cycle * (u.lane l).cycleLen + (u.comp c).action slot) * 32
      u.nodeLane c = some l ∧ slot < (u.lane l).nslots ∧ (u.lane l).fab.txDone.contains slot = false ∧
      entTxSync ((u.comp c).ent slot) = true ∧ ap32 ≤ (u.comp c).tcorr32 + 32 ∧ u.lateness c ap32 ≤ 320 ∧
      (u.comp c).flag Reg.JMC_GUARD.BLOCKED = false ∧ (u.lane l).fphase = phCsSend ∧ (u.lane l).fab.csFrom = some a0 ∧
      (u.lane l).fab.cycle = a0 ∧ (u.lane l).fab.sentSync = false ∧ (u.comp c).fitsSlot slot (u.lateness c ap32) 8 = true)
    (stage 5 (fabUp 2 ((fun x => x.modFab (fun g => { g with csFrom := some 10 }))) (fun x => { x with ticks := 1000900 })))) 5 .CA .A 2 10) ∧
    ((fun tm c l => Meets tm (.backoffEnd tm c)
    (fun u => let y := u.lane l
      u.nodeLane c = some l ∧ y.fphase = phBackoff ∧ y.fab.backAt + y.backoffTicks ≤ (u.comp c).ticks)
    (stage 5 (fabUp 3 (id) (id)))) 5 .CA .A) ∧
    ((fun tm c l => Meets tm (.coldstartHoldoffEnd tm c)
    (fun u => let y := u.lane l
      u.nodeLane c = some l ∧ y.fphase = phListen ∧ y.flag Reg.JLF_START_STAT.CS_FAIL = true ∧
      y.fab.holdAt + 256 * y.cycleLen ≤ (u.comp c).ticks)
    (stage 5 (fabUp 1 (lset [(Reg.JLF_START_STAT.CS_FAIL, 1), (Reg.JLF_START_STAT.ATTEMPT, 8)]) (fun x =>
      { x with ticks := 30000000 })))) 5 .CA .A) ∧
    ((fun tm c l => Meets tm (.membershipDecision tm c)
    (fun u => u.nodeLane c = some l ∧ (u.lane l).fphase = phActive ∧ (u.lane l).fab.judged = false ∧
      u.sibReports c l ((u.lane l).fab.cycle - 1) ≠ [])
    (stage 5 (fabUp 5 ((fun x => (lset [] x).modFab (fun g => { g with judged := false }) |>.modRdn (fun r =>
      { r with hb := [(1, { beat .B false 5 with sib := 1, sibValid := true, sibCycle := 9 })] }))) (id)))) 5 .CA .A) ∧
    ((fun tm c l netY => Meets tm (.phyLinkChange tm c netY false)
    (fun u => u.nodeLane c = some l ∧ (u.comp c).flag (Reg.PHY_CFG.EN (bit netY)) = true ∧
      (u.comp c).flag (Reg.PHY_STAT.LINK (bit netY)) = true)
    (stage 5 (fabUp 5 (id) (id)))) 5 .CA .A true) ∧
    ((fun tm c l netY => Meets tm (.phyLinkChange tm c netY true)
    (fun u => u.nodeLane c = some l ∧ (u.comp c).flag (Reg.PHY_CFG.EN (bit netY)) = true ∧
      (u.comp c).flag (Reg.PHY_STAT.LINK (bit netY)) = false ∧ (u.lane l).fphase = phOff)
    (stage 5 (fabUp 0 (id) (cset [(Reg.PHY_STAT.LINK 1, 0)])))) 5 .CA .A true) ∧
    ((fun tm c l k => (k < 4) ∧ Meets tm (.claimBackoffEnd tm c k)
    (fun u => let cl := Sparse.get ({} : Claim) (u.lane l).fab.claims k
      u.nodeLane c = some l ∧ (u.lane l).fphase = phActive ∧ cl.st = 1 ∧ cl.waitFree = true ∧ cl.backoff = 0 ∧
      1 ≤ (Sparse.get ({} : SpareView) (u.lane l).fab.spares cl.slot).freeFor)
    (stage 5 (fabUp 5 ((fun x => x.modFab (fun g =>
      { g with spares := [(6, { freeFor := 1 })], claims := Sparse.set {} [] 2 { st := 1, slot := 6, attempt := 3, waitFree := true } }))) (id)))) 5 .CA .A 2) := by
  refine ⟨?_, ?_, ?_, ?_, ?_, ?_, ?_, ?_⟩ <;> decide +kernel

theorem test_meets_Queues :
    ((fun tm c n => (n < 16) ∧ Meets tm (.fqIdleTimeout tm c n)
    (fun u => let f := (u.comp c).fq n
      (u.comp c).powered = true ∧ (u.comp c).fqOn n = true ∧ f.inItem = true ∧ f.pack ≠ [] ∧ f.words.length < 512 ∧
      f.lastAt + (u.comp c).rd (Reg.FQ_CFG.IDLE n) * 100 ≤ u.clk)
    (stage 505 (upCA (fun x => (cset [(Reg.FQ_CFG.EN 3, 1), (Reg.FQ_CFG.IDLE 3, 4)] x) |> fun x =>
      { x with lower := { x.lower with queues := [(3, { words := [{ gap := false, start := true, last := false, cnt := 0, data := 9 }], pack := [1,2,3], inItem := true, first := false, lastAt := 5 })] } })))) 505 .CA 3) ∧
    ((fun tm l w c => Meets tm (.fqFlush tm l w)
    (fun u => (u.lane l).powered = true ∧ u.reaches l = some c)
    (stage 5 up)) 5 .A 0x1008 .CA) ∧
    ((fun tm c n => (n < 16) ∧ Meets tm (.fqFlushTakeEffect tm c n)
    (fun u => (u.comp c).powered = true ∧ (u.comp c).flag (Reg.FQ_CTL.FLUSH n) = true ∧ (u.comp c).fqOn n = true)
    (stage 5 (upCA (fun x => cset [(Reg.FQ_CTL.FLUSH 3, 1)] ((fun x => (cset [(Reg.FQ_CFG.EN 3, 1), (Reg.FQ_CFG.IDLE 3, 4)] x)
      |> fun x => { x with lower := { x.lower with queues := [(3, { words := [{ gap := false, start := true, last := true, cnt := 0, data := 9 }, { gap := true, start := false, last := false, cnt := 0, data := 9 }], pack := [1,2,3], inItem := true, first := false, lastAt := 5 })] } }) x))))) 5 .CA 3) ∧
    ((fun tm c n cause k => (n < 16) ∧ Meets tm (.fqGapMarkerWrite tm c n)
    (fun u => let f := (u.comp c).fq n
      (u.comp c).powered = true ∧ f.gapPend = some (cause, k) ∧ f.words.length < 512 ∧ f.inItem = false)
    (stage 5 (upCA (fun x => (cset [(Reg.FQ_CFG.EN 3, 1), (Reg.FQ_CFG.IDLE 3, 4)] x) |> fun x =>
      { x with lower := { x.lower with queues := [(3, { gapPend := some (2, 7) })] } })))) 5 .CA 3 2 7) ∧
    ((fun tm c n l ws f => (n < 8) ∧ MeetsM tm (.fqRxDeliver tm c n false)
    (fun _ u => u.driver c = some l ∧ (u.comp c).powered = true ∧ (u.lane l).powered = true ∧ (u.comp c).fqOn n = true ∧
      (u.lane l).rd (Reg.MEM_RXQ_LEN.RECORDS n) ≠ 0 ∧ ((u.comp c).fq n).takeItem = some (ws, f) ∧
      ∀ g < 8, (u.lane l).permitted 4 g = true)
    (stage 5 ((upCA (fun x => (cset [(Reg.FQ_CFG.EN 3, 1), (Reg.FQ_CFG.IDLE 3, 4)] x) |> fun x =>
      { x with lower := { x.lower with queues := [(3, { words := [{ gap := false, start := true, last := true, cnt := 0, data := 0x1234567 }] })] } })).modLane .A (lset [(Reg.MEM_RXQ_BASE.BASE 3, 0x800), (Reg.MEM_RXQ_LEN.RECORDS 3, 4)])))) 5 .CA 3 .A [{ gap := false, start := true, last := true, cnt := 0, data := 0x1234567 }] {}) := by
  refine ⟨?_, ?_, ?_, ?_, ?_⟩ <;> decide +kernel

theorem test_meets_CrossLink :
    ((fun tm l => Meets tm (.heartbeatSend tm l)
    (fun u => (u.lane l).powered = true)
    (stage 5000 (upA (fun x => x.modRdn (fun r =>
      { r with hbX := [(1, 4500)], hbY := [(1, 4500), (2, 4600)], missX := [(1, 2), (2, 1)], bcLost := 2, hbSeq := 65535, accuse := 4 }))))) 5000 .A) ∧
    ((fun tm => Meets tm (.beaconSend tm)
    (fun u => u.wit.powered = true)
    (stage 5 (upW (fun w => { w with beaconSeq := 65535 })))) 5) ∧
    ((fun tm l h => Meets tm (.heartbeatReceive tm (some l) h false)
    (fun u => (u.lane l).powered = true ∧ l ≠ h.lane ∧ (h.pathY = true → u.wit.powered = true))
    (stage 5 up)) 5 .A (beat .B true 5)) ∧
    ((fun tm l h => Meets tm (.heartbeatReceive tm (some l) h true)
    (fun u => (u.lane l).powered = true ∧ l ≠ h.lane ∧ (h.pathY = true → u.wit.powered = true) ∧
      (l = .D → u.wit.rd (Reg.WIT_STAT.LSTATE 3) ≠ 9))
    (stage 5 (upA (fun x => x.modRdn (fun r => { r with unheard := 2 }))))) 5 .A (beat .B true 5)) ∧
    ((fun tm h => Meets tm (.heartbeatReceive tm none h true)
    (fun u => u.wit.powered = true ∧ h.pathY = true)
    (stage 5 up)) 5 (beat .B true 5)) ∧
    ((fun tm l w => (w.dl ≤ 4) ∧ (w.master < 4) ∧ Meets tm (.beaconReceive tm l true w true)
    (fun u => (u.lane l).powered = true ∧ u.wit.powered = true ∧ (u.lane l).flag Reg.RDN_STAT.WITNESSLESS = false)
    (stage 5 up)) 5 .A { seq := 3, dl := 2, master := 1, masterValid := true, lstate := 0x9655, jseq := 2 }) ∧
    ((fun tm l w => Meets tm (.beaconReceive tm l true w false)
    (fun u => (u.lane l).powered = true ∧ u.wit.powered = true)
    (stage 5 up)) 5 .A { seq := 3, dl := 2, master := 1, masterValid := true, lstate := 0x9655, jseq := 2 }) ∧
    ((fun tm l c w => Meets tm (.statusWordReceive tm l w true)
    (fun u => u.wit.powered = true ∧ u.driver c = some l)
    (stage 5 up)) 5 .A .CA
      { state := 5, nonCheck := false, witless := false, unlinked := false, service := false, seq := 1, key := 2, digest := 3 }) ∧
    ((fun tm l p (y : Bool) => Meets tm (.pathFail tm l (if y then .hbY p else .hbX p))
    (fun u => let r := (u.lane l).rdn
      (u.lane l).powered = true ∧ 3 ≤ Sparse.get 0 (if y then r.missY else r.missX) (laneIdx p) ∧
      Sparse.get false (if y then r.failY else r.failX) (laneIdx p) = false)
    (stage 5 (upA (fun x => x.modRdn (fun r => { r with missX := [(1, 3)] }))))) 5 .A .B false) ∧
    ((fun tm l => Meets tm (.pathFail tm l .beaconY)
    (fun u => (u.lane l).powered = true ∧ 3 ≤ (u.lane l).rdn.bcMissY ∧ (u.lane l).rdn.beaconYFail = false)
    (stage 5 (upA (fun x => x.modRdn (fun r => { r with bcMissY := 3 }))))) 5 .A) ∧
    ((fun tm l p (y : Bool) => Meets tm (.pathRecover tm l (if y then .hbY p else .hbX p))
    (fun u => let r := (u.lane l).rdn
      (u.lane l).powered = true ∧ 100 ≤ Sparse.get 0 (if y then r.okY else r.okX) (laneIdx p) ∧
      Sparse.get false (if y then r.failY else r.failX) (laneIdx p) = true)
    (stage 5 (upA (fun x => (lset [(Reg.XLK_STAT.PATH_X_FAIL, 1)] x).modRdn (fun r =>
      { r with okX := [(1, 100)], failX := [(1, true)] }))))) 5 .A .B false) := by
  refine ⟨?_, ?_, ?_, ?_, ?_, ?_, ?_, ?_, ?_, ?_, ?_⟩ <;> decide +kernel

theorem test_meets_LaneLosses :
    ((fun tm l => Meets tm (.laneSilent tm l)
    (fun u =>
      let w := u.wit
      let i := laneIdx l
      w.powered = true ∧ (u.lane l).st = .active ∧ w.rd (Reg.WIT_STAT.LSTATE i) = 5 ∧ within w.hbAt i u.clk 3000 = false ∧
      within w.stAt i u.clk 3000 = false ∧
      ∀ q < 4, q ≠ i → within w.hbAt q u.clk 3000 = true → ∀ h, Sparse.look w.hb q = some h → hasBit h.heardX i = false)
    (stage 5000 (upW (fun w => { w with hbAt := [(0, 5), (1, 4900)], hb := [(1, beat .B true 5)] })))) 5000 .A) ∧
    ((fun tm l q => (l ≠ q) ∧ Meets tm (.laneSilent tm l)
    (fun u => let x := u.lane q
      u.wit.powered = false ∧ (u.lane l).st = .active ∧ x.powered = true ∧ x.st = .active ∧
      x.flag Reg.RDN_STAT.WITNESSLESS = true ∧ (∀ i < 4, i ∈ x.activeView ↔ (i = laneIdx l ∨ i = laneIdx q)) ∧
      x.hears (laneIdx l) u.clk = false ∧ x.freshHb (laneIdx q) u.clk = none ∧ u.recActive q (laneIdx l) ≠ some true ∧
      hasBit x.rdn.judged (laneIdx l) = false ∧ (∀ r, r ≠ q → (u.lane r).flag Reg.RDN_STAT.WITNESSLESS = false))
    (stage 5000 ({ (upA (fun x => (lset [(Reg.RDN_STAT.WITNESSLESS, 1), (Reg.RDN_STAT.LSTATE 2, 6)] x).modRdn (fun r => { r with }))) with wit := {} }))) 5000 .B .A) ∧
    ((fun tm key v0 => Meets tm (.voteEvaluate tm key)
    (fun u =>
      let act := (List.range 4).filter (fun i => u.wit.rd (Reg.WIT_STAT.LSTATE i) == 5)
      u.wit.powered = true ∧ u.wit.votes.find? (fun v => v.key == key) = some v0 ∧
      ((∀ i ∈ act, ∃ r ∈ v0.reps, r.1 = i) ∨ v0.at_ + 3000 ≤ u.clk) ∧
      (∀ r ∈ v0.reps, u.wit.rd (Reg.WIT_STAT.LSTATE r.1) = 5) ∧ (∀ r, (u.lane r).flag Reg.RDN_STAT.WITNESSLESS = false))
    (stage 5000 (upW (fun w =>
      { w with disagree := 2, votes := [{ key := 5, at_ := 5, reps := [(0, 7, false, 1), (1, 7, false, 2), (2, 7, false, 0)] }] })))) 5000 5 { key := 5, at_ := 5, reps := [(0, 7, false, 1), (1, 7, false, 2), (2, 7, false, 0)] }) ∧
    ((fun tm c kind l => Meets tm (.companionReport tm c kind)
    (fun u => (u.comp c).powered = true ∧ u.selected c = some l ∧ (u.lane l).st = .active)
    (stage 5 (upCA (cset [(offFld true, 1)])))) 5 .CA .releaseCheck .A) ∧
    ((fun tm l => Meets tm ((Instr.supervisorFault tm l, 12)).1
    (fun u => (u.lane l).powered = true ∧ (u.lane l).st = .active)
    (stage 5 up)) 5 .A) ∧
    ((fun tm l => Meets tm (.witnesslessEntry tm l)
    (fun u => (u.lane l).powered = true ∧ 3 ≤ (u.lane l).rdn.bcLost ∧ (u.lane l).flag Reg.RDN_STAT.WITNESSLESS = false)
    (stage 5 (upA (fun x => (lset [(Reg.RDN_STAT.D_AVAIL, 1), (Reg.RDN_STAT.MASTER_VALID, 1)] x).modRdn (fun r =>
      { r with bcLost := 3 }))))) 5 .A) ∧
    ((fun tm l peer => Meets tm (.unlinkedEntry tm l peer)
    (fun u => let x := u.lane l
      x.powered = true ∧ x.st = .active ∧ l ≠ peer ∧ x.rd (Reg.RDN_STAT.LSTATE (laneIdx peer)) = 5 ∧
      x.hears (laneIdx peer) u.clk = false ∧ u.recSeen l (laneIdx peer) = true ∧ hasBit x.rdn.unheard (laneIdx peer) = false)
    (stage 5000 (upA (fun x => (x.modFab (fun g =>
      { g with cycle := 10, status := [(51, { cycle := 9, dl := 1, flags := 0, lane := 1, lstate := 0x555, time := 0, epoch := 0 })] })) |>
      fun x => { x with start := { x.start with img := some { image0 with nodes := [50, 51, 52] } } })))) 5000 .A .B) ∧
    ((fun tm l => MeetsM tm (.suspectTimeout tm l)
    (fun _ u => (u.lane l).st = .suspect ∧ (u.lane l).rdn.suspectAt + 200000 ≤ u.clk)
    (stage 200005 (upA (fun x => { (x.modRdn (fun r => { r with suspectAt := 5 })) with st := .suspect })))) 200005 .A) ∧
    ((fun tm l r => Meets tm (.journalRecordReceive tm l r)
    (fun u => (u.lane l).powered = true)
    (stage 5 up)) 5 .A (jrec 4)) ∧
    ((fun tm key v0 q i => (i < 4) ∧ (ballot v0.reps = .odd i) ∧ Meets tm (.voteEvaluate tm key)
    (fun u => let x := u.lane q
      u.wit.votes.find? (fun v => v.key == key) = none ∧ (∀ r, (u.lane r).flag Reg.RDN_STAT.WITNESSLESS = false) ∧
      x.powered = true ∧ x.st = .active ∧ x.rdn.votes.find? (fun v => v.key == key) = some v0 ∧ v0.at_ + 3000 ≤ u.clk ∧
      ∀ r ∈ v0.reps, x.rd (Reg.RDN_STAT.LSTATE r.1) = 5 ∧ hasBit x.rdn.unheard r.1 = false)
    (stage 5000 (upA (fun x => x.modRdn (fun r =>
      { r with votes := [{ key := 5, at_ := 5, reps := [(0, 7, false, 1), (1, 8, false, 2), (2, 7, false, 0)] }] }))))) 5000 5 { key := 5, at_ := 5, reps := [(0, 7, false, 1), (1, 8, false, 2), (2, 7, false, 0)] } .A 1) := by
  refine ⟨?_, ?_, ?_, ?_, ?_, ?_, ?_, ?_, ?_, ?_⟩
  · decide +kernel
  · simp only [forall_lane, forall_comp, Bool.forall_bool]; decide +kernel
  · simp only [forall_lane, forall_comp, Bool.forall_bool]; decide +kernel
  · decide +kernel
  · decide +kernel
  · decide +kernel
  · decide +kernel
  · decide +kernel
  · decide +kernel
  · simp only [forall_lane, forall_comp, Bool.forall_bool]; decide +kernel

theorem test_meets_BringInAndProof :
    ((fun tm certSig => Meets tm (.laneDSupplyGood ⟨tm, true, certSig⟩)
    (fun u => u.lD.powered = true ∧ u.lD.start.purpose ≠ 0 ∧ (u.lD.st = .boot ∨ u.lD.st = .spareWaking) ∧
      (lifeOf u.lD.fuses.life).isSome = true ∧ u.wit.flag Reg.WIT_VAULT.CERT = false)
    (stage 5 { ({ (upW (fun w => { w with bring := some { target := some .CA, tL := 0, masterAt := 0 } })) with lD := { upLane with st := .boot, start := { purpose := 2 }, fuses := { life := 3 } } }) with wit := { (upW (fun w => { w with bring := some { target := some .CA, tL := 0, masterAt := 0 } })).wit.wr Reg.WIT_VAULT.CERT 0 with bring := some { target := some .CA, tL := 0, masterAt := 0 } } })) 5 true) ∧
    ((fun tm ok img b => MeetsM tm (.imageLoaded tm ok img)
    (fun _ u => u.wit.powered = true ∧ u.wit.bring = some b ∧ u.lD.powered = true ∧ u.lD.st = .spareWaking ∧
      u.lD.start.mbist = true ∧ b.good = true ∧ b.loaded = false)
    (stage 5 ({ (upW (fun w => { w with bring := some { target := some .CA, tL := 0, masterAt := 0, good := true }, proof := 1, proofDigest := 12 })) with lD := { upLane with st := .spareWaking, start := { mbist := true } } }.modLane .A (fun x => { x with image := 12 })))) 5 true ({ laneRegs := [], compRegs := [], nodes := [50, 51, 52], tables := [], init := [(64, 9)], svn := 0, digest := 12 }) ({ target := some .CA, tL := 0, masterAt := 0, good := true })) ∧
    ((fun tm part crcOk l cp => Meets tm (.stateCopyReceive tm part crcOk)
    (fun u => u.master = some l ∧ l ≠ .D ∧ u.lD.powered = true ∧ (u.lane l).rdn.xferring = true ∧ u.lD.eng.begun = [] ∧
      (u.lane l).rdn.copies.find? (fun c => c.part == part) = some cp)
    (stage 5 ({ (upW (fun w => { w with bring := some { target := some .CA, tL := 0, masterAt := 0, good := true, loaded := true, ready := true } })) with lD := { upLane with st := .spareWaking, rdn := { copies := [{ src := 0, key := 4, part := none, bytes := [], s1 := none, s2 := none, force := 0, next := none, dl := 1, jseq := 0, epoch := 0 }] } } }.modLane .A (fun x => x.modRdn (fun r => { r with xferring := true, copies := [{ src := 0, key := 4, part := some 1, bytes := [1], s1 := none, s2 := none, force := 0, next := none, dl := 1, jseq := 0, epoch := 0 }] }))))) 5 (some 1) true .A ({ src := 0, key := 4, part := some 1, bytes := [1], s1 := none, s2 := none, force := 0, next := none, dl := 1, jseq := 0, epoch := 0 })) ∧
    ((fun tm step b => Meets tm (.bringInDeadline tm step)
    (fun u => u.wit.powered = true ∧ u.wit.bring = some b ∧ u.lD.st = .spareWaking ∧
      ((step = 0 ∧ b.good = false ∧ b.tL + 50000 < u.clk) ∨ (step = 1 ∧ b.loaded = false ∧ b.tL + 405000 < u.clk) ∨
        (step = 2 ∧ b.ready = false ∧ b.tL + 410000 < u.clk) ∨
        (step = 3 ∧ b.tX = none ∧ max (b.tL + 410000) b.masterAt + 2 * u.longestP b.target +
          (b.late.map Prod.snd).foldl max 0 < u.clk)))
    (stage 50001 { (upW (fun w => { w with bring := some { target := some .CA, tL := 0, masterAt := 0 } })) with lD := { upLane with st := .spareWaking } })) 50001 0 ({ target := some .CA, tL := 0, masterAt := 0 })) ∧
    ((fun tm failStep aborted at_ => (failStep < 256) ∧ MeetsM tm (.proofWakeEnd tm failStep aborted)
    (fun _ u => u.wit.powered = true ∧ u.lD.powered = true ∧ u.lD.start.purpose = 1 ∧ u.wit.proving = some (false, at_))
    (stage 5 { (upW (fun w => { w with proving := some (false, 2) })) with lD := { upLane with st := .spareWaking, start := { purpose := 1 } } })) 5 0 false 2) ∧
    ((fun tm certSig => Meets tm (.laneDSupplyGood ⟨tm, false, certSig⟩)
    (fun u => u.lD.powered = true ∧ u.lD.start.purpose = 2 ∧ u.lD.st = .spareWaking)
    (stage 5 { (upW (fun w => { w with bring := some { target := some .CA, tL := 0, masterAt := 0 } })) with lD := { upLane with st := .spareWaking, start := { purpose := 2 }, fuses := { life := 3 } } })) 5 false) := by
  refine ⟨?_, ?_, ?_, ?_, ?_, ?_⟩ <;> decide +kernel

set_option maxRecDepth 20000 in
theorem test_meets_RingTraffic :
    ((fun tm l => Meets tm (.rcaPoll tm l)
    (fun u => let x := u.serving.lane l
      u.serving.ringOpen l = true ∧ x.ring.polled ≠ some x.fab.cycle ∧ x.fab.cycle % (x.rd Reg.RNG_CFG.CADENCE + 1) = 0)
    (stage 5 (ringUp (id)))) 5 .A) ∧
    ((fun tm c f l q p => Meets tm (.rwpReadRsp tm c f)
    (fun u => (u.rwpRx c f 3).2 = some (l, q, p))
    (stage 5 (ringUp (fun x =>
      { x with ring := { x.ring with out := [{ what := .fetch 0 0 1, addr := 64, len := 64, tag := 7, sent := 9 }] } }))))
      5 .CA (etFrame 6 (rwpPay 3 7 64 64 (desc 1 0 []))) .A
      { what := .fetch 0 0 1, addr := 64, len := 64, tag := 7, sent := 9 }
      { op := 3, tag := 7, status := 0, addr := 64, len := 64, data := desc 1 0 [] }) ∧
    ((fun tm c f l q p => MeetsM tm (.rwpWriteAck tm c f)
    (fun _ u => (u.rwpRx c f 4).2 = some (l, q, p) ∧ q.ring ≠ 4)
    (stage 5 (ringUp (fun x =>
      { x with ring := { x.ring with out := [{ what := .devWord 5 3, addr := 64, len := 4, tag := 7, sent := 9 }] } }))))
      5 .CA (etFrame 6 (rwpPay 4 7 64 4 [])) .A { what := .devWord 5 3, addr := 64, len := 4, tag := 7, sent := 9 }
      { op := 4, tag := 7, status := 0, addr := 64, len := 4, data := [] }) ∧
    ((fun tm c f l q p r => Meets tm (.rwpErrorRsp tm c f)
    (fun u => (u.rwpRx c f 5).2 = some (l, q, p) ∧ r < 8 ∧ (q.ring = r ∨ ∃ i n, q.what = .fetch r i n))
    (stage 5 (ringUp (fun x =>
      { x with ring := { x.ring with out := [{ what := .devWord 5 3, addr := 64, len := 4, tag := 7, sent := 9 }] } }))))
      5 .CA (etFrame 6 (rwpPay 5 7 64 4 [])) .A { what := .devWord 5 3, addr := 64, len := 4, tag := 7, sent := 9 }
      { op := 5, tag := 7, status := 0, addr := 64, len := 4, data := [] } 5) ∧
    ((fun tm l q => Meets tm (.rwpResend tm l)
    (fun u => u.ringOpen l = true ∧ (u.lane l).ring.out = [q] ∧ (u.lane l).ring.wait = [] ∧ q.what = .rca ∧
      q.try_ ≤ (u.lane l).rd Reg.RWP_CFG.MAX_RETRY)
    (stage 5 (ringUp (fun x =>
      { x with ring := { x.ring with out := [{ what := .rca, addr := 0, len := 384, tag := 7, sent := 9, try_ := 0 }] } }))))
      5 .A { what := .rca, addr := 0, len := 384, tag := 7, sent := 9, try_ := 0 }) ∧
    ((fun tm l => Meets tm (.hostLost tm l)
    (fun u => let x := u.lane l
      x.powered = true ∧ x.flag Reg.RNG_CFG.EN = true ∧ x.ringState = true ∧ x.flag Reg.RNG_STAT.HOST_LOST = false ∧
      x.ring.lastRsp + x.rd Reg.RWP_CFG.HOST_TMO * 1000000 ≤ u.clk)
    (stage 1000005 (ringUp (fun x => { x with ring := { x.ring with lastRsp := 5 } })))) 1000005 .A) ∧
    ((fun tm l r qs => Meets tm (.ringGenRewrite tm l r)
    (fun u => let x := u.lane l
      x.powered = true ∧ x.ringState = true ∧ Sparse.look x.ring.redo r = some qs ∧
      (∀ q ∈ x.ring.out, q.ring = r → x.stale q = false) ∧ x.rd Reg.RWP_CFG.MAX_OUT ≤ x.ring.out.length)
    (stage 5 (ringUp (fun x =>
      { x with ring := { x.ring with redo := [(5, [{ what := .devWord 5 3, addr := 64, len := 4, tag := 7, sent := 9 }])], out := [{ what := .rca, addr := 0, len := 384, tag := 7, sent := 9 }, { what := .rca, addr := 0, len := 384, tag := 7, sent := 9 }] } })))) 5 .A 5 [{ what := .devWord 5 3, addr := 64, len := 4, tag := 7, sent := 9 }]) ∧
    ((fun tm c f l h => Meets tm (.wakeDbReceive tm c f)
    (fun u => (u.rxEt c f 7).2 = some (l, h))
    (stage 5 (ringUp (id)))) 5 .CA (etFrame 7 [8, 0, 0, 0, 0, 0, 0, 0]) .A
      { kind := 7, auth := false, keyId := 0, node := 60, slot := 0xFFFF, cycle := 10, raw := jaloftHeader 7 false false 0 60 0xFFFF 10 8, payload := [8, 0, 0, 0, 0, 0, 0, 0], tag := [] }) := by
  refine ⟨?_, ?_, ?_, ?_, ?_, ?_, ?_, ?_⟩
  · decide +kernel
  · decide +kernel
  · decide +kernel
  · exact ⟨by decide +kernel, by decide, .inl rfl⟩
  · decide +kernel
  · decide +kernel
  · decide +kernel
  · decide +kernel

theorem test_meets_HostCommands :
    ((fun tm l i c code => Meets tm ((1, Instr.nop tm l)).2
    (fun u => u.Turn l ((1, Instr.nop tm l)).1 i c ∧ u.checkCmd l c = some code)
    (stage 5 (ringUp (fun x =>  { x with ring := { x.ring with cmds := [cmdOf 1 2 []] } })))) 5 .A 0 (cmdOf 1 2 []) 3) ∧
    ((fun tm l i c => Meets tm (.nop tm l)
    (fun u => u.Turn l 1 i c ∧ u.checkCmd l c = none)
    (stage 5 (ringUp (fun x =>  { x with ring := { x.ring with cmds := [cmdOf 1 0 []] } })))) 5 .A 0 (cmdOf 1 0 [])) ∧
    ((fun tm l i c => Meets tm (.readRegs tm l)
    (fun u => u.Turn l 16 i c ∧ u.checkCmd l c = none)
    (stage 5 (ringUp (fun x =>
      { x with ring := { x.ring with cmds := [cmdOf 16 0 ([1, 0, 0, 0] ++ leBytes 4 0x40000000)] } })))) 5 .A 0 (cmdOf 16 0
      ([1, 0, 0, 0] ++ leBytes 4 0x40000000))) ∧
    ((fun tm l i c => Meets tm (.clearCapsule tm l)
    (fun u => u.Turn l 17 i c ∧ u.checkCmd l c = none)
    (stage 5 (ringUp (fun x => (fun x => { x with st := .ready, bbx := { x.bbx with caps := [(1, { state := 1 })] } })
      { x with ring := { x.ring with cmds := [cmdOf 17 0 []] } })))) 5 .A 0 (cmdOf 17 0 [])) ∧
    ((fun tm l i c => Meets tm (.flushRing tm l)
    (fun u => u.Turn l 18 i c ∧ u.checkCmd l c = none)
    (stage 5 (ringUp (fun x => (fun x =>
      { x with bbx := { x.bbx with evtq := { evts := [{ time := 1, id := 3, lane := 0, sev := 0, approx := false, epoch := 0, data := 2 }] } } }) { x with ring := { x.ring with cmds := [cmdOf 18 0 [5]] } })))) 5 .A 0 (cmdOf 18 0 [5])) ∧
    ((fun tm l i c => Meets tm (.powerReq tm l)
    (fun u => u.Turn l 32 i c ∧ u.checkCmd l c = none)
    (stage 5 (ringUp (fun x =>  { x with ring := { x.ring with cmds := [cmdOf 32 0 [0]] } })))) 5 .A 0 (cmdOf 32 0 [0])) ∧
    ((fun tm l i c => Meets tm ((2, Instr.appDrive tm l)).2
    (fun u => u.Turn l ((2, Instr.appDrive tm l)).1 i c ∧ u.checkCmd l c = none)
    (stage 5 (ringUp (fun x =>  { x with ring := { x.ring with cmds := [cmdOf 2 0 [1]] } })))) 5 .A 0 (cmdOf 2 0 [1])) ∧
    ((fun tm l a => Meets tm (.appForwardReceive tm l)
    (fun u => u.forwardTo l = some a ∧ (u.lane l).powered = true ∧ (u.lane l).st = .active)
    (stage 5 ((ringUp id).modLane .B (fun x =>
      { x with ring := { x.ring with app := some (cmdOf 3 0 [1], { ring := 0, gen := 0, opcode := 3, flags := 0, seq := 3, tag := [], args := [1], src := .B, tApp := 2000000 }) } })))) 5 .A { ring := 0, gen := 0, opcode := 3, flags := 0, seq := 3, tag := [], args := [1], src := .B, tApp := 2000000 }) ∧
    ((fun tm l c a => Meets tm (.appApply tm l)
    (fun u => let x := u.lane l
      x.powered = true ∧ x.ring.fwd = [] ∧ x.ring.app = some (c, a) ∧ a.tApp ≤ (u.laneTime l).1 ∧ c.ring < 4 ∧
      c.gen = x.rd (Reg.RNG_IDX.GEN c.ring) ∧ ∀ k ∈ x.ring.cmds, opcodes.contains k.opcode = true)
    (stage 5 (ringUp (fun x =>
      { x with ring := { x.ring with app := some (cmdOf 3 0 [1], { ring := 0, gen := 0, opcode := 3, flags := 0, seq := 3, tag := [], args := [1], src := .A, tApp := 1000000 }) } })))) 5 .A (cmdOf 3 0 [1]) { ring := 0, gen := 0, opcode := 3, flags := 0, seq := 3, tag := [], args := [1], src := .A, tApp := 1000000 }) ∧
    ((fun tm l a => Meets tm (.appApply tm l)
    (fun u => let x := u.lane l
      x.powered = true ∧ x.ring.fwd = [a] ∧ x.ring.app = none ∧ a.tApp ≤ (u.laneTime l).1)
    (stage 5 (ringUp (fun x =>
      { x with ring := { x.ring with fwd := [{ ring := 0, gen := 0, opcode := 3, flags := 0, seq := 3, tag := [], args := [1], src := .B, tApp := 1000000 }] } })))) 5 .A { ring := 0, gen := 0, opcode := 3, flags := 0, seq := 3, tag := [], args := [1], src := .B, tApp := 1000000 }) ∧
    ((fun tm l c a => Meets tm (.appTimeout tm l)
    (fun u => let x := u.lane l
      x.powered = true ∧ x.ring.due = [{ app := a, cmd := some c }] ∧ a.tApp + 10000000 ≤ (u.laneTime l).1 ∧ c.ring < 4 ∧
      c.gen = x.rd (Reg.RNG_IDX.GEN c.ring) ∧ ∀ k ∈ x.ring.cmds, opcodes.contains k.opcode = true)
    (stage 5 ((ringUp (fun x =>
      { x with ring := { x.ring with due := [{ app := { ring := 0, gen := 0, opcode := 3, flags := 0, seq := 3, tag := [], args := [1], src := .A, tApp := 10 }, cmd := some (cmdOf 3 0 [1]) }] } })).modComp .CA (fun x => { x with ticks := 10000010 })))) 5 .A (cmdOf 3 0 [1]) { ring := 0, gen := 0, opcode := 3, flags := 0, seq := 3, tag := [], args := [1], src := .A, tApp := 10 }) := by
  refine ⟨?_, ?_, ?_, ?_, ?_, ?_, ?_, ?_, ?_, ?_, ?_⟩
  · unfold Dev.Turn; decide +kernel
  · unfold Dev.Turn; decide +kernel
  · unfold Dev.Turn; decide +kernel
  · unfold Dev.Turn; decide +kernel
  · unfold Dev.Turn; decide +kernel
  · unfold Dev.Turn; decide +kernel
  · unfold Dev.Turn; decide +kernel
  · decide +kernel
  · decide +kernel
  · decide +kernel
  · decide +kernel

theorem test_meets_MemoryUpkeep :
    ((fun tm l g e => (g < 8) ∧ MeetsM tm (.scrubRead tm l g e)
    (fun _ u => (u.lane l).powered = true ∧ (u.lane l).groupHeld g = false)
    (stage 5 up)) 5 .A 0 .clean) ∧
    ((fun tm l g j => (g < 8) ∧ MeetsM tm (.repairCopyDone tm l g)
    (fun _ u => (u.lane l).powered = true ∧ (u.lane l).mem.jobs.find? (fun j => j.bank / 8 == g) = some j)
    (stage 5 (upA (fun x =>
      { x with mem := { x.mem with jobs := [{ kind := 3, bank := 9, phys := 70, elem := 9, at_ := 1 }] } })))) 5 .A 1
      { kind := 3, bank := 9, phys := 70, elem := 9, at_ := 1 }) ∧
    ((fun tm l g => Meets tm (.arbHoldTimeout tm l g)
    (fun u => let h := (u.lane l).eng.h0
      (u.lane l).powered = true ∧ h.overheld g (u.laneTime l).1 = true)
    (stage 5 (upA (fun x => x.modEng (fun e => { e with h0 := { e.h0 with locks := [2], lockAt := [(2, 5)] } }))))) 5 .A 2)
      := by
  refine ⟨?_, ?_, ?_⟩ <;> decide +kernel

theorem test_meets_PowerStates :
    ((fun tm l w => Meets tm (.powerVoteRequest tm l)
    (fun u => u.pwr.vote = some w ∧ u.voters.contains (laneIdx l) = true)
    (stage 5 { ringUp id with pwr := { state := 0, vote := some { lane := .A, cmd := cmdOf 32 0 [3], target := 3, at_ := 5, answers := [], got := [] } } })) 5 .B { lane := .A, cmd := cmdOf 32 0 [3], target := 3, at_ := 5, answers := [], got := [] }) ∧
    ((fun tm who w => (who < 4) ∧ Meets tm (.powerVoteAnswer tm who)
    (fun u => u.pwr.vote = some w ∧ (Sparse.look w.answers who).isSome = true ∧ w.cmd.ring < 4 ∧
      w.cmd.gen = (u.lane w.lane).rd (Reg.RNG_IDX.GEN w.cmd.ring))
    (stage 5 { ringUp id with pwr := { state := 0, vote := some { lane := .A, cmd := cmdOf 32 0 [3], target := 3, at_ := 5, answers := [(0, 0), (1, 0)], got := [1] } } })) 5 0 { lane := .A, cmd := cmdOf 32 0 [3], target := 3, at_ := 5, answers := [(0, 0), (1, 0)], got := [1] }) ∧
    ((fun tm w => Meets tm (.powerVoteTimeout tm)
    (fun u => u.pwr.vote = some w ∧ w.at_ + 1000000 ≤ u.clk ∧ w.cmd.ring < 4 ∧
      w.cmd.gen = (u.lane w.lane).rd (Reg.RNG_IDX.GEN w.cmd.ring))
    (stage 1000005 { ringUp id with pwr := { state := 0, vote := some { lane := .A, cmd := cmdOf 32 0 [3], target := 3, at_ := 5, answers := [], got := [] } } })) 1000005 { lane := .A, cmd := cmdOf 32 0 [3], target := 3, at_ := 5, answers := [], got := [] }) ∧
    ((fun tm tK target => MeetsM tm (.retentionEdgeEntry tm)
    (fun _ u => u.pwr.tK = some (tK, target) ∧ tK + 200000 ≤ u.clk ∧ u.wit.powered = true ∧
      u.lA.powered = true ∧ u.lB.powered = true ∧ u.lC.powered = true)
    (stage 200005 { up with pwr := { state := 0, tK := some (5, 3) } })) 200005 5 3) ∧
    ((fun tm => Meets tm (.retentionEdgeWake tm)
    (fun u => u.pwr.wakeAt.isSome = true ∧ u.wit.powered = true ∧ ∀ c, (u.comp c).running = true)
    (stage 5 { upW (fun w => { w with ret := 70000, tEntry := 500, nEntry := 30, lostStart := true }) with pwr := { state := 0, wakeAt := some 3 } })) 5) ∧
    ((fun tm bits a src => MeetsM tm (.wakeTelegramEnd tm bits)
    (fun _ u => u.wit.powered = true ∧ telegramAddr bits = some a ∧ u.wakeMatch a = some src ∧ u.pwr.tK = none)
    (stage 5 { upW (fun w => { w with image := some { laneRegs := [], compRegs := [], nodes := [50, 51, 52], tables := [], init := [], svn := 0, digest := 12 }, release := false }) with pwr := { state := 0 } })) 5 ([true, false, true, false] ++ [false,false,false,false,false,true,true,false,false,true,false] ++ [true]) 50 2) ∧
    ((fun tm bits => MeetsM tm (.wakeTelegramEnd tm bits)
    (fun _ u => telegramAddr bits = none ∨ u.pwr.state = 4)
    (stage 5 up)) 5 [true, true]) ∧
    ((fun tm c => Meets tm (.timebaseLock tm c)
    (fun u => (u.comp c).powered = true ∧ (u.comp c).flag Reg.CTB_STAT.FAIL = false)
    (stage 5 (upCA (fun x => { x with running := false })))) 5 .CA) ∧
    ((fun tm bits a src tK => Meets tm (.wakeTelegramEnd tm bits)
    (fun u => u.wit.powered = true ∧ u.pwr.state ≠ 4 ∧ telegramAddr bits = some a ∧ u.wakeMatch a = some src ∧ u.pwr.tK = some tK)
    (stage 50 { upW (fun w => { w with image := some image0 }) with pwr := { state := 0, tK := some (5, 3) } })) 50 ([true, false, true, false] ++ [false,false,false,false,false,true,true,false,false,true,false] ++ [true]) 50 2 (5, 3)) ∧
    ((fun tm tK target => MeetsM tm (.retentionEdgeEntry tm)
    (fun _ u => u.pwr.tK = some (tK, target) ∧ tK + 200000 ≤ u.clk ∧ u.wit.powered = true ∧
      u.lA.powered = true ∧ u.lB.powered = true ∧ u.lC.powered = true)
    (stage 200005 { up with pwr := { state := 0, tK := some (5, 3), wakeAt := some 6 } })) 200005 5 3) := by
  refine ⟨?_, ?_, ?_, ?_, ?_, ?_, ?_, ?_, ?_, ?_⟩
  · decide +kernel
  · decide +kernel
  · decide +kernel
  · decide +kernel
  · simp only [forall_lane, forall_comp, Bool.forall_bool]; decide +kernel
  · decide +kernel
  · decide +kernel
  · decide +kernel
  · decide +kernel
  · decide +kernel

theorem test_meets_SuppliesAndClocks :
    ((fun tm l n c => (n < 4) ∧ Meets tm (.padRelease tm l n)
    (fun u => (u.lane l).powered = true ∧ ((u.lane l).st ≠ .minimal ∨ n = 0 ∨ n = 3) ∧ (u.lane l).rd Reg.LCS_STATE.STATE ≠ 5 ∧
      u.adopted l = some c ∧ ((u.comp c).handshake = false ∨ n = 0) ∧
      (if n = 0 then (u.lane l).flag (Reg.PWR_PAD_STAT.HELD 0) = true else hasBit (u.comp c).pads n = true))
    (stage 5 (upA (lset [(Reg.PWR_PAD_STAT.HELD 0, 1)])))) 5 .A 0 .CA) ∧
    ((fun tm l n => Meets tm (.padRelease tm l n)
    (fun u => (u.lane l).rd Reg.LCS_STATE.STATE = 5 ∨ ((u.lane l).st = .minimal ∧ (n = 1 ∨ n = 2)) ∨
      (n ≠ 0 ∧ ∃ c, u.adopted l = some c ∧ (u.comp c).handshake = true))
    (stage 5 (upA (fun x => { x with st := .minimal })))) 5 .A 2) ∧
    ((fun tm c => Meets tm (.crystalFail tm c)
    (fun u => (u.comp c).powered = true ∧ (u.comp c).flag Reg.CTB_STAT.FAIL = false ∧ (u.lane (homeLane c)).inStart = false)
    (stage 5 (upCA drives))) 5 .CA) ∧
    ((fun tm c => Meets tm (.crystalFail tm c)
    (fun u => (u.comp c).powered = true ∧ (u.comp c).flag Reg.CTB_STAT.FAIL = false ∧
      (u.lane (homeLane c)).powered = true ∧ (u.lane (homeLane c)).inStart = true)
    (stage 5 (starting .boot id))) 5 .CA) ∧
    ((fun tm => Meets tm (.retentionOscFail tm)
    (fun u => u.wit.powered = true)
    (stage 5 up)) 5) ∧
    ((fun tm l c tS => Meets tm (.companionLockTimeout tm l)
    (fun u => homeComp l = some c ∧ (u.lane l).start.tS = some tS ∧ (u.lane l).powered = true ∧ (u.lane l).st = .boot ∧
      tS + 500000 ≤ u.clk ∧ (u.comp c).running = false)
    (stage 500005 { starting .boot id with cA := { upComp with running := false } })) 500005 .A .CA 5) ∧
    ((fun tm l => MeetsM tm (.supplyLoss tm l true)
    (fun _ u => (u.lane l).powered = true ∧ (u.lane l).st = .active)
    (stage 5 up)) 5 .A) ∧
    ((fun tm l => MeetsM tm (.supplyLoss tm l false)
    (fun _ u => (u.lane l).powered = true)
    ({ stage 5 up with mems := { a := { cells := [⟨4, 2⟩] }, b := { cells := [⟨4, 2⟩] } } })) 5 .A) ∧
    ((fun tm c => Meets tm (.companionSupplyLoss tm c)
    (fun u => (u.comp c).powered = true ∧ (u.lane (homeLane c)).inStart = false)
    (stage 5 (upCA drives))) 5 .CA) ∧
    ((fun tm => MeetsM tm (.witnessSupplyLoss tm)
    (fun _ _ => True)
    (stage 5 up)) 5) ∧
    ((fun tm c t => Meets tm (.companionOvertemp tm c)
    (fun u => (u.comp c).powered = true ∧ (u.comp c).tCmp = some t)
    (stage 5 (upCA (fun x => { drives x with front := { x.front with t0 := 2561, t1 := 300 } })))) 5 .CA 2561) ∧
    ((fun tm c t => Meets tm (.companionTempReturn tm c)
    (fun u => (u.comp c).tCmp = some t)
    (stage 5 (upCA (fun x => { x with overtemp := true, front := { x.front with t0 := 2399, t1 := 300 } })))) 5 .CA 2399) ∧
    ((fun tm l tS hupOk => Meets tm (.hupChargeCheck tm l hupOk)
    (fun u => (u.lane l).start.tS = some tS ∧ (u.lane l).powered = true ∧ (u.lane l).inStart = true ∧ l ≠ .D)
    (stage 5 (starting .selftest (fun x => { x with start := { x.start with inj := true } })))) 5 .A 5 true) ∧
    ((fun tm l => Meets tm (.hupLow tm l)
    (fun u => (u.lane l).powered = true ∧ (u.lane l).started = true)
    (stage 5 up)) 5 .A) ∧
    ((fun tm l n c => (n < 4) ∧ Meets tm (.padRelease tm l n)
    (fun u => (u.lane l).powered = true ∧ ((u.lane l).st ≠ .minimal ∨ n = 0 ∨ n = 3) ∧ (u.lane l).rd Reg.LCS_STATE.STATE ≠ 5 ∧
      u.adopted l = some c ∧ ((u.comp c).handshake = false ∨ n = 0) ∧
      (if n = 0 then (u.lane l).flag (Reg.PWR_PAD_STAT.HELD 0) = true else hasBit (u.comp c).pads n = true))
    (stage 5 (upCA (fun x => { x with pads := 8 })))) 5 .A 3 .CA) ∧
    ((fun tm l n => Meets tm (.padRelease tm l n)
    (fun u => (u.lane l).rd Reg.LCS_STATE.STATE = 5 ∨ ((u.lane l).st = .minimal ∧ (n = 1 ∨ n = 2)) ∨
      (n ≠ 0 ∧ ∃ c, u.adopted l = some c ∧ (u.comp c).handshake = true))
    (stage 5 (upCA (fun x => { x with pads := 8, handshake := true })))) 5 .A 3) := by
  refine ⟨?_, ?_, ?_, ?_, ?_, ?_, ?_, ?_, ?_, ?_, ?_, ?_, ?_, ?_, ?_, ?_⟩
  · decide +kernel
  · exact .inr (.inl (by decide +kernel))
  · decide +kernel
  · decide +kernel
  · decide +kernel
  · decide +kernel
  · decide +kernel
  · decide +kernel
  · decide +kernel
  · decide +kernel
  · decide +kernel
  · decide +kernel
  · decide +kernel
  · decide +kernel
  · decide +kernel
  · exact .inr (.inr ⟨by decide, .CA, by decide +kernel⟩)

theorem test_meets_LaneStart :
    ((fun tm => Meets tm (.witnessPowerOn tm)
    (fun u => u.wit.powered = false)
    (stage 5 {})) 5) ∧
    ((fun tm l c st => Meets tm (.supplyGood tm l true)
    (fun u => homeComp l = some c ∧ u.wit.powered = true ∧ u.wit.release = true ∧ (u.lane l).powered = false ∧
      lifeOf (u.lane l).fuses.life = some st)
    (stage 7 { wit := upWit, pwr := { state := 0 } })) 7 .A .CA 1) ∧
    ((fun tm l o i => let calm := fun (u : Dev) (l : LaneId) => (u.lane l).powered = true ∧ (u.lane l).st = .boot ∧ l ≠ .D ∧
    (u.lane l).rdn.beacon.isSome = true ∧ u.wit.flag Reg.WIT_VAULT.CERT = false
  Meets tm (.bootComplete tm l o)
    (fun u => let x := u.lane l
      let img := if i = 0 then o.imgA else o.imgB
      calm u l ∧ x.fusesOk = true ∧ x.life ≠ 0 ∧ x.life ≠ 5 ∧ o.supOk = true ∧ o.mramOk = true ∧ x.mram.trimsLost = false ∧
      x.mram.wearLost ≠ 3 ∧ x.selectSlot (x.slotOk 0 o.sigA o.hashA) (x.slotOk 1 o.sigB o.hashB) = some i ∧
      ruleBroken img (fun k => (Sparse.look x.mram.keys k).isSome) = none)
    (stage 7 (starting .boot (fun x =>
      { (lset [(Reg.LCS_STATE.STATE, 1)] x) with mram := { x.mram with img := [(0, 0x52530001), (1, 15)] } })))) 7 .A goodBoot 0) ∧
    ((fun tm l o =>
  let calm := fun (u : Dev) (l : LaneId) => (u.lane l).powered = true ∧ (u.lane l).st = .boot ∧ l ≠ .D ∧
    (u.lane l).rdn.beacon.isSome = true ∧ u.wit.flag Reg.WIT_VAULT.CERT = false
  Meets tm (.bootComplete tm l o)
    (fun u => calm u l)
    (stage 7 (starting .boot id))) 7 .A { goodBoot with supOk := false }) ∧
    ((fun tm l => Meets tm (.setupLock tm l)
    (fun u => (u.lane l).powered = true ∧ (u.lane l).st = .boot ∧ (u.lane l).life ≠ 0 ∧ (u.lane l).life ≠ 5 ∧
      (u.lane l).flag Reg.LCTL_SETUP.LOCK = false)
    (stage 7 (starting .boot id))) 7 .A) ∧
    ((fun tm at_ l => Meets tm (.vaultImageWriteDone tm)
    (fun u => u.wit.copying = some (at_, l))
    (stage 7 (upW (fun x => { x with copying := some (3, .A) })))) 7 3 .A) ∧
    ((fun tm l c r => Meets tm (.calibComplete tm l r)
    (fun u => (u.lane l).powered = true ∧ (u.lane l).st = .calib ∧ u.adopted l = some c ∧ (u.lane l).life ≠ 5)
    (stage 7 (starting .calib id))) 7 .A .CA { goodCalib with done := true }) ∧
    ((fun tm c g r => Meets tm (.companionCalibCommand tm c r)
    (fun u => (u.comp c).goodAt = some g ∧ u.wit.powered = true ∧ (u.comp c).powered = true ∧ (u.comp c).calRun = false)
    (stage 3500007 { starting .off id with cA := { upComp with calRun := false, goodAt := some 7 } }))
      3500007 .CA 7 goodCalib) ∧
    ((fun tm l => Meets tm (.memoryBistComplete tm l [])
    (fun u => (u.lane l).powered = true ∧ (u.lane l).selfTesting l = true ∧ (u.lane l).start.mbist = false)
    (stage 7 (starting .selftest id))) 7 .A) ∧
    ((fun tm l k row => (k < 64) ∧ Meets tm (.memoryBistComplete tm l [.row k row])
    (fun u => (u.lane l).powered = true ∧ (u.lane l).selfTesting l = true ∧ (u.lane l).start.mbist = false ∧
      (u.lane l).rd (Reg.MEM_BANK_STAT.ROWS k) < 8)
    (stage 7 (starting .selftest id))) 7 .A 3 17) ∧
    ((fun tm l => (l ≠ .D) ∧ Meets tm (.memoryBistComplete tm l [.supervisor])
    (fun u => (u.lane l).powered = true ∧ (u.lane l).st = .selftest ∧ (u.lane l).start.mbist = false)
    (stage 7 (starting .selftest id))) 7 .A) ∧
    ((fun tm l => MeetsM tm (.memoryInitComplete tm l)
    (fun _ u => (u.lane l).powered = true ∧ (u.lane l).selfTesting l = true ∧ (u.lane l).start.mbist = true ∧
      (u.lane l).start.init = false)
    ({ stage 7 (starting .selftest (fun x => { x with start := { x.start with mbist := true, img := some image0 } })) with mems := { a := { cells := [⟨4, 2⟩], cond := [(3, .uncorr)] } } })) 7 .A) ∧
    ((fun tm l => Meets tm (.logicBistSlotGrant tm)
    (fun u => u.wit.powered = true ∧ u.wit.flag Reg.WIT_BIST.BUSY = false ∧ u.nextSlot = some l ∧ l ≠ .D)
    (stage 7 (let d := starting .selftest id;
      { d with wit := { d.wit with bistQ := [.C, .B] }, lB := d.lA, lC := { d.lA with rdn := { d.lA.rdn with beacon := none } } }))) 7 .B) ∧
    ((fun tm l => Meets tm (.logicBistComplete tm l ⟨0, []⟩ [])
    (fun u => (u.lane l).powered = true ∧ (u.lane l).st = .selftest ∧ (u.lane l).start.init = true ∧ (u.lane l).start.lbist = false ∧
      (u.lane l).start.slotAt.isSome = true ∧ 2 ≤ (u.lane l).slicesLeft)
    (stage 7 (starting .selftest (fun x =>
      { (id x) with start := { x.start with mbist := true, init := true, slotAt := some 6 } })))) 7 .A) ∧
    ((fun tm l => (l ≠ .D) ∧ Meets tm (.logicBistComplete tm l ⟨1, []⟩ [])
    (fun u => (u.lane l).powered = true ∧ (u.lane l).st = .selftest ∧ (u.lane l).start.init = true ∧ (u.lane l).start.lbist = false ∧
      (u.lane l).start.slotAt.isSome = true ∧ (u.lane l).flag (Reg.CHX_SLICE.RETIRED 0) = false ∧ (u.lane l).slicesLeft = 2)
    (stage 7 (starting .selftest (fun x =>
      { (lset [(Reg.CHX_SLICE.RETIRED 2, 1)] x) with start := { x.start with mbist := true, init := true, slotAt := some 6 } })))) 7 .A) ∧
    ((fun tm l pass bitNo => (l ≠ .D) ∧ Meets tm (.injectionTestComplete tm l pass bitNo true)
    (fun u => (u.lane l).powered = true ∧ (u.lane l).st = .selftest ∧ (u.lane l).start.init = true ∧ (u.lane l).start.lbist = true ∧
      (u.lane l).start.inj = false ∧ (u.lane l).isSplit = false)
    (stage 7 (starting .selftest (fun x =>
      { (id x) with start := { x.start with mbist := true, init := true, slotAt := some 6, lbist := true } })))) 7 .A true 5) ∧
    ((fun tm l tS => (l ≠ .D) ∧ Meets tm (.startDeadline tm l)
    (fun u => (u.lane l).start.tS = some tS ∧ (u.lane l).powered = true ∧ (u.lane l).inStart = true ∧
      (u.lane l).limitApplies = true)
    (stage 16000005 (starting .selftest id))) 16000005 .A 5) ∧
    ((fun tm l c => Meets tm (.supplyGood tm l false)
    (fun u => homeComp l = some c ∧ u.wit.powered = true ∧ u.wit.release = true ∧ (u.lane l).powered = false)
    (stage 7 { wit := upWit, pwr := { state := 0 } })) 7 .A .CA) ∧
    ((fun tm l c ok => Meets tm (.supplyGood tm l ok)
    (fun u => homeComp l = some c ∧ u.wit.powered = true ∧ u.wit.release = true ∧ (u.lane l).powered = true ∧
      (u.comp c).powered = false)
    (stage 7 (upCA (fun x => { x with powered := false })))) 7 .A .CA true) ∧
    ((fun tm l e => Meets tm (.logicBistComplete tm l ⟨0, [e]⟩ [])
    (fun u => (u.lane l).powered = true ∧ (u.lane l).st = .selftest ∧ (u.lane l).start.init = true ∧
      (u.lane l).start.lbist = false ∧ (u.lane l).start.slotAt.isSome = true ∧ 2 ≤ (u.lane l).slicesLeft ∧
      (u.lane l).eng.permanent (u.laneTime l).1 (bistCmp e).loc = false)
    (stage 7 (starting .selftest (fun x =>
      { (id x) with start := { x.start with mbist := true, init := true, slotAt := some 6 } })))) 7 .A { kind := .result, loser := some 1, outcome := 1, bit := 3, unit := 0, phys := none }) := by
  refine ⟨?_, ?_, ?_, ?_, ?_, ?_, ?_, ?_, ?_, ?_, ?_, ?_, ?_, ?_, ?_, ?_, ?_, ?_, ?_, ?_⟩ <;> decide +kernel

theorem test_meets_DeviceStart :
    ((fun tm =>
  let abc := [LaneId.A, .B, .C]
  Meets tm (.startDecision tm)
    (fun u => u.wit.decided = false ∧ ∀ l ∈ abc, (u.lane l).st = .ready ∨ (u.lane l).st = .minimal)
    (stage 7 (let l := (fun x : Lane => { x with st := .ready }) upLane;
      { up with lA := l, lB := { l with st := .minimal }, lC := l, wit := { upWit with decided := false, readyAt := none } }))) 7) ∧
    ((fun tm l =>
  let abc := [LaneId.A, .B, .C]
  (l ∈ abc) ∧ Meets tm (.startDecision tm)
    (fun u => (u.lane l).st = .boot ∧ (u.lane l).start.tS0 = none)
    (stage 7 (up.modLane .B (fun x => { x with st := .boot })))) 7 .B) ∧
    ((fun tm p q => (p ≠ q) ∧ Meets tm (.deviceReady tm)
    (fun u => u.wit.powered = true ∧ u.wit.decided = true ∧ u.wit.readyAt = none ∧ u.wit.copying = none ∧
      u.wit.flag Reg.WIT_STAT.DEV_MINIMAL = false ∧ ∀ l ∈ [p, q], (u.lane l).powered = true ∧ (u.lane l).start.counted = true ∧
        (u.lane l).st = .ready ∧ (u.lane l).rd Reg.JLF_START_STAT.PHASE = 5)
    (stage 7 (let l : Lane := { upLane with st := .ready, start := { counted := true } };
      { up with lA := l, lC := l, lB := { l with st := .minimal }, wit := { upWit with readyAt := none } }))) 7 .A .C) ∧
    ((fun tm at_ p q => (p ≠ q) ∧ Meets tm (.firstActiveEntry tm)
    (fun u => u.wit.readyAt = some at_ ∧ at_ ≤ u.clk ∧ u.actives = [] ∧
      ∀ l ∈ [p, q], (u.lane l).start.counted = true ∧ (u.lane l).st = .ready)
    (stage 7 (let l : Lane := { upLane with st := .ready, start := { counted := true } };
      { up with lA := l, lC := l, lB := { l with st := .minimal }, wit := { upWit with readyAt := some 6 } }))) 7 6 .A .C) ∧
    ((fun tm l c => Meets tm (.startCntClear tm l)
    (fun u => (u.lane l).start.cleanAt = some c ∧ (u.lane l).powered = true ∧ (u.lane l).st = .active)
    (stage 60000000005 (upA (fun x =>
      { (lset [(Reg.LCTL_START_CNT.COUNT, 1)] x) with start := { cleanAt := some 5, svn := 3 } })))) 60000000005 .A 5) := by
  refine ⟨?_, ?_, ?_, ?_, ?_⟩ <;> decide +kernel

theorem test_meets_RecorderAndWear :
    ((fun tm l => Meets tm (.coalesceWindowEnd tm l)
    (fun u => (u.lane l).powered = true)
    (stage 5 (upA (fun x =>
      { x with bbx := { x.bbx with groups := [({ time := 900000, id := 3, lane := 0, sev := 1, approx := false, epoch := 0, data := 2 }, 4)] } })))) 5 .A) ∧
    ((fun tm l => Meets tm (.tokenRefill tm l)
    (fun u => (u.lane l).powered = true ∧ (u.laneTime l).1 % 100000 = 0)
    (stage 5 (upA (fun x => { x with bbx := { x.bbx with refill := 900000, used := [(1, 3), (2, 40)] } })))) 5 .A) ∧
    ((fun tm l k e => Meets tm (.postWindowEnd tm l)
    (fun u => (u.lane l).bbx.win = some (k, e))
    (stage 5 (upA (fun x => { x with bbx := { x.bbx with win := some (1, 5) } })))) 5 .A 1 5) ∧
    ((fun tm l k => MeetsM tm (.capsuleCommitDone tm l)
    (fun _ u => (u.lane l).bbx.committing = some k ∧ ∀ r, (u.lane r).bbx.groups = [])
    (stage 5 (upA (fun x =>
      { x with bbx := { x.bbx with caps := [(1, { frozen := true, postClosed := true, trigger := some { time := 900000, id := 3, lane := 0, sev := 1, approx := false, epoch := 0, data := 2 } })] } })))) 5 .A 1) ∧
    ((fun tm l q => Meets tm (.journalPageWrite tm l false)
    (fun u => (u.lane l).powered = true ∧ 63 ≤ (u.lane l).bbx.page.length ∧ (u.lane l).nextPage (u.lane l).bbx.nextPg = some q)
    (stage 5 (upA (fun x =>
      { x with bbx := { x.bbx with page := List.replicate 64 ({ time := 5, id := 3, lane := 0, sev := 1, approx := false, epoch := 0, data := 2 }), nextPg := 767 } })))) 5 .A 767) ∧
    ((fun tm l q n => Meets tm (.journalPageWrite tm l true)
    (fun u => (u.lane l).powered = true ∧ 63 ≤ (u.lane l).bbx.page.length ∧ (u.lane l).nextPage (u.lane l).bbx.nextPg = some q ∧
      (u.lane l).rd Reg.WEAR_MRAM.SPARES_LEFT = n + 1 ∧ n < 64)
    (stage 5 (upA (fun x => (lset [(Reg.WEAR_MRAM.SPARES_LEFT, 64)]
      { x with bbx := { x.bbx with page := List.replicate 64 ({ time := 5, id := 3, lane := 0, sev := 1, approx := false, epoch := 0, data := 2 }), nextPg := 3 } }))))) 5 .A 3 63) ∧
    ((fun tm l k => Meets tm (.summaryAck tm l k)
    (fun u => (u.lane l).powered = true ∧ 1 ≤ k ∧ k ≤ 4 ∧ (Sparse.get {} (u.lane l).bbx.caps k).state = 1 ∧
      u.wit.powered = true)
    (stage 5 ((upA (fun x => { x with bbx := { x.bbx with caps := [(1, { state := 1, serial := 7 })] } })).modWit (fun w =>
      { w with summs := [(0, { serial := 7 })] })))) 5 .A 1) ∧
    ((fun tm l => Meets tm (.clearCapsuleForward tm l)
    (fun u => (u.lane l).powered = true)
    (stage 5 ((upA (fun x =>
      { x with bbx := { x.bbx with caps := [(1, { state := 1, serial := 7, first := true })] } })).modWit (wset
      [(Reg.WIT_SUMM.VALID 0, 1)])))) 5 .A) ∧
    ((fun tm l item left => Meets tm (.refreshStep tm l .clean false)
    (fun u => (u.lane l).powered = true ∧ (u.lane l).started = true ∧ (u.lane l).mram.stepAt + 1000000 ≤ u.clk ∧
      (u.lane l).mram.refresh = some (item, left))
    (stage 1000005 (upA (fun x => { x with mram := { x.mram with refresh := some (2, 1), stepAt := 5 } })))) 1000005 .A 2 1) ∧
    ((fun tm l => Meets tm (.wearRecordWrite tm l false)
    (fun u => (u.lane l).powered = true ∧ (u.lane l).mram.dirty.isSome = true)
    (stage 5 (upA (fun x =>
      { x with mram := { x.mram with dirty := some 3, copies := [(0, { gen := 4 }), (1, { gen := 3 })], wear := { gen := 4 } } })))) 5 .A) ∧
    ((fun tm l => Meets tm (.serviceClockHour tm l)
    (fun u => (u.lane l).powered = true)
    (stage 5 (upA (fun x => { x with mram := { x.mram with wear := { hours := 7 } } })))) 5 .A) ∧
    ((fun tm l link => (link < 10) ∧ Meets tm (.xlkWireFail tm l link)
    (fun u => (u.lane l).powered = true ∧ l ∈ linkEnds link)
    (stage 5 up)) 5 .A 0) := by
  refine ⟨?_, ?_, ?_, ?_, ?_, ?_, ?_, ?_, ?_, ?_, ?_, ?_⟩
  · decide +kernel
  · decide +kernel
  · decide +kernel
  · simp only [forall_lane, forall_comp, Bool.forall_bool]; decide +kernel
  · decide +kernel
  · decide +kernel
  · decide +kernel
  · decide +kernel
  · decide +kernel
  · decide +kernel
  · decide +kernel
  · decide +kernel

theorem test_meets_LifeCycle :
    ((fun tm l => Meets tm (.certSubmit tm l)
    (fun u => (u.lane l).powered = true)
    (stage 5 up)) 5 .A) ∧
    ((fun tm l sigOk => Meets tm (.certVerifyDone tm l sigOk)
    (fun u => (u.lane l).powered = true ∧ (u.lane l).flag Reg.LCS_CERT_CTL.SUBMIT = true ∧ (u.lane l).life ≤ 5)
    (stage 5 (upA (lset [(Reg.LCS_CERT_CTL.SUBMIT, 1)])))) 5 .A true) ∧
    ((fun tm l w => Meets tm (.rotProgram tm l w)
    (fun u => (u.lane l).powered = true)
    (stage 5 (upA (lset [(Reg.LCS_STATE.STATE, 1)])))) 5 .A 0x20000000) ∧
    ((fun tm l w => Meets tm (.imgDataWrite tm l w)
    (fun u => (u.lane l).powered = true)
    (stage 5 (upA (fun x => lset [(Reg.LCS_IMG_PTR.PTR, 2147483668)] { x with st := .ready })))) 5 .A 0x123456789) ∧
    ((fun tm l => Meets tm (.dbgReq tm l)
    (fun u => (u.lane l).powered = true)
    (stage 5 up)) 5 .A) ∧
    ((fun tm l sigOk => Meets tm (.dbgSubmit tm l sigOk)
    (fun u => (u.lane l).powered = true ∧ (u.lane l).life ≠ 0 ∧ (u.lane l).life ≠ 5)
    (stage 5 (upA (fun x => (lset [(Reg.DBG_CTL.KEYIDX, 1), (Reg.DBG_CTL.PERM, 9)]
      { x with fuses := { x.fuses with rot := [(1, 1)] }, sec := { x.sec with used := false } }))))) 5 .A true) ∧
    ((fun tm l => Meets tm (.dbgEnd tm l)
    (fun u => (u.lane l).powered = true)
    (stage 5 (upA (fun x => lset [(Reg.DBG_STAT.OPEN, 1), (Reg.DBG_STAT.GRANTED, 9)] x)))) 5 .A) ∧
    ((fun tm l e => Meets tm (.dbgSessionTimeout tm l)
    (fun u => (u.lane l).sec.ends = some e)
    (stage 5 (upA (fun x => lset [(Reg.DBG_STAT.OPEN, 1), (Reg.DBG_STAT.GRANTED, 9)]
      { x with sec := { x.sec with ends := some 5 } })))) 5 .A 5) ∧
    ((fun tm l w => Meets tm (.keyWrite tm l w)
    (fun u => (u.lane l).powered = true)
    (stage 5 (upA (lset [(Reg.LCS_STATE.STATE, 1), (Reg.LCS_KEY_DATA.WORD 1, 77)])))) 5 .A 0x10000000) ∧
    ((fun tm l w => Meets tm (.keyErase tm l w)
    (fun u => (u.lane l).powered = true)
    (stage 5 (upA (lset [(Reg.LCS_STATE.STATE, 1), (Reg.LCS_KEY_DATA.WORD 1, 77)])))) 5 .A 0x10000000) ∧
    ((fun tm l v0 => Meets tm ((Instr.tapReset tm l, 2)).1
    (fun u => (u.lane l).powered = true)
    (stage 5 up)) 5 .A 3) ∧
    ((fun tm l n pre => (8 ≤ n) ∧ (n ≤ 14) ∧ Meets tm ((Instr.extest tm l, 0)).1
    (fun u => (u.lane l).powered = true)
    (stage 5 (upA (lset [(Reg.LCS_STATE.STATE, 1)])))) 5 .A 8 3) := by
  refine ⟨?_, ?_, ?_, ?_, ?_, ?_, ?_, ?_, ?_, ?_, ?_, ?_⟩ <;> decide +kernel

theorem test_meets_RegisterAccess :
    ((fun tm l acc a w => (acc ≠ .ring) ∧ Meets tm (.registerWrite tm l acc a w)
    (fun u => (u.lane l).powered = true ∧ u.place l a = .lane ∧ (u.lane l).mayWrite acc a = true ∧ w < 2 ^ 32)
    (stage 5 (upA (lset [(Reg.LCTL_SETUP.LOCK, 1)])))) 5 .A .gnomon 0x40001000 0x12) ∧
    ((fun tm l acc a w => (acc ≠ .ring) ∧ Meets tm (.registerWrite tm l acc a w)
    (fun u => (u.lane l).powered = true ∧
      ((u.place l a = .lane ∧ (u.lane l).mayWrite acc a = false) ∨ u.place l a = .wit ∨ u.place l a = .err accDecode))
    (stage 5 up)) 5 .A .spi 0x40003000 1) ∧
    ((fun tm l acc a w => Meets tm (.registerWrite tm l acc a w)
    (fun u => (u.lane l).powered = true ∧ u.place l a = .err accNoComp)
    (stage 5 (upCA (fun x => { x with sw := .opened })))) 5 .A .gnomon 0x48000000 1) ∧
    ((fun tm l acc a w => (acc ≠ .ring) ∧ Meets tm (.registerWrite tm l acc a w)
    (fun u => (u.lane l).powered = true ∧ u.place l a = .err accTimeout)
    (stage 5 { up with wit := {} })) 5 .A .spi 0x4C000000 1) ∧
    ((fun tm l acc a => Meets tm (.loReadLatch tm l acc a)
    (fun u => (u.lane l).powered = true ∧ u.place l a = .lane)
    (stage 5 up)) 5 .A .gnomon 0x40007004) ∧
    ((fun tm l a => MeetsM tm (.spiRead tm l a)
    (fun _ u => (u.lane l).powered = true ∧ a < 2 ^ 32 ∧ u.place l a = .lane ∧
      Sparse.look (u.lane l).latch (latchKey a (accCode .spi l)) = none)
    (stage 5 up)) 5 .A 0x40000000) ∧
    ((fun tm l a => MeetsM tm (.spiRead tm l a)
    (fun m u => (u.lane l).powered = true ∧ a < 0x400000 ∧ a % 4 = 0 ∧ Sparse.look (m.lane l).cond (a / 8) = none)
    ({ stage 5 (upA (lset [])) with mems := { a := { cells := [⟨64, 9⟩, ⟨66, 3⟩] } } })) 5 .A 64) ∧
    ((fun tm l a w => MeetsM tm (.spiWrite tm l a w)
    (fun m u => (u.lane l).powered = true ∧ a < 0x400000 ∧ a % 4 = 0 ∧ Sparse.look (m.lane l).cond (a / 8) = none)
    ({ stage 5 (upA (lset [])) with mems := { a := { cells := [⟨64, 9⟩, ⟨66, 3⟩] } } })) 5 .A 68 0x12345) ∧
    ((fun tm l acc a wr moved acked => Meets tm (.companionRegisterAccess tm l acc a wr moved acked)
    (fun u => (u.lane l).powered = true ∧ 0x48000000 ≤ a ∧ a < 0x48010000 ∧ a % 4 = 0 ∧
      ((moved = false ∧ u.reaches l = none) ∨ (moved = true ∧ (wr = none ∨ acked = false))))
    (stage 5 { up with lD := upLane })) 5 .D .spi 0x48000000 none false false) ∧
    ((fun tm l acc a w moved acked c => Meets tm (.companionRegisterAccess tm l acc a (some w) moved acked)
    (fun u => (u.lane l).powered = true ∧ 0x48000000 ≤ a ∧ a < 0x48010000 ∧ a % 4 = 0 ∧ (u.lane l).mayWrite acc a = true ∧
      (u.comp c).powered = true ∧ w < 2 ^ 32 ∧ fieldsAt a ≠ [] ∧
      ((moved = false ∧ u.reaches l = some c) ∨ (moved = true ∧ acked = true ∧ u.carried l = some c)))
    (stage 5 up)) 5 .A .gnomon 0x48001000 7 false false .CA) ∧
    ((fun tm l x => Meets tm (.crosslinkTimeout tm l)
    (fun u => (u.lane l).xacc = some x ∧ (u.lane l).ring.regsRd = none ∧ (u.lane l).powered = true)
    (stage 2005 (upA (fun x => { x with xacc := some { addr := 0x4C000000, spi := true, at_ := 5 } })))) 2005 .A
      { addr := 0x4C000000, spi := true, at_ := 5 }) ∧
    ((fun tm l acc n => (acc ≠ .ring) ∧ (n < 16) ∧ Meets tm (.slackMinClr tm l acc n)
    (fun u => (u.lane l).powered = true)
    (stage 5 up)) 5 .A .gnomon 3) ∧
    ((fun tm l acc n => (acc ≠ .ring) ∧ (n < 10) ∧ Meets tm (.maxwaitClr tm l acc n)
    (fun u => (u.lane l).powered = true)
    (stage 5 up)) 5 .A .gnomon 3) ∧
    ((fun tm l acc w => (acc ≠ .ring) ∧ Meets tm (.arbPrioWrite tm l acc w)
    (fun u => (u.lane l).powered = true)
    (stage 5 up)) 5 .A .gnomon 0x12345670) ∧
    ((fun tm l a => Meets tm (.crosslinkTimeout tm l)
    (fun u => (u.lane l).xacc = none ∧ (u.lane l).ring.regsRd = some a ∧ (u.lane l).powered = true ∧ a.left = [] ∧
      a.cmd.ring < 4 ∧ a.cmd.gen = (u.lane l).rd (Reg.RNG_IDX.GEN a.cmd.ring) ∧
      ∀ k ∈ (u.lane l).ring.cmds, opcodes.contains k.opcode = true)
    (stage 2005 (upA (fun x => { x with ring := { x.ring with regsRd := some { cmd := cmdOf 16 0 [], bytes := [], mask := 1, word := 1, addr := 0x60000000, left := [], at_ := 5 } } })))) 2005 .A
      { cmd := cmdOf 16 0 [], bytes := [], mask := 1, word := 1, addr := 0x60000000, left := [], at_ := 5 }) := by
  refine ⟨?_, ?_, ?_, ?_, ?_, ?_, ?_, ?_, ?_, ?_, ?_, ?_, ?_, ?_, ?_⟩ <;> decide +kernel

/-! ### Premises of the clauses about one operation -/

/-- A high side past its dead time; the fourth settled comparison of an isolation and of a shadow, each beyond SUM_TH; the
states of spare slots at a cycle's end; and a proof that finds nothing amiss (R132, R164, R254, R295). -/
theorem test_meets_operations :
    (let x := { drives upComp with ticks := 1000000 + (upComp.pulseLimits false).all / 64, b0 :=
        { (drives upComp).b0 with reloadAt := 1000000, phases := [(3200, 3200), (0, 0), (0, 0)] } }
     (up.modComp .CA (fun _ => x)).gateOn .CA false 0 = true) ∧
    (let d := upCA (fun x => { cset [(Reg.MFE_CFG.SUM_TH, 1), (Reg.MFE_SPARE.SHADOW0, 2)] x with
        b0 := { x.b0 with iso := some { spare := 1, phase := 1, seen := 3, diffs := 3 } } })
     (d.comp .CA).shadowReady 1000000 1 1000000 = true ∧ (d.comp .CA).server 1 = some 1 ∧ (d.comp .CA).isolates 0 = false ∧
     (d.comp .CA).shadowReady 1000000 0 1000000 = true ∧ 64 < ((d.comp .CA).spareResult 1 centreObs - 6).natAbs ∧
     (d.comp .CA).rd (shadowFld 0) = 2 ∧ 64 < ((d.comp .CA).spareResult 0 centreObs - 100).natAbs) ∧
    (let w : SpareView := { claims := [7], senders := [7], got := [7] }
     (∀ x ∈ w.senders, x = 7) ∧ ({ w with st := .free } : SpareView).endCycle.st = .claiming 7 1 ∧
     ({ w with st := .claiming 7 2 } : SpareView).endCycle.st = .claimed 7 ∧ ({ w with st := .claiming 8 2 } : SpareView).endCycle.st = .free ∧
     ({ w with st := .claimed 7, got := [], quiet := 6 } : SpareView).endCycle.quiet = 7 ∧
     ({ w with st := .claimed 7, got := [], quiet := 7 } : SpareView).endCycle.st = .free ∧
     ∀ m ∈ w.claims, ∃ x ∈ [7, 9], x ≠ m) ∧
    (let view : SpareView := { st := .claiming 45 2, claims := [45], senders := [45] }
     let d := fabUp 5 (fun x => x.modFab (fun g => { g with spares := [(6, view)] })) id
     (d.comp .CA).slotsWhere (d.lane .A) entIsSpare = [6] ∧
     (Sparse.get ({} : SpareView) (d.lane .A).fab.spares 6).claimant = some 45) ∧
    ({ upW (fun w => { w with image := some image0 }) with lD := { upLane with
        fuses := { life := 3 }, start := { mbist := true, lbist := true, inj := true } } } : Dev).proofFails 0 = 0 := by
  refine ⟨?_, ?_, ?_, ?_, ?_⟩ <;> decide +kernel

/-! ### Ill-formed commands: one for each check of `Instr.wf` -/

theorem test_wf_refuses_engine :
    ([.movz { issueA with pg := 1 } 1 0 0, .movk { issueA with pn := true } 1 0 0, .add { issueA with fetch := .corrected 72 } 1 1 1,
      .ld { issueA with data := .corrected 72 } 1 1 1, .sub { issueA with contend := [(10, 0)] } 1 1 1,
      .mul { issueA with hits := [(128, 0)] } 1 1 1, .min { issueA with phits := [16] } 1 1 1,
      .illegalEncoding issueA 0, .overrun 0 .A 16, .candidateStaged 0 .A 4] : List Instr).all (fun i => !i.wf) = true := by
  decide +kernel

theorem test_wf_refuses_companion :
    ([.desat 0 .CA false ⟨6, 0⟩, .hwOc 0 .CA false [0, 0], .gateTimeout 0 .CA false 6, .modulatorFail 0 .CA 8, .currentLimit 0 .CA false [],
      .pwmCentre 0 .CA false { centreObs with vU := [] }, .pwmCentre 0 .CA false { centreObs with vBr := 4096 },
      .pwmCentre 0 .CA false { centreObs with aux := [] }, .pwmCentre 0 .CA false { centreObs with vref := 0 },
      .spareSettled 0 .CA 2, .spareShadowRotate 0 .CA 2 0, .spareShadowRotate 0 .CA 0 6, .sumCheckFail 0 .CA false 2, .converterShadowStep 0 .CA 3, .bridgeSensorOpen 0 .CA 2, .sentStale 0 .CA 4,
      .sentMessage 0 .CA 4 { cal := 0, nibs := [], pause := none }, .signalWarning 0 .CA 3, .trackCheckStart 0 .CA 3,
      .trackCheckEnd 0 .CA 3 false, .positionSample 0 .CA 3 { sin := 0, cos := 0, spare := none, extrema := none },
      .probeEdge 0 .CA 2 true ⟨0, 0⟩, .sioTick 0 .CA 256 0, .sioTick 0 .CA 0 256, .pullInEnd 0 .CA 2, .darkTestStart 0 .CA 2,
      .darkTestEnd 0 .CA 2 true, .sbcOvercurrent 0 .CA 2 0, .sbcFaultDetect 0 .CA 2 0 0, .txSlot 0 .CA 2048 [],
      .claimBackoffEnd 0 .CA 4, .fqIdleTimeout 0 .CA 16, .fqFlushTakeEffect 0 .CA 16, .fqGapMarkerWrite 0 .CA 16,
      .fqRxDeliver 0 .CA 8 false] : List Instr).all (fun i => !i.wf) = true := by decide +kernel

theorem test_wf_refuses_lane :
    ([.heartbeatReceive 0 (some .A) (beat .A false 5) true, .voteEvaluate 0 (2 ^ 64), .bringInDeadline 0 4,
      .proofWakeEnd 0 256 false, .ringGenRewrite 0 .A 8, .scrubRead 0 .A 8 .clean, .scrubRead 0 .A 0 (.corrected 72),
      .repairCopyDone 0 .A 8, .arbHoldTimeout 0 .A 8, .fqFlush 0 .A (2 ^ 32), .powerVoteAnswer 0 5, .padRelease 0 .A 4,
      .memoryBistComplete 0 .A [.column 64 0], .memoryBistComplete 0 .A [.column 0 72], .memoryBistComplete 0 .A [.row 64 0],
      .memoryBistComplete 0 .A [.row 0 128], .memoryBistComplete 0 .A [.bank 64], .logicBistComplete 0 .A ⟨8, []⟩ [],
      .logicBistComplete 0 .A ⟨0, [{ kind := .result, loser := some 3, outcome := 0, bit := 0, unit := 0, phys := none }]⟩ [],
      .logicBistComplete 0 .A ⟨0, [{ kind := .result, loser := none, outcome := 3, bit := 0, unit := 0, phys := none }]⟩ [],
      .injectionTestComplete 0 .A true 64 true, .summaryAck 0 .A 0, .summaryAck 0 .A 5, .xlkWireFail 0 .A 10] :
      List Instr).all (fun i => !i.wf) = true := by decide +kernel

theorem test_wf_refuses_registers :
    ([.rotProgram 0 .A (2 ^ 32), .imgDataWrite 0 .A (2 ^ 32), .keyWrite 0 .A (2 ^ 32), .keyErase 0 .A (2 ^ 32),
      .spiRead 0 .A (2 ^ 32), .spiWrite 0 .A (2 ^ 32) 0, .spiWrite 0 .A 0 (2 ^ 32), .registerWrite 0 .A .gnomon (2 ^ 32) 0,
      .registerWrite 0 .A .gnomon 0 (2 ^ 32), .loReadLatch 0 .A .gnomon (2 ^ 32),
      .companionRegisterAccess 0 .A .gnomon (2 ^ 32) none false false,
      .companionRegisterAccess 0 .A .gnomon 0 (some (2 ^ 32)) false false, .slackMinClr 0 .A .gnomon 16,
      .maxwaitClr 0 .A .gnomon 10, .arbPrioWrite 0 .A .gnomon (2 ^ 32)] : List Instr).all (fun i => !i.wf) = true := by
  decide +kernel

/-! ### Instruction words, written out from the encodings of R39 to R53

One of each family; the obligation `WordsDecode` has others. -/

theorem test_words :
    decodeChord issueA 0 0b000001_000_0_000001_000010_000011_0000#32 = some (.div issueA 1 2 3) ∧
    decodeChord issueA 0 0b010001_001_1_011_010_000100_000101_0000#32 =
      some (.cmp { issueA with pg := 1, pn := true } 3 .lt 4 5) ∧
    decodeChord issueA 0 0b010000_000_0_000001_000010_000011_0011#32 = some (.qmul31 issueA 1 2 3) ∧
    decodeChord issueA 0 0b011000_000_0_000001_000010_000011_0000#32 = some (.fadd issueA 1 2 3) ∧
    decodeChord issueA 0 0b110000_000_0_000001_000010_1111111111#32 = some (.sd issueA 1 2 (-1)) := by decide +kernel

/-! ### The engine: one instruction of each kind, with results worked out from the rules -/

/-- 2^63 − 1 plus 1 wraps (R42); −7 ÷ 2 is −3 with remainder −1 (R43). -/
theorem test_add_wraps : after (exec (.add issueA 3 1 2) (running 0x7FFFFFFFFFFFFFFF 1 0)) 3 = some 0x8000000000000000 := by
  decide +kernel
theorem test_div_truncates : after (exec (.div issueA 3 1 2) (running (-7) 2 0)) 3 = some (-3) := by decide +kernel
theorem test_rem_sign : after (exec (.rem issueA 3 1 2) (running (-7) 2 0)) 3 = some (-1) := by decide +kernel
theorem test_g0_reads_zero : after (exec (.add issueA 0 1 2) (running 5 6 0)) 0 = some 0 := by decide +kernel
theorem test_movk_keeps : after (exec (.movk issueA 3 1 0xBEEF) (running 0 0 0x1111222233334444)) 3 = some 0x11112222BEEF4444 := by
  decide +kernel
/-- −1 × −1 in Q31 saturates to 1 − 2^−31 (R47). -/
theorem test_qmul31_saturates :
    after (exec (.qmul31 issueA 3 1 2) (running 0x80000000 0x80000000 0)) 3 = some 0x7FFFFFFF := by decide +kernel
/-- 1.5 + 2.25 = 3.75, 1 ÷ 3 rounds to nearest, √2 rounds to nearest (IEEE 754). -/
theorem test_fadd : after (exec (.fadd issueA 3 1 2) (running 0x3FC00000 0x40100000 0)) 3 = some 0x40700000 := by decide +kernel
theorem test_fdiv : after (exec (.fdiv issueA 3 1 2) (running 0x3F800000 0x40400000 0)) 3 = some 0x3EAAAAAB := by decide +kernel
theorem test_fsqrt : after (exec (.fsqrt issueA 3 1) (running 0x40000000 0 0)) 3 = some 0x3FB504F3 := by decide +kernel
/-- A load of the byte 0x80 sign-extends with LB and not with LBU (R56). -/
theorem test_lb :
    let s := { running 4097 0 0 with mems := { a := { cells := [⟨4096, 0x80⟩] } } }
    after (exec (.lb issueA 3 1 (-1)) s) 3 = some (-128) ∧ after (exec (.lbu issueA 3 1 (-1)) s) 3 = some 128 := by decide +kernel

/-! ### Worked examples of the spec -/

/-- R90, R92: the example of 03_pipeline_and_runahead, four candidates under RAMP. -/
theorem test_ramp_candidates :
    let x := (lset [(Reg.CHE_SPEC_CFG.MODE, 1), (Reg.CHE_SPEC_STEP.STEP, 1500)] upLane).modEng (fun e =>
      { e with s1 := some 123000, s2 := some 120000 })
    x.candValues 4 = [(0, 126000), (1, 123000), (2, 127500), (3, 124500)] := by decide +kernel

/-- R226: the windows of the example of 09_jaloft_timing_and_frames, on X and on Y. -/
theorem test_setpoint_window :
    let x := cset [(Reg.JMC_CFG.PI, 12), (Reg.JMC_CFG.ACTION_OFS, 20)] { upComp with
      lower := { table := [(0, 2 * 2 ^ 62 + 4000 * 2 ^ 35), (1, 2 * 2 ^ 62 + 2 * 2 ^ 59 + 760 * 2 ^ 35 + 200 * 2 ^ 15 + 210 * 2 ^ 5)] } }
    let y := lset [(Reg.JLF_CYCLE.CYCLE_US, 250), (Reg.JLF_CYCLE.NSLOTS, 2)] upLane
    x.window y false (4231 * 32) = some (0, 1) ∧ x.window y false (4233 * 32) = none ∧
    x.window y true (4233 * 32) = some (0, 1) ∧ x.window y false (4208 * 32) = some (0, 1) ∧
    x.window y false (4207 * 32) = none := by decide +kernel

/-- R243: the listen timers of the example of 10_jaloft_startup_and_membership, 500 µs and 562.5 µs. -/
theorem test_listen_timers :
    (lset [(Reg.JLF_CYCLE.CYCLE_US, 250), (Reg.JLF_START.RANK, 0)] upLane).listenTicks = 50000 ∧
    (lset [(Reg.JLF_CYCLE.CYCLE_US, 250), (Reg.JLF_START.RANK, 1)] upLane).listenTicks = 56250 := by decide +kernel

/-- R372: the example of 14_power_states_and_timebase. -/
theorem test_restored_time :
    restoredT 7200000000000 5000000 1184648123 = 10800000375366 ∧ wakeUncert 5000000 1184648123 = 1800031 := by decide +kernel

/-- R443: the record of the example of 18_lane_register_reference, in a ring and in a diagnostic slot. -/
theorem test_event_record :
    let e : Evt := { time := 0x0A2B3C4D5E6F, id := 32, lane := 1, sev := 1, approx := false, epoch := 3, data := 0x40000004 }
    e.bytes = [0x6F, 0x5E, 0x4D, 0x3C, 0x2B, 0x0A, 0x20, 0x05, 0x03, 0, 0, 0, 0x04, 0, 0, 0x40] ∧
    e.wire = [0x0A, 0x2B, 0x3C, 0x4D, 0x5E, 0x6F, 0x20, 0x05, 0, 0, 0, 0x03, 0x40, 0, 0, 0x04] := by decide +kernel

/-- R352: the example of 13_memory_arbiter_and_queues; three items in a queue, one of them open, make a marker of count 3. -/
theorem test_flush_counts :
    let wordOf := fun (start last : Bool) (cnt : Nat) => ({ gap := false, start := start, last := last, cnt := cnt, data := 0 } : FqWord)
    let f : Fq := { words := [wordOf true false 0, wordOf false false 0, wordOf false false 0, wordOf false false 0, wordOf false true 0,
      wordOf true false 0, wordOf false false 0, wordOf false true 4, wordOf true false 0, wordOf false false 0], inItem := true }
    (f.reset gapFlush).1.words = [gapWord 2 3] := by decide +kernel

/-- R257: the CMAC of the first example of NIST SP 800-38B, of the empty message. -/
theorem test_cmac_empty :
    cmac 0x2b7e151628aed2a6abf7158809cf4f3c [] =
      [0xbb, 0x1d, 0x69, 0x29, 0xe9, 0x59, 0x37, 0x28, 0x7f, 0xa3, 0x7d, 0x12, 0x9b, 0x75, 0x67, 0x46] := by decide +kernel

end Sys2Proof.Tests
end

section
/-!
SUPPORT. The fields of the instruction words of R39, and what a word of R, C or P format decodes to by its opcode.
-/
namespace Sys2Proof

/-! ### Fields of R, C and P words -/

section
variable (op : BitVec 6) (q : Issue) (rd ra rb : BitVec 6) (fn : BitVec 4)

@[simp] theorem fieldOp_wordR : fieldOp (wordR op q rd ra rb fn) = op := by
  simp [fieldOp, wordR, BitVec.extractLsb'_append_eq_of_le, -Nat.reduceAdd]
@[simp] theorem fieldPg_wordR : fieldPg (wordR op q rd ra rb fn) = q.pg := by
  simp [fieldPg, wordR, BitVec.extractLsb'_append_eq_of_le, BitVec.extractLsb'_append_eq_of_add_le, -Nat.reduceAdd]
@[simp] theorem fieldPn_wordR : fieldPn (wordR op q rd ra rb fn) = BitVec.ofBool q.pn := by
  simp [fieldPn, wordR, BitVec.extractLsb'_append_eq_of_le, BitVec.extractLsb'_append_eq_of_add_le, -Nat.reduceAdd]
@[simp] theorem fieldRd_wordR : fieldRd (wordR op q rd ra rb fn) = rd := by
  simp [fieldRd, wordR, BitVec.extractLsb'_append_eq_of_le, BitVec.extractLsb'_append_eq_of_add_le, -Nat.reduceAdd]
@[simp] theorem fieldRa_wordR : fieldRa (wordR op q rd ra rb fn) = ra := by
  simp [fieldRa, wordR, BitVec.extractLsb'_append_eq_of_le, BitVec.extractLsb'_append_eq_of_add_le, -Nat.reduceAdd]
@[simp] theorem fieldRb_wordR : fieldRb (wordR op q rd ra rb fn) = rb := by
  simp [fieldRb, wordR, BitVec.extractLsb'_append_eq_of_le, BitVec.extractLsb'_append_eq_of_add_le, -Nat.reduceAdd]
@[simp] theorem fieldFn_wordR : fieldFn (wordR op q rd ra rb fn) = fn := by
  simp [fieldFn, wordR, BitVec.extractLsb'_append_eq_of_add_le, -Nat.reduceAdd]
end

section
variable (op : BitVec 6) (q : Issue) (pd cond : BitVec 3) (ra : BitVec 6) (low : BitVec 10)

@[simp] theorem fieldOp_wordC : fieldOp (wordC op q pd cond ra low) = op := by
  simp [fieldOp, wordC, BitVec.extractLsb'_append_eq_of_le, -Nat.reduceAdd]
@[simp] theorem fieldPg_wordC : fieldPg (wordC op q pd cond ra low) = q.pg := by
  simp [fieldPg, wordC, BitVec.extractLsb'_append_eq_of_le, BitVec.extractLsb'_append_eq_of_add_le, -Nat.reduceAdd]
@[simp] theorem fieldPn_wordC : fieldPn (wordC op q pd cond ra low) = BitVec.ofBool q.pn := by
  simp [fieldPn, wordC, BitVec.extractLsb'_append_eq_of_le, BitVec.extractLsb'_append_eq_of_add_le, -Nat.reduceAdd]
@[simp] theorem fieldPd_wordC : fieldPd (wordC op q pd cond ra low) = pd := by
  simp [fieldPd, wordC, BitVec.extractLsb'_append_eq_of_le, BitVec.extractLsb'_append_eq_of_add_le, -Nat.reduceAdd]
@[simp] theorem fieldCond_wordC : fieldCond (wordC op q pd cond ra low) = cond := by
  simp [fieldCond, wordC, BitVec.extractLsb'_append_eq_of_le, BitVec.extractLsb'_append_eq_of_add_le, -Nat.reduceAdd]
@[simp] theorem fieldRa_wordC : fieldRa (wordC op q pd cond ra low) = ra := by
  simp [fieldRa, wordC, BitVec.extractLsb'_append_eq_of_le, BitVec.extractLsb'_append_eq_of_add_le, -Nat.reduceAdd]
@[simp] theorem fieldRb_wordC : fieldRb (wordC op q pd cond ra low) = low.extractLsb' 4 6 := by
  simp [fieldRb, wordC, BitVec.extractLsb'_append_eq_of_add_le, -Nat.reduceAdd]
@[simp] theorem fieldFn_wordC : fieldFn (wordC op q pd cond ra low) = low.extractLsb' 0 4 := by
  simp [fieldFn, wordC, BitVec.extractLsb'_append_eq_of_add_le, -Nat.reduceAdd]
@[simp] theorem fieldImm_wordC : fieldImm (wordC op q pd cond ra low) = low := by
  simp [fieldImm, wordC, BitVec.extractLsb'_append_eq_of_add_le, -Nat.reduceAdd]
end

section
variable (op : BitVec 6) (q : Issue) (pd func pa pb : BitVec 3)

@[simp] theorem fieldOp_wordP : fieldOp (wordP op q pd func pa pb) = op := by
  simp [fieldOp, wordP, BitVec.extractLsb'_append_eq_of_le, -Nat.reduceAdd]
@[simp] theorem fieldPg_wordP : fieldPg (wordP op q pd func pa pb) = q.pg := by
  simp [fieldPg, wordP, BitVec.extractLsb'_append_eq_of_le, BitVec.extractLsb'_append_eq_of_add_le, -Nat.reduceAdd]
@[simp] theorem fieldPn_wordP : fieldPn (wordP op q pd func pa pb) = BitVec.ofBool q.pn := by
  simp [fieldPn, wordP, BitVec.extractLsb'_append_eq_of_le, BitVec.extractLsb'_append_eq_of_add_le, -Nat.reduceAdd]
@[simp] theorem fieldPd_wordP : fieldPd (wordP op q pd func pa pb) = pd := by
  simp [fieldPd, wordP, BitVec.extractLsb'_append_eq_of_le, BitVec.extractLsb'_append_eq_of_add_le, -Nat.reduceAdd]
@[simp] theorem fieldCond_wordP : fieldCond (wordP op q pd func pa pb) = func := by
  simp [fieldCond, wordP, BitVec.extractLsb'_append_eq_of_le, BitVec.extractLsb'_append_eq_of_add_le, -Nat.reduceAdd]
@[simp] theorem fieldPa_wordP : fieldPa (wordP op q pd func pa pb) = pa := by
  simp [fieldPa, wordP, BitVec.extractLsb'_append_eq_of_le, BitVec.extractLsb'_append_eq_of_add_le, -Nat.reduceAdd]
@[simp] theorem fieldPb_wordP : fieldPb (wordP op q pd func pa pb) = pb := by
  simp [fieldPb, wordP, BitVec.extractLsb'_append_eq_of_le, BitVec.extractLsb'_append_eq_of_add_le, -Nat.reduceAdd]
@[simp] theorem fieldImm_wordP : fieldImm (wordP op q pd func pa pb) = 0 := by
  simp [fieldImm, wordP, BitVec.extractLsb'_append_eq_of_add_le, -Nat.reduceAdd]
end

/-! ### Words decoded by their opcode -/

/-- The guard fields of a word give back the guard of the issue it was encoded for. -/
@[simp] theorem issue_of_guard_fields (q : Issue) :
    ({ q with pg := q.pg, pn := BitVec.ofBool q.pn == 1#1 } : Issue) = q := by
  obtain ⟨_, _, _, pn, _⟩ := q
  cases pn <;> rfl

section
variable (q : Issue) (tm : Nat) (rd ra rb : BitVec 6) (fn : BitVec 4)

theorem decodeChord_int : decodeChord q tm (wordR 0x00 q rd ra rb fn) = decodeInt q rd ra rb fn.toNat := by
  simp [decodeChord]
theorem decodeChord_intx : decodeChord q tm (wordR 0x01 q rd ra rb fn) = decodeIntx q rd ra rb fn.toNat := by
  simp [decodeChord]
theorem decodeChord_qfx : decodeChord q tm (wordR 0x10 q rd ra rb fn) = decodeQfx q rd ra rb fn.toNat := by
  simp [decodeChord]
end

section
variable (q : Issue) (tm : Nat) (pd c : BitVec 3) (ra rb : BitVec 6) (imm : BitVec 10)

theorem decodeChord_cmp : decodeChord q tm (wordC 0x11 q pd c ra (rb ++ 0#4)) = some (.cmp q pd (condOf c) ra rb) := by
  have hlow : (rb ++ 0#4).extractLsb' 0 4 = 0#4 := BitVec.extractLsb'_append_eq_right
  have hrb : (rb ++ 0#4).extractLsb' 4 6 = rb := BitVec.extractLsb'_append_eq_left
  simpa [decodeChord] using ⟨hlow, hrb⟩
theorem decodeChord_cmpi : decodeChord q tm (wordC 0x12 q pd c ra imm) = some (.cmpi q pd (condOf c) ra imm) := by
  simp [decodeChord]
theorem decodeChord_plog (pa pb : BitVec 3) :
    decodeChord q tm (wordP 0x13 q pd c pa pb) = (pfuncOf c).map (fun f => .plog q pd f pa pb) := by
  simp [decodeChord]
end

/-- The words of R format under an opcode decode to a list where the decoder of the group answers it, function by function. -/
theorem decodesR_of_group {op : BitVec 6} {q : Issue} {rd ra rb : BitVec 6} {is : List Instr} (group : Nat → Option Instr)
    (hd : ∀ fn : BitVec 4, decodeChord q 0 (wordR op q rd ra rb fn) = group fn.toNat) (h : ∀ k < 16, group k = is[k]?) :
    Machine.decodesR op q rd ra rb is := by
  intro k hk
  rw [hd, BitVec.toNat_ofNat, Nat.mod_eq_of_lt hk, h k hk]

end Sys2Proof
end

section
/-!
SUPPORT. The run an instruction issues in: its task and its registers are there to be read and written; what a beat, a fallback
of the shadow and a write of registers and flags leave of them.
-/
namespace Sys2Proof.Machine

/-! ### Register contexts -/

/-- A predicate written leaves the others. -/
theorem Ctx.rp_wp_ne (c : Ctx) {j p : BitVec 3} (b : Bool) (h : j ≠ p) : (c.wp p b).rp j = c.rp j := by
  have hj : j.toNat ≠ 15 - p.toNat := by omega
  have hp : j.toNat ≠ p.toNat := fun e => h (BitVec.eq_of_toNat_eq e)
  by_cases h0 : p = 0
  · simp [Ctx.wp, h0]
  · simp only [Ctx.wp, Ctx.rp, if_neg h0, Sparse.look_put_ne _ _ hj, Sparse.look_put_ne _ _ hp]

@[simp] theorem Ctx.mirror_wp (c : Ctx) (p : BitVec 3) (b : Bool) : (c.wp p b).mirror = c.mirror := by
  unfold Ctx.wp; split <;> rfl

/-- A predicate written leaves every general register. -/
@[simp] theorem Ctx.rg_wp (c : Ctx) (p : BitVec 3) (b : Bool) (r : BitVec 6) : (c.wp p b).rg r = c.rg r := by
  simp only [Ctx.rg, Ctx.preg, Ctx.primIdx, Ctx.file_wp, Ctx.mirror_wp]

@[simp] theorem Ctx.pc_retire (c : Ctx) (split : Bool) (rd : BitVec 6) (v : Dword) (sh : PReg) :
    (c.retire split rd v sh).pc = c.pc + 4 := rfl

/-! ### Register fields of a lane -/

/-- Fields at different bits of their registers have different keys. -/
theorem Fld.key_ne_of_lo {f g : Fld} (hf : f.lo < 32) (hg : g.lo < 32) (h : f.lo ≠ g.lo) : f.key ≠ g.key := by
  unfold Fld.key; omega

/-- A field that does not start at bit 0 is no grant count. -/
theorem Lane.rd_beats_of_lo (x : Lane) (r n : Nat) {f : Fld} (hf : f.lo < 32) (h : f.lo ≠ 0) : (x.beats r n).rd f = x.rd f :=
  Lane.rd_beats x r n (Fld.key_ne_of_lo hf (show 0 < 32 by decide) h)

/-- A sticky bit set reads set, or what it was. -/
theorem Lane.flag_stick_same (x : Lane) {f : Fld} (b : Bool) (hw : f.hi = f.lo) :
    (x.stick f b).flag f = (x.flag f || b) := by
  cases b <;> simp [Lane.stick, Lane.flag, hw]

/-- A sticky bit set leaves the fields of other keys. -/
theorem Lane.flag_stick_ne (x : Lane) {f g : Fld} (b : Bool) (h : f.key ≠ g.key) : (x.stick g b).flag f = x.flag f := by
  cases b <;> simp [Lane.stick, Lane.flag, Lane.rd_wr_ne x 1 h]

/-- Flags set in CHE_TASK_STAT join those it held (R49). -/
@[simp] theorem Lane.taskFlags_setFlags (x : Lane) (n : Nat) (f : Flags) :
    (x.setFlags n f).taskFlags n = (x.taskFlags n).or f := by
  have ne {f g : Fld} (b : Bool) (y : Lane) (hf : f.lo < 32) (hg : g.lo < 32) (h : f.lo ≠ g.lo) :
      (y.stick g b).flag f = y.flag f := Lane.flag_stick_ne y b (Fld.key_ne_of_lo hf hg h)
  simp [Lane.taskFlags, Lane.setFlags, Flags.or, Lane.flag_stick_same, ne, Reg.CHE_TASK_STAT.SAT, Reg.CHE_TASK_STAT.NV,
    Reg.CHE_TASK_STAT.DZ, Reg.CHE_TASK_STAT.OF, Reg.CHE_TASK_STAT.UF, Reg.CHE_TASK_STAT.NX]

@[simp] theorem Lane.eng_setFlags (x : Lane) (n : Nat) (f : Flags) : (x.setFlags n f).eng = x.eng := by
  have stick (y : Lane) (g : Fld) (b : Bool) : (y.stick g b).eng = y.eng := by cases b <;> rfl
  simp only [Lane.setFlags, stick]

@[simp] theorem Lane.taskFlags_beats (x : Lane) (r n m : Nat) : (x.beats r n).taskFlags m = x.taskFlags m := by
  have h {f : Fld} (hf : f.lo < 32) (h0 : f.lo ≠ 0) : (x.beats r n).flag f = x.flag f := by
    simp only [Lane.flag, Lane.rd_beats_of_lo x r n hf h0]
  simp [Lane.taskFlags, h, Reg.CHE_TASK_STAT.SAT, Reg.CHE_TASK_STAT.NV, Reg.CHE_TASK_STAT.DZ, Reg.CHE_TASK_STAT.OF,
    Reg.CHE_TASK_STAT.UF, Reg.CHE_TASK_STAT.NX]

/-! ### The context of a run -/

/-- The lane has the context: a stream's always, a candidate bank's where the bank holds a run. -/
def Lane.holds (x : Lane) : Slot → Prop
  | .half _ => True
  | .bank k => (Sparse.look x.eng.banks k).isSome = true

theorem Lane.holds_of_eng {x y : Lane} (h : x.eng = y.eng) {sl : Slot} (hs : y.holds sl) : x.holds sl := by
  cases sl with
  | half h1 => trivial
  | bank k => simpa only [Lane.holds, h] using hs

/-- A candidate that has not sealed is in a bank. -/
theorem Engine.look_of_mem_unsealed {e : Engine} {k : Nat} (h : k ∈ e.unsealed) : (Sparse.look e.banks k).isSome = true := by
  have hl : k ∈ e.live := (List.mem_filter.1 h).1
  have he : (Sparse.get {} e.banks k).empty = false := by simpa using (List.mem_filter.1 hl).2
  cases hb : Sparse.look e.banks k with
  | none => simp [Sparse.get, hb] at he
  | some b => rfl

theorem Half.issuer_run {h : Half} {h1 : Bool} {w : Issuer} (hw : h.issuer h1 = some w) : w.slot = .half h1 ∧ w.task < 16 := by
  obtain ⟨r, -, rfl⟩ := Option.map_eq_some_iff.1 hw
  exact ⟨rfl, Nat.mod_lt _ (by decide)⟩

theorem Lane.candIssuer_run {x : Lane} {w : Issuer} (hw : x.candIssuer = some w) : x.holds w.slot ∧ w.task < 16 := by
  unfold Lane.candIssuer at hw
  split at hw
  next k t n hk hn =>
    cases hw
    exact ⟨Engine.look_of_mem_unsealed (hk ▸ List.mem_cons_self), List.mem_range.1 (List.mem_of_find?_eq_some hn)⟩
  next => cases hw

/-- The run whose instruction issues next has a context in its lane, and its task is one of the sixteen. -/
theorem Lane.issuer_run {x : Lane} {h1 : Bool} {w : Issuer} (hw : x.issuer h1 = some w) : x.holds w.slot ∧ w.task < 16 := by
  have half {h : Half} {b : Bool} (hh : h.issuer b = some w) : x.holds w.slot ∧ w.task < 16 := by
    obtain ⟨hs, ht⟩ := Half.issuer_run hh
    exact ⟨hs ▸ trivial, ht⟩
  unfold Lane.issuer at hw
  split at hw
  · exact half hw
  · split at hw
    next r hr => exact half (h := x.eng.h0) (b := false) (by rw [Half.issuer, hr]; exact hw)
    next => exact Lane.candIssuer_run hw

theorem State.issues.holds {s : State} {q : Issue} {w : Issuer} (h : s.issues q w) : (s.dev.lane q.lane).holds w.slot :=
  (Lane.issuer_run h.1).1

theorem State.issues.task_lt {s : State} {q : Issue} {w : Issuer} (h : s.issues q w) : w.task < 16 := (Lane.issuer_run h.1).2

/-- The banks after one that holds a run has changed. -/
theorem Lane.look_modBank_same (x : Lane) (k : Nat) (f : Bank → Bank) :
    Sparse.look (x.modBank k f).eng.banks k = (Sparse.look x.eng.banks k).map f := by
  unfold Lane.modBank
  split
  next b hb => simp [Lane.modEng, hb]
  next hb => simp [hb]

theorem Lane.look_modBank_ne (x : Lane) {j k : Nat} (f : Bank → Bank) (h : j ≠ k) :
    Sparse.look (x.modBank k f).eng.banks j = Sparse.look x.eng.banks j := by
  unfold Lane.modBank
  split
  · simp [Lane.modEng, Sparse.look_put_ne _ _ h]
  · rfl

@[simp] theorem Lane.half_modBank (x : Lane) (k : Nat) (f : Bank → Bank) (h1 : Bool) :
    (x.modBank k f).eng.half h1 = x.eng.half h1 := by
  unfold Lane.modBank; split <;> rfl

@[simp] theorem Lane.regs_modBank (x : Lane) (k : Nat) (f : Bank → Bank) : (x.modBank k f).regs = x.regs := by
  unfold Lane.modBank; split <;> rfl

/-- A context written reads back. -/
theorem Lane.ctxAt_setCtx_same {x : Lane} {sl : Slot} (h : x.holds sl) (c : Ctx) : (x.setCtx sl c).ctxAt sl = c := by
  cases sl with
  | half h1 => cases h1 <;> rfl
  | bank k =>
    obtain ⟨b, hb⟩ := Option.isSome_iff_exists.1 h
    simp [Lane.ctxAt, Lane.setCtx, Sparse.get, Lane.look_modBank_same, hb]

@[simp] theorem Lane.regs_setCtx (x : Lane) (sl : Slot) (c : Ctx) : (x.setCtx sl c).regs = x.regs := by
  cases sl with
  | half h1 => rfl
  | bank k => exact Lane.regs_modBank _ _ _

@[simp] theorem Lane.rd_setCtx (x : Lane) (sl : Slot) (c : Ctx) (f : Fld) : (x.setCtx sl c).rd f = x.rd f := by
  simp only [Lane.rd, Lane.regs_setCtx]

@[simp] theorem Lane.taskFlags_setCtx (x : Lane) (sl : Slot) (c : Ctx) (n : Nat) :
    (x.setCtx sl c).taskFlags n = x.taskFlags n := by
  simp only [Lane.taskFlags, Lane.flag, Lane.rd_setCtx]

/-- Flags set leave every context. -/
@[simp] theorem Lane.ctxAt_addFlags (x : Lane) (w : Issuer) (f : Flags) (sl : Slot) : (x.addFlags w f).ctxAt sl = x.ctxAt sl := by
  obtain ⟨ws, n, r⟩ := w
  cases ws with
  | half h1 => cases sl <;> simp [Lane.addFlags, Lane.ctxAt]
  | bank k =>
    cases sl with
    | half h1 => simp [Lane.addFlags, Lane.ctxAt]
    | bank j =>
      by_cases hj : j = k
      · subst hj
        cases hb : Sparse.look x.eng.banks j <;> simp [Lane.addFlags, Lane.ctxAt, Sparse.get, Lane.look_modBank_same, hb]
      · simp [Lane.addFlags, Lane.ctxAt, Sparse.get, Lane.look_modBank_ne x _ hj]

/-! ### What the fetch and a fallback leave -/

@[simp] theorem State.eng_fetched (s : State) (q : Issue) : ((s.fetched q).lane q.lane).eng = (s.dev.lane q.lane).eng := by
  simp [State.fetched]

theorem State.rd_fetched_of_lo (s : State) (q : Issue) {f : Fld} (hf : f.lo < 32) (h : f.lo ≠ 0) :
    ((s.fetched q).lane q.lane).rd f = (s.dev.lane q.lane).rd f := by
  simp [State.fetched, Lane.rd_beats_of_lo _ _ _ hf h]

@[simp] theorem State.taskFlags_fetched (s : State) (q : Issue) (n : Nat) :
    ((s.fetched q).lane q.lane).taskFlags n = (s.dev.lane q.lane).taskFlags n := by simp [State.fetched]

@[simp] theorem State.comp_fetched (s : State) (q : Issue) (c : CompId) : (s.fetched q).comp c = s.dev.comp c := by
  simp [State.fetched]

theorem State.lane_fetched_ne (s : State) (q : Issue) {l : LaneId} (h : l ≠ q.lane) : (s.fetched q).lane l = s.dev.lane l := by
  simp [State.fetched, Dev.lane_modLane_ne _ _ h]

/-- A range fallback changes nothing of the engine. -/
@[simp] theorem Dev.eng_rangeEvent (d : Dev) (l : LaneId) (w : Issuer) : ((d.rangeEvent l w).lane l).eng = (d.lane l).eng := by
  have h := congrArg Lane.eng ((Dev.like_raise (d.incL l Reg.CHX_RANGE_CNT.COUNT) l 24 sevTrace
    (w.task + 16 * (((d.lane l).ctxAt w.slot).pc.toNat / 4))).lane l)
  simpa [Lane.body, Dev.rangeEvent, Dev.incL, Lane.inc] using h

/-- A range fallback leaves every field but its count and those of the records. -/
theorem Dev.rd_rangeEvent (d : Dev) (l : LaneId) (w : Issuer) {f : Fld} (hq : f.quiet = true)
    (hf : f.key ≠ Reg.CHX_RANGE_CNT.COUNT.key) : ((d.rangeEvent l w).lane l).rd f = (d.lane l).rd f := by
  unfold Dev.rangeEvent
  rw [(Dev.like_raise _ _ _ _ _).lreg l f hq, Dev.incL, Dev.lane_modLane_same, Lane.rd_inc_ne _ hf]

@[simp] theorem State.eng_issued (s : State) (q : Issue) (w : Issuer) (o : Out) :
    ((s.issued q w o).lane q.lane).eng = (s.dev.lane q.lane).eng := by
  unfold State.issued; split <;> simp

@[simp] theorem State.ctxAt_issued (s : State) (q : Issue) (w : Issuer) (o : Out) (sl : Slot) :
    ((s.issued q w o).lane q.lane).ctxAt sl = (s.dev.lane q.lane).ctxAt sl := by
  cases sl <;> simp [Lane.ctxAt]

/-- The trap enables of a task stand at bits 14 and 13, and are no records. -/
theorem quiet_traps {n : Nat} (h : n < 16) :
    (Reg.CHE_TASK_CFG.TRAP_NV n).quiet = true ∧ (Reg.CHE_TASK_CFG.TRAP_DZ n).quiet = true := by
  have hn : (Reg.CHE_TASK_CFG.TRAP_NV n).key / 32 = 0x40002100 + 4 * n := by simp [Fld.key, Reg.CHE_TASK_CFG.TRAP_NV]; omega
  have hd : (Reg.CHE_TASK_CFG.TRAP_DZ n).key / 32 = 0x40002100 + 4 * n := by simp [Fld.key, Reg.CHE_TASK_CFG.TRAP_DZ]; omega
  simp only [Fld.quiet, hn, hd]
  constructor <;> simp <;> omega

/-- Neither the fetch nor a fallback of the shadow changes what traps (R52, R113). -/
theorem State.fpTraps_issued (s : State) (q : Issue) (w : Issuer) (o : Out) {n : Nat} (hn : n < 16) (f : Flags) :
    ((s.issued q w o).lane q.lane).fpTraps n f = (s.dev.lane q.lane).fpTraps n f := by
  have rd {g : Fld} (hq : g.quiet = true) (hl : g.lo < 32) (h0 : g.lo ≠ 0) :
      ((s.issued q w o).lane q.lane).rd g = (s.dev.lane q.lane).rd g := by
    unfold State.issued
    split
    · rw [Dev.rd_rangeEvent _ _ _ hq (Fld.key_ne_of_lo hl (by decide) h0), State.rd_fetched_of_lo s q hl h0]
    · exact State.rd_fetched_of_lo s q hl h0
  obtain ⟨hnv, hdz⟩ := quiet_traps hn
  have nv := rd hnv (show 14 < 32 by decide) (show 14 ≠ 0 by decide)
  have dz := rd hdz (show 13 < 32 by decide) (show 13 ≠ 0 by decide)
  simp only [Lane.fpTraps, Lane.flag, nv, dz]

end Sys2Proof.Machine
end

section
/-!
SUPPORT. What an instruction that plays leaves, by the kind of its outcome: a register result, a predicate, an exception, or
nothing where its guard is false.
-/
namespace Sys2Proof.Machine

/-! ### What a retired instruction leaves -/

theorem State.ctx_retired {s : State} {q : Issue} {w : Issuer} (h : s.issues q w) (c : Ctx) (f : Flags) :
    (s.retired q w c f).ctx q w = c := by
  have hh : ((s.fetched q).lane q.lane).holds w.slot := Lane.holds_of_eng (State.eng_fetched s q) h.holds
  simp [State.ctx, State.retired, Dev.writeBack, Lane.ctxAt_setCtx_same hh]

/-- Flags of an activation join those of its task (R49). -/
theorem State.flagged_retired (s : State) (q : Issue) (w : Issuer) (c : Ctx) (f : Flags) :
    s.Flagged (s.retired q w c f) q w f := by
  intro h1 hs
  simp [State.retired, Dev.writeBack, Lane.addFlags, hs]

theorem State.aloneIn_retired (s : State) (q : Issue) (w : Issuer) (c : Ctx) (f : Flags) :
    s.AloneIn (s.retired q w c f) q := by
  refine ⟨rfl, rfl, rfl, fun l hl => ?_, fun b => ?_, ?_, ?_⟩
  · simp [State.retired, Dev.writeBack, Dev.lane_modLane_ne _ _ hl, State.lane_fetched_ne s q hl]
  all_goals simp [State.retired, Dev.writeBack, State.fetched]

/-- A predicate result written back (R45). -/
theorem State.judged_retired {s : State} {q : Issue} {w : Issuer} (h : s.issues q w) (pd : BitVec 3) (b : Bool) (f : Flags) :
    s.Judged (s.retired q w (((s.ctx q w).wp pd b).goto (s.ctx q w).nextPc) f) q w pd b f := by
  refine ⟨?_, fun p hp => ?_, fun r => ?_, ?_, s.flagged_retired q w _ f, s.aloneIn_retired q w _ f⟩ <;>
    rw [State.ctx_retired h]
  · rw [Ctx.rp_goto, Ctx.rp_wp_same]
  · rw [Ctx.rp_goto, Ctx.rp_wp_ne _ b hp]
  · rw [Ctx.rg_goto, Ctx.rg_wp]
  · rw [Ctx.pc_goto, Ctx.nextPc]

/-! ### Instructions that play, by their outcome -/

theorem State.plays.agrees {s : State} {q : Issue} {w : Issuer} {i : Instr} {k : Work} (h : s.plays q w i)
    (hk : workOf i = some k) : s.agrees q w k := by
  obtain ⟨-, k', hk', ha⟩ := h
  rw [hk] at hk'
  cases hk'
  exact ha

section
variable {s : State} {q : Issue} {w : Issuer} {i : Instr} {k : Work}

/-- A register result without flags. -/
theorem exec_gives {rd : BitVec 6} {v v' : Dword} (hk : workOf i = some k) (he : exec i s = chord q k s)
    (hp : s.plays q w i) (hb : k.body w.rot (s.ctx q w) = .int rd v {}) (hv : v = v') :
    exec i s = .next (s.gives q w rd v' {}) := by
  subst hv
  exact he.trans (chord_int hp.1.1 (hp.agrees hk) (.inr hp.1.2) hb rfl rfl)

/-- A predicate result without flags. -/
theorem exec_judges {pd : BitVec 3} {b b' : Bool} (hk : workOf i = some k) (he : exec i s = chord q k s)
    (hp : s.plays q w i) (hb : k.body w.rot (s.ctx q w) = .prd pd b {} false) (hv : b = b') :
    ∃ t, exec i s = .next t ∧ s.Judged t q w pd b' {} := by
  subst hv
  refine ⟨_, he.trans ?_, State.judged_retired hp.1.1 pd b {}⟩
  rw [chord_runs hp.1.1 (hp.agrees hk) (.inr hp.1.2) hb rfl]
  simp only [Dev.perform, Lane.fpTraps_none _ _ (f := {}) rfl rfl, Bool.false_eq_true, if_false, State.lane_fetched_ctx]
  rfl

/-- An exception. -/
theorem exec_excepts {code trap : Nat} (hk : workOf i = some k) (he : exec i s = chord q k s) (hp : s.plays q w i)
    (hb : k.body w.rot (s.ctx q w) = .exc code trap) : exec i s = .next (s.excepted q w code trap) :=
  he.trans (chord_exc hp.1.1 (hp.agrees hk) (.inr hp.1.2) hb)

/-- A number clamped into a range, with SAT where the clamp changed it (R43, R47). -/
theorem exec_clamps {rd : BitVec 6} {lo hi x x' : Int} (hk : workOf i = some k) (he : exec i s = chord q k s)
    (hp : s.plays q w i) (hb : k.body w.rot (s.ctx q w) = clampTo rd (clampI lo hi) x) (hx : x = x') (hr : lo ≤ hi) :
    exec i s = .next (s.gives q w rd (BitVec.ofInt 64 (max lo (min hi x'))) { sat := decide (x' < lo ∨ hi < x') }) := by
  subst hx
  have hv : clampI lo hi x = max lo (min hi x) := by unfold clampI; split <;> omega
  have hs : clampI lo hi x ≠ x ↔ x < lo ∨ hi < x := by omega
  have hb' : k.body w.rot (s.ctx q w) =
      .int rd (BitVec.ofInt 64 (max lo (min hi x))) { sat := decide (x < lo ∨ hi < x) } := by
    rw [hb, clampTo, ofInt, hv]
    simp only [satFlag, ← hv, hs]
  exact he.trans (chord_int hp.1.1 (hp.agrees hk) (.inr hp.1.2) hb' rfl rfl)
end

/-- An illegal word raises ILLEGAL whatever its guard (R39, R40). -/
theorem exec_illegal {s : State} {q : Issue} {w : Issuer} {word : BitVec 32} (h : s.issues q w)
    (ha : s.agrees q w workIllegal) (hw : decodeChord q 0 word = none) :
    exec (.illegalEncoding q word) s = .next (s.excepted q w excIllegal 0) := by
  have he : exec (.illegalEncoding q word) s = chord q workIllegal s := by
    show execIllegalEncoding q word s = _
    simp only [execIllegalEncoding, hw]
  exact he.trans (chord_exc h ha (.inl rfl) rfl)

end Sys2Proof.Machine
end

section
/-!
CLAIM. The integer, predicate and fixed-point instructions (R42 to R47): O12, O13, O14, O15 and O16.
-/
namespace Sys2Proof.Machine

/-! ### Values -/

theorem ite_toInt_le_eq_ofInt_min (a b : Dword) :
    (if a.toInt ≤ b.toInt then a else b) = BitVec.ofInt 64 (min a.toInt b.toInt) := by
  split
  next h => rw [show min a.toInt b.toInt = a.toInt by omega, BitVec.ofInt_toInt]
  next h => rw [show min a.toInt b.toInt = b.toInt by omega, BitVec.ofInt_toInt]

theorem ite_toInt_le_eq_ofInt_max (a b : Dword) :
    (if a.toInt ≤ b.toInt then b else a) = BitVec.ofInt 64 (max a.toInt b.toInt) := by
  split
  next h => rw [show max a.toInt b.toInt = b.toInt by omega, BitVec.ofInt_toInt]
  next h => rw [show max a.toInt b.toInt = a.toInt by omega, BitVec.ofInt_toInt]

theorem ite_toNat_le_eq_ofNat_min (a b : Dword) :
    (if a.toNat ≤ b.toNat then a else b) = BitVec.ofNat 64 (min a.toNat b.toNat) := by
  split
  next h => rw [show min a.toNat b.toNat = a.toNat by omega, BitVec.ofNat_toNat, BitVec.setWidth_eq]
  next h => rw [show min a.toNat b.toNat = b.toNat by omega, BitVec.ofNat_toNat, BitVec.setWidth_eq]

theorem ite_toNat_le_eq_ofNat_max (a b : Dword) :
    (if a.toNat ≤ b.toNat then b else a) = BitVec.ofNat 64 (max a.toNat b.toNat) := by
  split
  next h => rw [show max a.toNat b.toNat = b.toNat by omega, BitVec.ofNat_toNat, BitVec.setWidth_eq]
  next h => rw [show max a.toNat b.toNat = a.toNat by omega, BitVec.ofNat_toNat, BitVec.setWidth_eq]

theorem mul_eq_ofInt (a b : Dword) : a * b = BitVec.ofInt 64 (a.toInt * b.toInt) := by
  rw [BitVec.ofInt_mul, BitVec.ofInt_toInt, BitVec.ofInt_toInt]

/-- The quotient wraps at −2^63 ÷ −1 (R44). -/
theorem sdiv_eq_ofInt_tdiv (a b : Dword) : a.sdiv b = BitVec.ofInt 64 (a.toInt.tdiv b.toInt) :=
  BitVec.eq_of_toInt_eq (by rw [BitVec.toInt_sdiv, BitVec.toInt_ofInt])

theorem srem_eq_ofInt_tmod (a b : Dword) : a.srem b = BitVec.ofInt 64 (a.toInt.tmod b.toInt) := by
  rw [← BitVec.toInt_srem, BitVec.ofInt_toInt]

/-- ABS wraps at −2^63 (R43). -/
theorem abs_eq_ofInt_natAbs (a : Dword) : (if a.toInt < 0 then -a else a) = BitVec.ofInt 64 a.toInt.natAbs := by
  split
  next h => rw [show (a.toInt.natAbs : Int) = -a.toInt by omega, BitVec.ofInt_neg, BitVec.ofInt_toInt]
  next h => rw [show (a.toInt.natAbs : Int) = a.toInt by omega, BitVec.ofInt_toInt]

/-- The leading zeros of a value: those above its highest bit, all 64 for 0. -/
theorem sub_bitLen_toNat (a : Dword) : 64 - bitLen a.toNat = if a = 0 then 64 else 63 - a.toNat.log2 := by
  by_cases h : a = 0
  · subst h; rfl
  · have hn : a.toNat ≠ 0 := fun e => h (BitVec.eq_of_toNat_eq e)
    rw [bitLen, if_neg hn, if_neg h]
    omega

theorem foldl_add_bit (p : Nat → Bool) (l : List Nat) : ∀ n, l.foldl (fun n i => n + bit (p i)) n = n + l.countP p := by
  induction l with
  | nil => intro n; rfl
  | cons i t ih =>
    intro n
    rw [List.foldl_cons, ih, List.countP_cons, bit]
    omega

theorem onesOf_eq_countP (a : Dword) : onesOf a = (List.range 64).countP (fun i => a.getLsbD i) := by
  rw [onesOf, foldl_add_bit, Nat.zero_add]

/-! ### INT (R42) -/

theorem decodesR_int (q : Issue) (rd ra rb : BitVec 6) :
    decodesR 0x00 q rd ra rb [.add q rd ra rb, .sub q rd ra rb, .and q rd ra rb, .or q rd ra rb, .xor q rd ra rb,
      .andn q rd ra rb, .sll q rd ra rb, .srl q rd ra rb, .sra q rd ra rb, .mul q rd ra rb, .mulhs q rd ra rb,
      .mulhu q rd ra rb, .min q rd ra rb, .max q rd ra rb, .minu q rd ra rb, .maxu q rd ra rb] :=
  decodesR_of_group _ (decodeChord_int q 0 rd ra rb) (fun k _ => match k with
    | 0 | 1 | 2 | 3 | 4 | 5 | 6 | 7 | 8 | 9 | 10 | 11 | 12 | 13 | 14 | 15 => rfl
    | _ + 16 => rfl)

/-- Settles O12: the decoder's table function by function, and each instruction's value as R42 states it. -/
theorem integerResults : Obligations.IntegerResults := by
  intro s q w rd ra rb a b gives
  refine ⟨decodesR_int q rd ra rb, ?add, ?sub, ?and, ?or, ?xor, ?andn, ?sll, ?srl, ?sra, ?mul, ?mulhs, ?mulhu, ?min, ?max,
    ?minu, ?maxu⟩ <;> intro hp
  case mul => exact exec_gives rfl rfl hp rfl (mul_eq_ofInt a b)
  case min => exact exec_gives rfl rfl hp rfl (ite_toInt_le_eq_ofInt_min a b)
  case max => exact exec_gives rfl rfl hp rfl (ite_toInt_le_eq_ofInt_max a b)
  case minu => exact exec_gives rfl rfl hp rfl (ite_toNat_le_eq_ofNat_min a b)
  case maxu => exact exec_gives rfl rfl hp rfl (ite_toNat_le_eq_ofNat_max a b)
  all_goals exact exec_gives rfl rfl hp rfl rfl

/-! ### INTX (R43, R44) -/

/-- The four results of a division by a divisor other than 0 (R44). -/
theorem exec_division {s : State} {q : Issue} {w : Issuer} {ra rb : BitVec 6} (rd : BitVec 6) (hb : (s.ctx q w).rg rb ≠ 0) :
    let a := (s.ctx q w).rg ra
    let b := (s.ctx q w).rg rb
    let gives := fun (i : Instr) (v : Dword) => s.plays q w i → exec i s = .next (s.gives q w rd v {})
    gives (.div q rd ra rb) (BitVec.ofInt 64 (a.toInt.tdiv b.toInt)) ∧
      gives (.divu q rd ra rb) (BitVec.ofNat 64 (a.toNat / b.toNat)) ∧
      gives (.rem q rd ra rb) (BitVec.ofInt 64 (a.toInt.tmod b.toInt)) ∧
      gives (.remu q rd ra rb) (BitVec.ofNat 64 (a.toNat % b.toNat)) := by
  intro a b gives
  refine ⟨?div, ?divu, ?rem, ?remu⟩ <;> intro hp
  case div => exact exec_gives rfl rfl hp (if_neg hb) (sdiv_eq_ofInt_tdiv a b)
  case divu => exact exec_gives rfl rfl hp (if_neg hb) BitVec.udiv_def
  case rem => exact exec_gives rfl rfl hp (if_neg hb) (srem_eq_ofInt_tmod a b)
  case remu => exact exec_gives rfl rfl hp (if_neg hb) BitVec.umod_def

/-- Settles O13: the quotients and remainders by a divisor other than 0, and DIVZERO for each of the four. -/
theorem divisionResults : Obligations.DivisionResults := by
  intro s q w rd ra rb a b gives
  refine ⟨exec_division rd, fun h0 i hi hp => ?_⟩
  simp only [List.mem_cons, List.not_mem_nil, or_false] at hi
  rcases hi with rfl | rfl | rfl | rfl <;> exact exec_excepts rfl rfl hp (if_pos h0)

theorem decodesR_intx_zero (q : Issue) (rd ra : BitVec 6) :
    decodesR 0x01 q rd ra 0 [.div q rd ra 0, .divu q rd ra 0, .rem q rd ra 0, .remu q rd ra 0, .abs q rd ra, .neg q rd ra,
      .clz q rd ra, .popc q rd ra, .sextw q rd ra, .zextw q rd ra, .satw q rd ra, .sath q rd ra] :=
  decodesR_of_group _ (decodeChord_intx q 0 rd ra 0) (fun k _ => match k with
    | 0 | 1 | 2 | 3 | 4 | 5 | 6 | 7 | 8 | 9 | 10 | 11 | 12 | 13 | 14 | 15 => rfl
    | _ + 16 => rfl)

/-- A one-operand function with a non-zero rb is no instruction. -/
theorem decodesR_intx_nonzero (q : Issue) (rd ra : BitVec 6) {rb : BitVec 6} (h : rb ≠ 0) :
    decodesR 0x01 q rd ra rb [.div q rd ra rb, .divu q rd ra rb, .rem q rd ra rb, .remu q rd ra rb] := by
  have h0 : ¬ rb = 0#6 := h
  exact decodesR_of_group _ (decodeChord_intx q 0 rd ra rb) (fun k _ => match k with
    | 0 | 1 | 2 | 3 => rfl
    | 4 | 5 | 6 | 7 | 8 | 9 | 10 | 11 => if_neg h0
    | _ + 12 => rfl)

/-- The words of INTX that are no instruction (R40, R43). -/
theorem decodeChord_intx_none (q : Issue) (rd ra rb : BitVec 6) {k : Nat} (hk : k < 16) (h : 12 ≤ k ∨ (4 ≤ k ∧ rb ≠ 0)) :
    decodeChord q 0 (wordR 0x01 q rd ra rb (BitVec.ofNat 4 k)) = none := by
  by_cases hb : rb = 0
  · subst hb
    have h12 : 12 ≤ k := h.resolve_right (fun h => h.2 rfl)
    rw [decodesR_intx_zero q rd ra k hk]
    exact List.getElem?_eq_none h12
  · rw [decodesR_intx_nonzero q rd ra hb k hk]
    exact List.getElem?_eq_none (show 4 ≤ k by omega)

/-- Settles O14: the decoder's table, ILLEGAL for what it refuses, and the value of each function of R43. -/
theorem unaryResults : Obligations.UnaryResults := by
  intro s q w rd ra rb a b gives clamp
  refine ⟨decodesR_intx_zero q rd ra, decodesR_intx_nonzero q rd ra, ?illegal, exec_division rd, ?abs, ?neg, ?clz, ?popc, ?sextw,
    ?zextw, ?satw, ?sath⟩
  case illegal => exact fun k hk h hi ha => exec_illegal hi ha (decodeChord_intx_none q rd ra rb hk h)
  all_goals intro hp
  case abs => exact exec_gives rfl rfl hp rfl (abs_eq_ofInt_natAbs a)
  case neg => exact exec_gives rfl rfl hp rfl (BitVec.zero_sub a)
  case clz => exact exec_gives rfl rfl hp rfl (congrArg (BitVec.ofNat 64) (sub_bitLen_toNat a))
  case popc => exact exec_gives rfl rfl hp rfl (congrArg (BitVec.ofNat 64) (onesOf_eq_countP a))
  case sextw => exact exec_gives rfl rfl hp rfl rfl
  case zextw => exact exec_gives rfl rfl hp rfl rfl
  case satw => exact exec_clamps rfl rfl hp rfl rfl (by decide)
  case sath => exact exec_clamps rfl rfl hp rfl rfl (by decide)

/-! ### CMP, CMPI and PLOG (R45, R46) -/

theorem decodesC_cmp (q : Issue) (pd : BitVec 3) (ra rb : BitVec 6) :
    decodesC 0x11 q pd ra (rb ++ 0#4)
      ([Cond.eq, .ne, .lt, .ge, .ltu, .geu, .tst, .ntst].map (fun c => .cmp q pd c ra rb)) := by
  intro k hk
  rw [decodeChord_cmp]
  exact match k, hk with
    | 0, _ | 1, _ | 2, _ | 3, _ | 4, _ | 5, _ | 6, _ | 7, _ => rfl

theorem decodesC_cmpi (q : Issue) (pd : BitVec 3) (ra : BitVec 6) (imm : BitVec 10) :
    decodesC 0x12 q pd ra imm ([Cond.eq, .ne, .lt, .ge, .ltu, .geu, .tst, .ntst].map (fun c => .cmpi q pd c ra imm)) := by
  intro k hk
  rw [decodeChord_cmpi]
  exact match k, hk with
    | 0, _ | 1, _ | 2, _ | 3, _ | 4, _ | 5, _ | 6, _ | 7, _ => rfl

/-- PLOG by its function; 0b111 is not assigned (R46). -/
theorem decodeChord_plog_list (q : Issue) (pd pa pb : BitVec 3) {k : Nat} (hk : k < 8) :
    decodeChord q 0 (wordP 0x13 q pd (BitVec.ofNat 3 k) pa pb) =
      ([PFunc.pand, .por, .pxor, .pandn, .porn, .pset, .pclr].map (fun f => Instr.plog q pd f pa pb))[k]? := by
  rw [decodeChord_plog]
  exact match k, hk with
    | 0, _ | 1, _ | 2, _ | 3, _ | 4, _ | 5, _ | 6, _ | 7, _ => rfl

/-- A compare with a register and one with an immediate write their condition (R45). -/
theorem exec_compare (s : State) (q : Issue) (w : Issuer) (pd : BitVec 3) (ra rb : BitVec 6) (imm : BitVec 10) (c : Cond) :
    (s.plays q w (.cmp q pd c ra rb) → ∃ t, exec (.cmp q pd c ra rb) s = .next t ∧
      s.Judged t q w pd (condHolds c ((s.ctx q w).rg ra) ((s.ctx q w).rg rb)) {}) ∧
    (s.plays q w (.cmpi q pd c ra imm) → ∃ t, exec (.cmpi q pd c ra imm) s = .next t ∧
      s.Judged t q w pd (condHolds c ((s.ctx q w).rg ra) (imm.signExtend 64)) {}) :=
  ⟨fun hp => exec_judges rfl rfl hp rfl rfl, fun hp => exec_judges rfl rfl hp rfl rfl⟩

theorem exec_plog {s : State} {q : Issue} {w : Issuer} {pd pa pb : BitVec 3} {f : PFunc} (hp : s.plays q w (.plog q pd f pa pb)) :
    ∃ t, exec (.plog q pd f pa pb) s = .next t ∧
      s.Judged t q w pd (plogFunc f ((s.ctx q w).rp pa) ((s.ctx q w).rp pb)) {} :=
  exec_judges rfl rfl hp rfl rfl

/-- Settles O15: the words of the three opcodes, and each condition and function as R45 and R46 list them. -/
theorem predicateResults : Obligations.PredicateResults := by
  intro s q w pd pa pb ra rb imm a judges pair x y conds
  refine ⟨decodesC_cmp q pd ra rb, decodesC_cmpi q pd ra imm, fun k hk => decodeChord_plog_list q pd pa pb hk,
    exec_compare s q w pd ra rb imm .eq, exec_compare s q w pd ra rb imm .ne, exec_compare s q w pd ra rb imm .lt,
    exec_compare s q w pd ra rb imm .ge, exec_compare s q w pd ra rb imm .ltu, exec_compare s q w pd ra rb imm .geu,
    exec_compare s q w pd ra rb imm .tst, exec_compare s q w pd ra rb imm .ntst, exec_plog, exec_plog, exec_plog, exec_plog,
    exec_plog, exec_plog, exec_plog⟩

/-! ### Fixed point (R47) -/

theorem decodesR_qfx (q : Issue) (rd ra rb : BitVec 6) :
    decodesR 0x10 q rd ra rb [.qadd q rd ra rb, .qsub q rd ra rb, .qmul15 q rd ra rb, .qmul31 q rd ra rb, .qmac31 q rd ra rb,
      .qmsu31 q rd ra rb, .qabs q rd ra rb, .qneg q rd ra rb, .qshl q rd ra rb, .qrsr q rd ra rb, .qlim q rd ra rb] :=
  decodesR_of_group _ (decodeChord_qfx q 0 rd ra rb) (fun k _ => match k with
    | 0 | 1 | 2 | 3 | 4 | 5 | 6 | 7 | 8 | 9 | 10 | 11 | 12 | 13 | 14 | 15 => rfl
    | _ + 16 => rfl)

theorem ite_neg_eq_natAbs (a : Int) : (if a < 0 then -a else a) = a.natAbs := by omega

/-- Settles O16: the words of QFX, and each result rounded and clamped as R47 says. -/
theorem fixedPointResults : Obligations.FixedPointResults := by
  intro s q w rd ra rb a b d h n clamp sat lim
  have hlim : -lim ≤ lim := by omega
  refine ⟨decodesR_qfx q rd ra rb, ?qadd, ?qsub, ?qmul15, ?qmul31, ?qmac31, ?qmsu31, ?qabs, ?qneg, ?qshl, ?qrsr, ?qlim⟩ <;>
    intro hp
  case qabs => exact exec_clamps rfl rfl hp rfl (ite_neg_eq_natAbs a) (by decide)
  case qrsr => exact exec_gives rfl rfl hp rfl rfl
  case qlim => exact exec_clamps rfl rfl hp rfl rfl hlim
  all_goals exact exec_clamps rfl rfl hp rfl rfl (by decide)

end Sys2Proof.Machine
end

section
/-!
CLAIM. FP_TRAP (R52): O19.
-/
namespace Sys2Proof.Machine

/-- The flags that an outcome with a register or predicate result sets. -/
def Out.result : Out → Option Flags
  | .int _ _ f => some f
  | .flt _ _ f _ => some f
  | .prd _ _ f _ => some f
  | _ => none

/-- A result under an enabled trap takes FP_TRAP and writes nothing. -/
theorem perform_traps (m : Mems) {d : Dev} {q : Issue} {w : Issuer} {o : Out} {f : Flags} (ho : o.result = some f)
    (ht : (d.lane q.lane).fpTraps w.task f = true) : Dev.perform m d q w o = (m, d.except q.lane w excFpTrap 0) := by
  cases o <;> cases ho <;> exact if_pos ht

theorem Dev.pc_writeBack (d : Dev) {l : LaneId} {w : Issuer} (h : (d.lane l).holds w.slot) (c : Ctx) (f : Flags) :
    (((d.writeBack l w c f).lane l).ctxAt w.slot).pc = c.pc := by
  simp [Dev.writeBack, Lane.ctxAt_setCtx_same h]

/-- A result that does not trap goes to the next instruction. -/
theorem perform_goes_on (m : Mems) {d : Dev} {q : Issue} {w : Issuer} {o : Out} {f : Flags} (ho : o.result = some f)
    (h : (d.lane q.lane).holds w.slot) (ht : (d.lane q.lane).fpTraps w.task f = false) :
    (((Dev.perform m d q w o).2.lane q.lane).ctxAt w.slot).pc = ((d.lane q.lane).ctxAt w.slot).pc + 4 := by
  cases o <;> cases ho <;>
    simp only [Dev.perform, ht, Bool.false_eq_true, if_false, Dev.pc_writeBack _ h, Ctx.pc_retire, Ctx.pc_goto, Ctx.nextPc]

theorem State.issued_or (s : State) (q : Issue) (w : Issuer) (o : Out) :
    s.issued q w o = s.fetched q ∨ s.issued q w o = (s.fetched q).rangeEvent q.lane w := by
  unfold State.issued
  split
  · exact .inr rfl
  · exact .inl rfl

/-- An instruction that plays does what its outcome says, on the part after its issues. -/
theorem exec_performs {s : State} {q : Issue} {w : Issuer} {i : Instr} {k : Work} (hk : workOf i = some k)
    (he : exec i s = chord q k s) (hp : s.plays q w i) {o : Out} (hb : k.body w.rot (s.ctx q w) = o) :
    exec i s = .next { s with mems := (Dev.perform s.mems (s.issued q w o) q w o).1
                              dev := (Dev.perform s.mems (s.issued q w o) q w o).2 } := by
  subst hb
  have hg : (!k.guarded || (s.ctx q w).guard q.pg q.pn) = true := by simp [hp.1.2]
  simp only [he, chord, issue_spec hp.1.1 (hp.agrees hk), hg, if_true]

/-- A result traps exactly where it sets NV or DZ under an enabled trap (R52). -/
theorem exec_fpTrap {s : State} {q : Issue} {w : Issuer} {i : Instr} {k : Work} {f : Flags} (hk : workOf i = some k)
    (he : exec i s = chord q k s) (hr : (k.body w.rot (s.ctx q w)).result = some f) (hp : s.plays q w i) :
    ((s.dev.lane q.lane).fpTraps w.task f = true →
      ∃ e : Dev, exec i s = .next { s with dev := e.except q.lane w excFpTrap 0 } ∧
      (e = s.fetched q ∨ e = (s.fetched q).rangeEvent q.lane w)) ∧
    ((s.dev.lane q.lane).fpTraps w.task f = false → ∃ t, exec i s = .next t ∧ (t.ctx q w).pc = (s.ctx q w).pc + 4) := by
  have hx := exec_performs hk he hp rfl
  have ht := s.fpTraps_issued q w (k.body w.rot (s.ctx q w)) hp.1.1.task_lt f
  refine ⟨fun on => ⟨_, ?_, s.issued_or q w (k.body w.rot (s.ctx q w))⟩, fun off => ⟨_, hx, ?_⟩⟩
  · rw [hx, perform_traps s.mems hr (ht.trans on)]
  · have hh := Lane.holds_of_eng (s.eng_issued q w (k.body w.rot (s.ctx q w))) hp.1.1.holds
    exact (perform_goes_on s.mems hr hh (ht.trans off)).trans (by rw [State.ctxAt_issued]; rfl)

/-- Settles O19: each binary32 instruction's outcome sets the flags of its operation, and `exec_fpTrap`. -/
theorem floatTraps : Obligations.FloatTraps := by
  intro s q w rd ra rb pd c a b d traps
  refine ⟨?fadd, ?fsub, ?fmul, ?fdiv, ?fsqrt, ?fmin, ?fmax, ?fmac, ?fmsc, ?fcvtws, ?fcvtqs, ?fcmp⟩ <;>
    exact exec_fpTrap rfl rfl rfl

end Sys2Proof.Machine
end

section
/-!
CLAIM. Guards and illegal words (R39, R40): O9.
-/
namespace Sys2Proof.Machine

/-- The instruction is SEAL, the one Chord instruction that acts at an instant of its own. -/
def isSeal : Instr → Bool
  | .seal _ _ => true
  | _ => false

theorem eq_seal_of_isSeal {i : Instr} {q : Issue} (hs : isSeal i = true) (hq : chordIssue i = some q) :
    ∃ tm, i = .seal q tm := by
  unfold isSeal at hs
  split at hs
  · cases hq
    exact ⟨_, rfl⟩
  · cases hs

/-- Every Chord instruction but MOVZ, MOVK and the illegal word has a guard, and all of these but SEAL issue their work at the
state's own instant. -/
theorem exec_guarded {i : Instr} {q : Issue} (hq : chordIssue i = some q) (hill : ∀ u, i ≠ .illegalEncoding q u)
    (hmov : ∀ rd hw imm, i ≠ .movz q rd hw imm ∧ i ≠ .movk q rd hw imm) (hseal : isSeal i = false) :
    ∃ k, workOf i = some k ∧ k.guarded = true ∧ ∀ s, exec i s = chord q k s := by
  cases i with
  | movz q' rd hw imm => cases hq; exact absurd rfl (hmov _ _ _).1
  | movk q' rd hw imm => cases hq; exact absurd rfl (hmov _ _ _).2
  | illegalEncoding q' u => cases hq; exact absurd rfl (hill _)
  | _ => cases hq <;> cases hseal <;> exact ⟨_, rfl, rfl, fun _ => rfl⟩

/-- What an instruction whose guard is false leaves (R39). -/
def State.Passed (s t : State) (q : Issue) (w : Issuer) : Prop :=
  t.mems = s.mems ∧ s.At t q w ((s.ctx q w).pc + 4) ∧ s.Flagged t q w {} ∧
    (∀ n < 16, (t.dev.lane q.lane).rd (Reg.CHE_TASK_STAT.LAST_EXC n) = (s.dev.lane q.lane).rd (Reg.CHE_TASK_STAT.LAST_EXC n) ∧
      (t.dev.lane q.lane).rd (Reg.CHE_TASK_STAT.EXC_CNT n) = (s.dev.lane q.lane).rd (Reg.CHE_TASK_STAT.EXC_CNT n)) ∧
    (∀ l, l ≠ q.lane → t.dev.lane l = s.dev.lane l) ∧ (∀ c, (t.dev.comp c).regs = (s.dev.comp c).regs)

@[simp] theorem Flags.or_empty (f : Flags) : f.or {} = f := by simp [Flags.or]

theorem State.ctx_advance {s : State} {q : Issue} {w : Issuer} (h : s.issues q w) :
    State.ctx { s with dev := (s.fetched q).advance q.lane w } q w = (s.ctx q w).goto (s.ctx q w).nextPc := by
  have hh : ((s.fetched q).lane q.lane).holds w.slot := Lane.holds_of_eng (State.eng_fetched s q) h.holds
  simp [State.ctx, Dev.advance, Lane.ctxAt_setCtx_same hh]

/-- A run moved to its next instruction has passed. -/
theorem State.passed_advance {s : State} {q : Issue} {w : Issuer} (h : s.issues q w) :
    s.Passed { s with dev := (s.fetched q).advance q.lane w } q w := by
  refine ⟨rfl, ⟨fun r => ?rg, fun p => ?rp, ?pc⟩, fun h1 _ => ?flags, fun n _ => ⟨?lastExc, ?excCnt⟩, fun l hl => ?lanes,
    fun c => ?comps⟩
  case rg => rw [State.ctx_advance h, Ctx.rg_goto]
  case rp => rw [State.ctx_advance h, Ctx.rp_goto]
  case pc => rw [State.ctx_advance h, Ctx.pc_goto, Ctx.nextPc]
  case flags => simp [Dev.advance]
  case lastExc => simp [Dev.advance, s.rd_fetched_of_lo q (f := Reg.CHE_TASK_STAT.LAST_EXC n) (show 24 < 32 by decide)
    (show 24 ≠ 0 by decide)]
  case excCnt => simp [Dev.advance, s.rd_fetched_of_lo q (f := Reg.CHE_TASK_STAT.EXC_CNT n) (show 16 < 32 by decide)
    (show 16 ≠ 0 by decide)]
  case lanes => simp [Dev.advance, Dev.lane_modLane_ne _ _ hl, State.lane_fetched_ne s q hl]
  case comps => simp [Dev.advance]

/-- A guarded instruction whose guard is false passes. -/
theorem chord_passes {s : State} {q : Issue} {w : Issuer} {k : Work} (h : s.issues q w) (hg : (s.ctx q w).guard q.pg q.pn = false)
    (hk : k.guarded = true) (ha : s.agrees q w k) : ∃ t, chord q k s = .next t ∧ s.Passed t q w :=
  ⟨_, chord_skips h ha hk hg, State.passed_advance h⟩

/-! ### SEAL acts at its own instant -/

/-- The state at the instant of a command: time has passed, and nothing else has happened. -/
def State.moved (s : State) (tm : Nat) : State :=
  { s with now := s.instant tm, dev := s.dev.elapse s.now (s.instant tm) }

@[simp] theorem State.mems_moved (s : State) (tm : Nat) : (s.moved tm).mems = s.mems := rfl
@[simp] theorem State.lane_moved (s : State) (tm : Nat) (l : LaneId) : (s.moved tm).dev.lane l = s.dev.lane l := by
  simp [State.moved]
@[simp] theorem State.comp_regs_moved (s : State) (tm : Nat) (c : CompId) :
    ((s.moved tm).dev.comp c).regs = (s.dev.comp c).regs := by
  simp [State.moved]

@[simp] theorem State.ctx_moved (s : State) (tm : Nat) (q : Issue) (w : Issuer) : (s.moved tm).ctx q w = s.ctx q w := by
  simp [State.ctx]

theorem exec_seal_eq (q : Issue) (tm : Nat) (s : State) : exec (.seal q tm) s = chord q workSeal (s.moved tm) := rfl

theorem State.issues.moved {s : State} {q : Issue} {w : Issuer} (h : s.issues q w) (tm : Nat) : (s.moved tm).issues q w := by
  simpa [State.issues] using h

theorem State.agrees_moved {s : State} {q : Issue} {w : Issuer} {k : Work} (h : s.agrees q w k) (tm : Nat) :
    (s.moved tm).agrees q w k := by
  simpa [State.agrees] using h

theorem State.Passed.of_moved {s t : State} {q : Issue} {w : Issuer} {tm : Nat} (h : (s.moved tm).Passed t q w) :
    s.Passed t q w := by
  simpa [State.Passed, State.At, State.Flagged] using h

/-- Settles O9: a guarded instruction passes, SEAL on the state at its own instant; the illegal word has no guard. -/
theorem guardOff : Obligations.GuardOff := by
  intro s q w h hg
  refine ⟨fun i hq hill hmov ha => ?_, fun word hw ha => exec_illegal h ha hw⟩
  cases hseal : isSeal i with
  | true =>
    obtain ⟨tm, rfl⟩ := eq_seal_of_isSeal hseal hq
    have ha' : (s.moved tm).agrees q w workSeal := State.agrees_moved (ha _ rfl) tm
    obtain ⟨t, ht, hp⟩ := chord_passes (h.moved tm) (by rwa [State.ctx_moved]) rfl ha'
    exact ⟨t, (exec_seal_eq q tm s).trans ht, hp.of_moved⟩
  | false =>
    obtain ⟨k, hk, hkg, he⟩ := exec_guarded hq hill hmov hseal
    obtain ⟨t, ht, hp⟩ := chord_passes h hg hkg (ha k hk)
    exact ⟨t, (he s).trans ht, hp⟩

end Sys2Proof.Machine
end
